-- ==== Sys2Proof/Word.lean ====
section
/-! DEFINITION. Word: the number types of the part. Every object of the HB640 is numbered (00_scope,
"Numbering conventions"); each kind of object gets the finite type of its numbers, so that no record
of the model can name a line, door or zone that the part does not have. -/

namespace Sys2Proof

/-- One byte on the panel link (R187). -/
abbrev Byte := BitVec 8

/-- The 16-bit CRC register (R187). -/
abbrev Crc := BitVec 16

/-- Lines 0 to 63 (R1). -/
abbrev LineId := Fin 64

/-- Staff loops 1 to 8 (R21); the value is the loop number less 1. -/
abbrev LoopId := Fin 8

/-- Suppression zones 1 to 12 (R38); the value is the zone number less 1. -/
abbrev ZoneId := Fin 12

/-- Strongrooms 1 to 12 (R94); the value is the strongroom number less 1, so zone n and strongroom n
have one value. -/
abbrev RoomId := Fin 12

/-- Release actuators A1 to A32 (R79); the value is the number less 1. -/
abbrev ActId := Fin 32

/-- Doors D1 to D20 (R138); the value is the number less 1. -/
abbrev DoorId := Fin 20

/-- Access windows W0 to W15 (R180). -/
abbrev WindowId := Fin 16

/-- Credential slots 0 to 2047 (R112). -/
abbrev SlotId := Fin 2048

/-- Credential rows 0 to 255 of eight slots (R112). -/
abbrev RowId := Fin 256

/-- A station as a staff loop reports it: 0 is the unresolved station, 1 to 6 are S1 to S6 (R22). -/
abbrev StationNo := Fin 7

end Sys2Proof
end

