-- ==== Sys2Proof/Syntax.lean ====
section
/-! DEFINITION. Syntax: the commands of the part, one constructor for each row of
spec/opcode_table.json.

The rows are of two kinds. The first 35 are EVENTS: starts and loss of power, the end of a conversion,
a deadline that is reached, the end of a pulse or of a nonvolatile write, a byte on the link. An event's
operands say which object it concerns and what the part senses of the outside in it. The other 40 are
REQUESTS: a valid frame of that kind arrives on the panel link. A request's operands are its tag and the
fields of its body AS NUMBERS, in the order its rule lists them, because every number a body field can
hold has a meaning (BAD_VALUE where it is out of range). -/

namespace Sys2Proof

/-- The result of one continuity test of an armed coil (R83). -/
inductive TestResult where
  | clean
  | openCoil
  | short
  deriving DecidableEq, Repr

/-- One band of a SET_CLASS body (R6): band code, low and high, as the frame carries them. -/
structure BandField where
  code : Nat
  low  : Nat
  high : Nat
  deriving DecidableEq, Repr

/-- The commands of the part (spec/opcode_table.json, in the table's order). -/
inductive Instr where
  /-- COLD_START (R203). -/
  | coldStart
  /-- WARM_START (R203): `offMs` is the time the backup cell counted while main power was off (R178). -/
  | warmStart (offMs : Nat)
  /-- POWER_LOSS (R201): `written` says in which of its two ways the running operation ended. -/
  | powerLoss (written : Bool)
  /-- CONVERSION_END (R3): the resistance in ohms of the line under conversion, `none` for an open circuit. -/
  | conversionEnd (ohms : Option Nat)
  /-- DURESS_DEADLINE (R25). -/
  | duressDeadline (k : LoopId)
  /-- STUCK_DEADLINE (R26). -/
  | stuckDeadline (k : LoopId)
  /-- COUNTDOWN_EXPIRY (R73). -/
  | countdownExpiry (z : ZoneId)
  /-- HOLD_DEADLINE (R76). -/
  | holdDeadline (z : ZoneId)
  /-- PULSE_END (R87, R88): `current` is whether coil current was seen, `coils` what a continuity test of
  each coil would give now (used where this end lets due tests be made, R82). -/
  | pulseEnd (a : ActId) (current : Bool) (coils : Vector TestResult 32)
  /-- RECHARGE_PAUSE_END (R86). -/
  | rechargePauseEnd
  /-- CONTINUITY_TEST (R82): `result` is what the test measures. -/
  | continuityTest (a : ActId) (result : TestResult)
  /-- SOAK_EXPIRY (R55). -/
  | soakExpiry (z : ZoneId)
  /-- VENT_EXPIRY (R55). -/
  | ventExpiry (z : ZoneId)
  /-- INTERVAL_DEADLINE (R107). -/
  | intervalDeadline (v : RoomId)
  /-- RESPONSE_WINDOW_DEADLINE (R109). -/
  | responseWindowDeadline (v : RoomId)
  /-- OVERCURRENT_TRIP (R143). -/
  | overcurrentTrip (d : DoorId)
  /-- COOL_DOWN_END (R143). -/
  | coolDownEnd (d : DoorId)
  /-- MOTION_TIMEOUT (R144). -/
  | motionTimeout (d : DoorId)
  /-- RELEASE_DEADLINE (R146). -/
  | releaseDeadline (d : DoorId)
  /-- HELD_OPEN_DEADLINE (R149). -/
  | heldOpenDeadline (d : DoorId)
  /-- PAIR_WINDOW_LAPSE (R131). -/
  | pairWindowLapse (d : DoorId)
  /-- DELAY_HOLD_END (R131). -/
  | delayHoldEnd (d : DoorId)
  /-- CONFIRM_TIMEOUT (R131). -/
  | confirmTimeout (d : DoorId)
  /-- MINUTE_BOUNDARY (R179). -/
  | minuteBoundary
  /-- BYTE_RECEIVED (R187): the byte, and whether its stop bit was high (R188). -/
  | byteReceived (byte : Byte) (stopHigh : Bool)
  /-- BYTE_GAP_TIMEOUT (R188). -/
  | byteGapTimeout
  /-- BREAK (R189). -/
  | linkBreak
  /-- REPLY_SENT (R190): the last byte of the reply at the head of the transmit queue is sent. -/
  | replySent
  /-- HOST_PRESENCE_TIMEOUT (R192). -/
  | hostPresenceTimeout
  /-- MARK_WRITE_DONE (R200). -/
  | markWriteDone
  /-- SETTINGS_WRITE_DONE (R200). -/
  | settingsWriteDone
  /-- COMMIT_DONE (R118). -/
  | commitDone
  /-- DEFERRED_PRESENT (R119): `index` is the place of the deferred PRESENT among those waiting. -/
  | deferredPresent (index : Nat)
  /-- DEFERRED_RECHECK (R119). -/
  | deferredRecheck (d : DoorId)
  /-- DEFERRED_GET_CREDENTIAL (R114): `index` is its place among those waiting. -/
  | deferredGetCredential (index : Nat)
  /-- STATUS (R202). -/
  | status (tag section_ : Nat)
  /-- GET_LINE (R17). -/
  | getLine (tag line : Nat)
  /-- MEASURE_LINE (R16). -/
  | measureLine (tag line : Nat)
  /-- GET_ZONE (R60). -/
  | getZone (tag zone : Nat)
  /-- GET_ACTUATOR (R92). -/
  | getActuator (tag actuator : Nat)
  /-- GET_DOOR (R160). -/
  | getDoor (tag door : Nat)
  /-- GET_VESTIBULE (R177). -/
  | getVestibule (tag room : Nat)
  /-- GET_OCCUPANCY (R110). -/
  | getOccupancy (tag room : Nat)
  /-- GET_CREDENTIAL (R114). -/
  | getCredential (tag slot : Nat)
  /-- GET_CLOCK (R186). -/
  | getClock (tag : Nat)
  /-- FETCH_NOTICE (R198). -/
  | fetchNotice (tag : Nat)
  /-- SET_CLASS (R6). -/
  | setClass (tag cls confirm hysteresis : Nat) (bands : List BandField)
  /-- SET_LOOP (R36): the six locations in order S1 to S6. -/
  | setLoop (tag loop tErr tDuress tStuck freeze l1 l2 l3 l4 l5 l6 : Nat)
  /-- SET_ZONE (R61). -/
  | setZone (tag zone base ext tMax tMan tResume hold limit soak vent : Nat)
  /-- SET_ACTUATOR (R80). -/
  | setActuator (tag actuator zone : Nat)
  /-- SET_DOOR (R158): the settings in the order of R139. -/
  | setDoor (tag door role room grantMode delayHold confirmTimeout pairWindow releaseTime heldOpen loneInterval
      loneWindow : Nat)
  /-- SET_WINDOW (R180). -/
  | setWindow (tag window days start stop report : Nat)
  /-- SET_NOTICE_MASK (R194): pairs of a notice kind and a setting. -/
  | setNoticeMask (tag : Nat) (pairs : List (Nat × Nat))
  /-- ROW_OPEN (R115). -/
  | rowOpen (tag row : Nat)
  /-- SLOT_STAGE (R116). -/
  | slotStage (tag slot badge state privileges windows flags : Nat)
  /-- ROW_COMMIT (R117). -/
  | rowCommit (tag : Nat)
  /-- ROW_DISCARD (R115). -/
  | rowDiscard (tag : Nat)
  /-- PRESENT (R123). -/
  | present (tag door reader badge : Nat)
  /-- CONFIRM (R130). -/
  | confirm (tag door : Nat)
  /-- DENY (R130). -/
  | deny (tag door : Nat)
  /-- FREEZE_SET (R121). -/
  | freezeSet (tag : Nat)
  /-- FREEZE_CLEAR (R121). -/
  | freezeClear (tag : Nat)
  /-- MODE_SET (R184). -/
  | modeSet (tag value : Nat)
  /-- VESTIBULE_FLUSH (R176). -/
  | vestibuleFlush (tag room : Nat)
  /-- OCCUPANT_CLEAR (R104). -/
  | occupantClear (tag room target slot : Nat)
  /-- ZONE_ISOLATE (R56). -/
  | zoneIsolate (tag zone : Nat)
  /-- ZONE_DEISOLATE (R57). -/
  | zoneDeisolate (tag zone : Nat)
  /-- ZONE_RESET (R54). -/
  | zoneReset (tag zone : Nat)
  /-- RELEASE_ZONE (R46). -/
  | releaseZone (tag zone : Nat)
  /-- ACTUATOR_REARM (R91). -/
  | actuatorRearm (tag actuator : Nat)
  /-- DOOR_MODE (R155). -/
  | doorMode (tag door mode : Nat)
  /-- DOOR_DRIVE (R156). -/
  | doorDrive (tag door direction : Nat)
  /-- DOOR_SERVICE (R157). -/
  | doorService (tag door : Nat)
  /-- TIME_SET (R185). -/
  | timeSet (tag minute second : Nat)
  /-- RESTART (R204). -/
  | restart (tag : Nat)
  deriving DecidableEq, Repr

end Sys2Proof
end

