-- ==== Sys2Proof/WellFormed.lean ====
section
/-! DEFINITION. WellFormed: the commands whose operands fit the widths the spec gives them: tags and one-byte
fields below 256, two-byte fields below 65536, four-byte fields below 4294967296, and bodies that fit a
frame (R187, 11.6). An operand in its width but out of its RANGE is well formed: its rule answers
BAD_VALUE. Events carry typed operands and are always well formed. -/

namespace Sys2Proof

/-- A one-byte field. -/
def byteOk (n : Nat) : Bool := n < 256

/-- A two-byte field. -/
def wordOk (n : Nat) : Bool := n < 65536

/-- A four-byte field. -/
def longOk (n : Nat) : Bool := n < 4294967296

/-- A band of a SET_CLASS body. -/
def BandField.ok (b : BandField) : Bool := byteOk b.code && wordOk b.low && wordOk b.high

/-- The operands of a command fit their widths, and its body fits a frame of at most 250 bytes. -/
def Instr.wellFormed : Instr → Bool
  | .coldStart | .warmStart _ | .powerLoss _ | .conversionEnd _ | .duressDeadline _ | .stuckDeadline _
  | .countdownExpiry _ | .holdDeadline _ | .pulseEnd _ _ _ | .rechargePauseEnd | .continuityTest _ _
  | .soakExpiry _ | .ventExpiry _ | .intervalDeadline _ | .responseWindowDeadline _ | .overcurrentTrip _
  | .coolDownEnd _ | .motionTimeout _ | .releaseDeadline _ | .heldOpenDeadline _ | .pairWindowLapse _
  | .delayHoldEnd _ | .confirmTimeout _ | .minuteBoundary | .byteReceived _ _ | .byteGapTimeout | .linkBreak
  | .replySent | .hostPresenceTimeout | .markWriteDone | .settingsWriteDone | .commitDone | .deferredPresent _
  | .deferredRecheck _ | .deferredGetCredential _ => true
  | .status tag a => byteOk tag && byteOk a
  | .getLine tag a => byteOk tag && byteOk a
  | .measureLine tag a => byteOk tag && byteOk a
  | .getZone tag a => byteOk tag && byteOk a
  | .getActuator tag a => byteOk tag && byteOk a
  | .getDoor tag a => byteOk tag && byteOk a
  | .getVestibule tag a => byteOk tag && byteOk a
  | .getOccupancy tag a => byteOk tag && byteOk a
  | .getCredential tag a => byteOk tag && wordOk a
  | .getClock tag => byteOk tag
  | .fetchNotice tag => byteOk tag
  | .setClass tag cls count hyst bands =>
    byteOk tag && byteOk cls && byteOk count && byteOk hyst && bands.length ≤ 48 && bands.all BandField.ok
  | .setLoop tag loop tErr tDuress tStuck freeze l1 l2 l3 l4 l5 l6 =>
    byteOk tag && byteOk loop && wordOk tErr && wordOk tDuress && wordOk tStuck && byteOk freeze &&
    byteOk l1 && byteOk l2 && byteOk l3 && byteOk l4 && byteOk l5 && byteOk l6
  | .setZone tag zone base ext tMax tMan tResume hold limit soak vent =>
    byteOk tag && byteOk zone && byteOk base && byteOk ext && byteOk tMax && byteOk tMan && byteOk tResume && byteOk hold &&
    wordOk limit && byteOk soak && byteOk vent
  | .setActuator tag a z => byteOk tag && byteOk a && byteOk z
  | .setDoor tag door role room grantMode delayHold timeout pairWindow releaseTime heldOpen loneInterval loneWindow =>
    byteOk tag && byteOk door && byteOk role && byteOk room && byteOk grantMode && byteOk delayHold &&
    byteOk timeout && byteOk pairWindow && byteOk releaseTime && wordOk heldOpen && byteOk loneInterval &&
    wordOk loneWindow
  | .setWindow tag window days start stop report =>
    byteOk tag && byteOk window && byteOk days && wordOk start && wordOk stop && byteOk report
  | .setNoticeMask tag pairs =>
    byteOk tag && pairs.length ≤ 123 && pairs.all (fun p => byteOk p.1 && byteOk p.2)
  | .rowOpen tag a => byteOk tag && byteOk a
  | .slotStage tag slot badge state privileges windows flags =>
    byteOk tag && wordOk slot && longOk badge && byteOk state && wordOk privileges && wordOk windows && byteOk flags
  | .rowCommit tag => byteOk tag
  | .rowDiscard tag => byteOk tag
  | .present tag door reader badge => byteOk tag && byteOk door && byteOk reader && longOk badge
  | .confirm tag a => byteOk tag && byteOk a
  | .deny tag a => byteOk tag && byteOk a
  | .freezeSet tag => byteOk tag
  | .freezeClear tag => byteOk tag
  | .modeSet tag a => byteOk tag && byteOk a
  | .vestibuleFlush tag a => byteOk tag && byteOk a
  | .occupantClear tag room target slot => byteOk tag && byteOk room && byteOk target && wordOk slot
  | .zoneIsolate tag a => byteOk tag && byteOk a
  | .zoneDeisolate tag a => byteOk tag && byteOk a
  | .zoneReset tag a => byteOk tag && byteOk a
  | .releaseZone tag a => byteOk tag && byteOk a
  | .actuatorRearm tag a => byteOk tag && byteOk a
  | .doorMode tag door mode => byteOk tag && byteOk door && byteOk mode
  | .doorDrive tag door direction => byteOk tag && byteOk door && byteOk direction
  | .doorService tag a => byteOk tag && byteOk a
  | .timeSet tag minute second => byteOk tag && wordOk minute && byteOk second
  | .restart tag => byteOk tag

end Sys2Proof
end

