-- ==== Sys2Proof/Decode.lean ====
section
/-! DEFINITION. Decode: the words of spec/opcode_table.json, and the bodies of the requests on the panel link
(R190, 11.6). The opcode table gives no row any bits, so no word spells a command. A request's kind, tag
and body do spell one: the kind numbers and body lengths are those of 11.6. The order and widths of the
fields of a body that 11.6 does not lay out follow the order in which its rule lists them (PRESUMED,
notes/assumptions/5.md). -/

namespace Sys2Proof

/-- The command that a word spells by the table's bits: the table gives bits to no row. -/
def decodeTableWord (_nbits _w : Nat) : Option Instr := none

/-- What a valid frame holds for the link: a request, or one of the two refusals before any rule (R190). -/
inductive Decoded where
  | unknownKind
  | frameLength
  | request (i : Instr)
  deriving DecidableEq, Repr

/-- A two-byte field, high byte first (R187). -/
def be2 (a b : Byte) : Nat := a.toNat * 256 + b.toNat

/-- A four-byte field, high byte first (R187). -/
def be4 (a b c d : Byte) : Nat := ((a.toNat * 256 + b.toNat) * 256 + c.toNat) * 256 + d.toNat

/-- A body of no bytes. -/
def body0 (i : Instr) : List Byte → Decoded
  | [] => .request i
  | _ => .frameLength

/-- A body of one byte. -/
def body1 (f : Nat → Instr) : List Byte → Decoded
  | [a] => .request (f a.toNat)
  | _ => .frameLength

/-- A body of two bytes. -/
def body2 (f : Nat → Nat → Instr) : List Byte → Decoded
  | [a, b] => .request (f a.toNat b.toNat)
  | _ => .frameLength

/-- The bands of a SET_CLASS body: exactly as many as its count says. -/
def decodeBands : Nat → List Byte → Option (List BandField)
  | 0, [] => some []
  | n + 1, c :: l1 :: l0 :: h1 :: h0 :: rest => (decodeBands n rest).map (fun bs => ⟨c.toNat, be2 l1 l0, be2 h1 h0⟩ :: bs)
  | _, _ => none

/-- The pairs of a SET_NOTICE_MASK body: exactly as many as its count says. -/
def decodePairs : Nat → List Byte → Option (List (Nat × Nat))
  | 0, [] => some []
  | n + 1, k :: v :: rest => (decodePairs n rest).map (fun ps => (k.toNat, v.toNat) :: ps)
  | _, _ => none

/-- SET_CLASS: class, confirm count, hysteresis, band count, bands (R6, 11.6). -/
def decodeSetClass (tag : Nat) : List Byte → Decoded
  | cls :: confirm :: hyst :: n :: rest =>
    match decodeBands n.toNat rest with
    | some bs => .request (.setClass tag cls.toNat confirm.toNat hyst.toNat bs)
    | none => .frameLength
  | _ => .frameLength

/-- SET_LOOP (R36). -/
def decodeSetLoop (tag : Nat) : List Byte → Decoded
  | [k, e1, e0, d1, d0, s1, s0, f, l1, l2, l3, l4, l5, l6] =>
    .request (.setLoop tag k.toNat (be2 e1 e0) (be2 d1 d0) (be2 s1 s0) f.toNat l1.toNat l2.toNat l3.toNat l4.toNat l5.toNat
      l6.toNat)
  | _ => .frameLength

/-- SET_ZONE (R61). -/
def decodeSetZone (tag : Nat) : List Byte → Decoded
  | [z, base, ext, tMax, tMan, tResume, hold, l1, l0, soak, vent] =>
    .request (.setZone tag z.toNat base.toNat ext.toNat tMax.toNat tMan.toNat tResume.toNat hold.toNat (be2 l1 l0) soak.toNat
      vent.toNat)
  | _ => .frameLength

/-- SET_DOOR (R139, R158). -/
def decodeSetDoor (tag : Nat) : List Byte → Decoded
  | [d, role, room, gm, dh, ct, pw, rt, h1, h0, li, w1, w0] =>
    .request (.setDoor tag d.toNat role.toNat room.toNat gm.toNat dh.toNat ct.toNat pw.toNat rt.toNat (be2 h1 h0) li.toNat
      (be2 w1 w0))
  | _ => .frameLength

/-- SET_WINDOW (R180). -/
def decodeSetWindow (tag : Nat) : List Byte → Decoded
  | [w, days, s1, s0, e1, e0, r] => .request (.setWindow tag w.toNat days.toNat (be2 s1 s0) (be2 e1 e0) r.toNat)
  | _ => .frameLength

/-- SET_NOTICE_MASK: count, then pairs of kind and setting (R194). -/
def decodeSetNoticeMask (tag : Nat) : List Byte → Decoded
  | n :: rest =>
    match decodePairs n.toNat rest with
    | some ps => .request (.setNoticeMask tag ps)
    | none => .frameLength
  | _ => .frameLength

/-- SLOT_STAGE: slot and credential record as 11.6 lays it out (R116). -/
def decodeSlotStage (tag : Nat) : List Byte → Decoded
  | [s1, s0, b3, b2, b1, b0, st, p1, p0, w1, w0, f] =>
    .request (.slotStage tag (be2 s1 s0) (be4 b3 b2 b1 b0) st.toNat (be2 p1 p0) (be2 w1 w0) f.toNat)
  | _ => .frameLength

/-- PRESENT: door, reader, badge as 11.6 lays it out (R123). -/
def decodePresent (tag : Nat) : List Byte → Decoded
  | [d, r, b3, b2, b1, b0] => .request (.present tag d.toNat r.toNat (be4 b3 b2 b1 b0))
  | _ => .frameLength

/-- OCCUPANT_CLEAR (R104). -/
def decodeOccupantClear (tag : Nat) : List Byte → Decoded
  | [v, t, s1, s0] => .request (.occupantClear tag v.toNat t.toNat (be2 s1 s0))
  | _ => .frameLength

/-- GET_CREDENTIAL (R114). -/
def decodeGetCredential (tag : Nat) : List Byte → Decoded
  | [s1, s0] => .request (.getCredential tag (be2 s1 s0))
  | _ => .frameLength

/-- TIME_SET (R185). -/
def decodeTimeSet (tag : Nat) : List Byte → Decoded
  | [m1, m0, s] => .request (.timeSet tag (be2 m1 m0) s.toNat)
  | _ => .frameLength

/-- The request of a kind, a tag and a body: the kind is checked before the body's length (R190, 11.6). -/
def decodeRequest (kind tag : Nat) (body : List Byte) : Decoded :=
  match kind with
  | 0x01 => body1 (.status tag) body
  | 0x02 => body1 (.getLine tag) body
  | 0x03 => body1 (.measureLine tag) body
  | 0x04 => body1 (.getZone tag) body
  | 0x05 => body1 (.getActuator tag) body
  | 0x06 => body1 (.getDoor tag) body
  | 0x07 => body1 (.getVestibule tag) body
  | 0x08 => body1 (.getOccupancy tag) body
  | 0x09 => decodeGetCredential tag body
  | 0x0A => body0 (.getClock tag) body
  | 0x0B => body0 (.fetchNotice tag) body
  | 0x10 => decodeSetClass tag body
  | 0x11 => decodeSetLoop tag body
  | 0x12 => decodeSetZone tag body
  | 0x13 => body2 (.setActuator tag) body
  | 0x14 => decodeSetDoor tag body
  | 0x15 => decodeSetWindow tag body
  | 0x16 => decodeSetNoticeMask tag body
  | 0x20 => body1 (.rowOpen tag) body
  | 0x21 => decodeSlotStage tag body
  | 0x22 => body0 (.rowCommit tag) body
  | 0x23 => body0 (.rowDiscard tag) body
  | 0x30 => decodePresent tag body
  | 0x31 => body1 (.confirm tag) body
  | 0x32 => body1 (.deny tag) body
  | 0x33 => body0 (.freezeSet tag) body
  | 0x34 => body0 (.freezeClear tag) body
  | 0x35 => body1 (.modeSet tag) body
  | 0x36 => body1 (.vestibuleFlush tag) body
  | 0x37 => decodeOccupantClear tag body
  | 0x40 => body1 (.zoneIsolate tag) body
  | 0x41 => body1 (.zoneDeisolate tag) body
  | 0x42 => body1 (.zoneReset tag) body
  | 0x43 => body1 (.releaseZone tag) body
  | 0x44 => body1 (.actuatorRearm tag) body
  | 0x48 => body2 (.doorMode tag) body
  | 0x49 => body2 (.doorDrive tag) body
  | 0x4A => body1 (.doorService tag) body
  | 0x50 => decodeTimeSet tag body
  | 0x51 => body0 (.restart tag) body
  | _ => .unknownKind

/-! ## The encoder -/

/-- One byte. -/
def byteOf (n : Nat) : Byte := BitVec.ofNat 8 n

/-- Two bytes, high byte first. -/
def bytes2 (n : Nat) : List Byte := [byteOf (n / 256), byteOf n]

/-- Four bytes, high byte first. -/
def bytes4 (n : Nat) : List Byte := [byteOf (n / 16777216), byteOf (n / 65536), byteOf (n / 256), byteOf n]

/-- One byte for each number. -/
def bytes (ns : List Nat) : List Byte := ns.map byteOf

/-- The bands of a SET_CLASS body. -/
def encodeBands : List BandField → List Byte
  | [] => []
  | b :: rest => byteOf b.code :: (bytes2 b.low ++ bytes2 b.high ++ encodeBands rest)

/-- The pairs of a SET_NOTICE_MASK body. -/
def encodePairs : List (Nat × Nat) → List Byte
  | [] => []
  | p :: rest => byteOf p.1 :: byteOf p.2 :: encodePairs rest

/-- A request as the host frames it: kind, tag and body. -/
structure RequestFrame where
  kind : Nat
  tag  : Nat
  body : List Byte
  deriving DecidableEq, Repr

/-- The kind, tag and body of a request; an event has none (11.6). -/
def encodeRequest : Instr → Option RequestFrame
  | .coldStart | .warmStart _ | .powerLoss _ | .conversionEnd _ | .duressDeadline _ | .stuckDeadline _
  | .countdownExpiry _ | .holdDeadline _ | .pulseEnd _ _ _ | .rechargePauseEnd | .continuityTest _ _
  | .soakExpiry _ | .ventExpiry _ | .intervalDeadline _ | .responseWindowDeadline _ | .overcurrentTrip _
  | .coolDownEnd _ | .motionTimeout _ | .releaseDeadline _ | .heldOpenDeadline _ | .pairWindowLapse _
  | .delayHoldEnd _ | .confirmTimeout _ | .minuteBoundary | .byteReceived _ _ | .byteGapTimeout | .linkBreak
  | .replySent | .hostPresenceTimeout | .markWriteDone | .settingsWriteDone | .commitDone | .deferredPresent _
  | .deferredRecheck _ | .deferredGetCredential _ => none
  | .status tag a => some ⟨0x01, tag, bytes [a]⟩
  | .getLine tag a => some ⟨0x02, tag, bytes [a]⟩
  | .measureLine tag a => some ⟨0x03, tag, bytes [a]⟩
  | .getZone tag a => some ⟨0x04, tag, bytes [a]⟩
  | .getActuator tag a => some ⟨0x05, tag, bytes [a]⟩
  | .getDoor tag a => some ⟨0x06, tag, bytes [a]⟩
  | .getVestibule tag a => some ⟨0x07, tag, bytes [a]⟩
  | .getOccupancy tag a => some ⟨0x08, tag, bytes [a]⟩
  | .getCredential tag a => some ⟨0x09, tag, bytes2 a⟩
  | .getClock tag => some ⟨0x0A, tag, []⟩
  | .fetchNotice tag => some ⟨0x0B, tag, []⟩
  | .setClass tag cls confirm hyst bands =>
    some ⟨0x10, tag, bytes [cls, confirm, hyst, bands.length] ++ encodeBands bands⟩
  | .setLoop tag loop tErr tDuress tStuck freeze l1 l2 l3 l4 l5 l6 =>
    some ⟨0x11, tag,
      byteOf loop :: (bytes2 tErr ++ bytes2 tDuress ++ bytes2 tStuck ++ bytes [freeze, l1, l2, l3, l4, l5, l6])⟩
  | .setZone tag zone base ext tMax tMan tResume hold limit soak vent =>
    some ⟨0x12, tag, bytes [zone, base, ext, tMax, tMan, tResume, hold] ++ bytes2 limit ++ bytes [soak, vent]⟩
  | .setActuator tag a z => some ⟨0x13, tag, bytes [a, z]⟩
  | .setDoor tag door role room gm dh ct pw rt ho li lw =>
    some ⟨0x14, tag, bytes [door, role, room, gm, dh, ct, pw, rt] ++ bytes2 ho ++ bytes [li] ++ bytes2 lw⟩
  | .setWindow tag window days start stop report =>
    some ⟨0x15, tag, bytes [window, days] ++ bytes2 start ++ bytes2 stop ++ bytes [report]⟩
  | .setNoticeMask tag pairs => some ⟨0x16, tag, byteOf pairs.length :: encodePairs pairs⟩
  | .rowOpen tag a => some ⟨0x20, tag, bytes [a]⟩
  | .slotStage tag slot badge state privileges windows flags =>
    some ⟨0x21, tag, bytes2 slot ++ bytes4 badge ++ bytes [state] ++ bytes2 privileges ++ bytes2 windows ++ bytes [flags]⟩
  | .rowCommit tag => some ⟨0x22, tag, []⟩
  | .rowDiscard tag => some ⟨0x23, tag, []⟩
  | .present tag door reader badge => some ⟨0x30, tag, bytes [door, reader] ++ bytes4 badge⟩
  | .confirm tag a => some ⟨0x31, tag, bytes [a]⟩
  | .deny tag a => some ⟨0x32, tag, bytes [a]⟩
  | .freezeSet tag => some ⟨0x33, tag, []⟩
  | .freezeClear tag => some ⟨0x34, tag, []⟩
  | .modeSet tag a => some ⟨0x35, tag, bytes [a]⟩
  | .vestibuleFlush tag a => some ⟨0x36, tag, bytes [a]⟩
  | .occupantClear tag room target slot => some ⟨0x37, tag, bytes [room, target] ++ bytes2 slot⟩
  | .zoneIsolate tag a => some ⟨0x40, tag, bytes [a]⟩
  | .zoneDeisolate tag a => some ⟨0x41, tag, bytes [a]⟩
  | .zoneReset tag a => some ⟨0x42, tag, bytes [a]⟩
  | .releaseZone tag a => some ⟨0x43, tag, bytes [a]⟩
  | .actuatorRearm tag a => some ⟨0x44, tag, bytes [a]⟩
  | .doorMode tag door mode => some ⟨0x48, tag, bytes [door, mode]⟩
  | .doorDrive tag door direction => some ⟨0x49, tag, bytes [door, direction]⟩
  | .doorService tag a => some ⟨0x4A, tag, bytes [a]⟩
  | .timeSet tag minute second => some ⟨0x50, tag, bytes2 minute ++ bytes [second]⟩
  | .restart tag => some ⟨0x51, tag, []⟩

end Sys2Proof
end

