-- ==== Sys2Proof/Config.lean ====
section
/-! DEFINITION. Config: the figures that silicon revision B fixes and that no setting changes. The spec
leaves no VALUE of the part open (every choice it leaves open is an operand of a command: see
notes/assumptions), so this file declares no free value. Times are in ms unless a name says otherwise. -/

namespace Sys2Proof.Config

/-- One conversion takes 250 µs (R3), so four conversions make one ms. -/
def conversionsPerMs : Nat := 4

/-- The series resistor of the converter, in ohms (section 1.2). -/
def seriesOhms : Nat := 4700

/-- The highest converter code (R3). -/
def maxCode : Nat := 1023

/-- The resistance estimate saturates here (R4). -/
def maxEstimate : Nat := 65535

/-- A fast-follow loop is due this long after each of its conversions (R15). -/
def fastFollowMs : Nat := 5

/-- The part is READY at the end of this full scan (R19). -/
def settlingScans : Nat := 3

/-- The most bands in a band table (R5). -/
def maxBands : Nat := 10

/-- A zone holds at most this many assigned actuators (R79). -/
def actuatorsPerZone : Nat := 4

/-- A pulse energises a coil for this long (R85). -/
def pulseMs : Nat := 400

/-- The most pulses in flight (R85). -/
def maxInFlight : Nat := 2

/-- The most pulses between two recharge pauses (R86). -/
def pulsesPerCharge : Nat := 6

/-- A recharge pause lasts this long (R86). -/
def pauseMs : Nat := 1500

/-- An actuator receives at most this many pulses per release (R88). -/
def maxAttempts : Nat := 3

/-- A continuity test is next due this long after a test (R82). -/
def testIntervalMs : Nat := 10000

/-- A strongroom lists at most this many credentials (R63, R98). -/
def maxListed : Nat := 16

/-- An assumed-out record holds at most this many entries (R94). -/
def maxAssumedOut : Nat := 8

/-- A vestibule holds at most this many occupants (R163). -/
def maxOccupants : Nat := 2

/-- At most this many vestibules exist (R162). -/
def maxVestibules : Nat := 8

/-- Badge numbers end below this value, which matches no slot (R113). -/
def badBadge : Nat := 4294967295

/-- The bolt motion timeout (R139). -/
def motionTimeoutMs : Nat := 3000

/-- The trip cool-down (R139). -/
def coolDownMs : Nat := 2000

/-- The trip limit (R139). -/
def tripLimit : Nat := 5

/-- Minutes in the week (R178). -/
def minutesPerWeek : Nat := 10080

/-- Minutes in a day (R178). -/
def minutesPerDay : Nat := 1440

/-- The host is absent after this long without a valid frame (R192). -/
def presenceMs : Nat := 10000

/-- The transmit queue holds at most this many LINK_BUSY replies (R190). -/
def maxBusyReplies : Nat := 3

/-- The notice queue holds at most this many entries (R193). -/
def maxNotices : Nat := 64

/-- At most this many of them are of a class other than LIFE (R196). -/
def maxNonLife : Nat := 48

/-- Repeat counts and the lost count stay here once they reach it (R195, R196). -/
def maxCount : Nat := 255

/-- A mark or settings write takes this long (R200). -/
def writeMs : Nat := 10

/-- A row commit takes this long (R200). -/
def commitMs : Nat := 40

end Sys2Proof.Config
end

