-- ==== Sys2Proof/Machine/Records.lean ====
section
/-! DEFINITION. Records: the vocabularies and the records of the twelve blocks, each as the rule of
spec/ that introduces it lists its fields. Section 1 to 11 below follow the chapters. Durations are
elapsed times in ms since the last start unless a field says otherwise. -/

namespace Sys2Proof.Machine

/-! ## Line supervision (R1 to R20) -/

/-- The four classes of line (R5). -/
inductive LineClass where
  | detector | door | staff | station
  deriving DecidableEq, Repr

/-- A confirmed or candidate band (R2, R5); `station k` is S(k+1). -/
inductive Band where
  | unknown | short | openLine | opened | normal | alarm | bolted | unbolted | egress | manual | abort
  | station (k : Fin 6)
  | unclassified
  deriving DecidableEq, Repr

/-- One band of a band table: a name and an inclusive code range (R5). -/
structure BandRange where
  band : Band
  low  : Nat
  high : Nat
  deriving DecidableEq, Repr

/-- The parameter set of one class (R5). -/
structure ClassParams where
  confirm    : Nat
  hysteresis : Nat
  bands      : List BandRange
  deriving DecidableEq, Repr

/-- One line record: the five fields of R2, and the confirmation time that R18 keeps for a band
confirmed during settling until READY hands it over (`heldAt`, absent otherwise). -/
structure LineRecord where
  confirmed : Band
  candidate : Option Band
  count     : Nat
  lastCode  : Option Nat
  lastTime  : Option Nat
  heldAt    : Option Nat
  deriving DecidableEq, Repr

/-- Why the arbiter granted the conversion under way (R13). A measurement carries whether its reply is
still owed (a BREAK discards it, R20). -/
inductive Grantor where
  | fastFollow
  | measurement (owed : Bool)
  | scan
  deriving DecidableEq, Repr

/-- The conversion under way: the converter is always busy (section 1.5). -/
structure Conversion where
  line    : LineId
  grantor : Grantor
  deriving DecidableEq, Repr

/-- The pending host measurement (R16). -/
structure Measurement where
  line : LineId
  owed : Bool
  deriving DecidableEq, Repr

/-- The converter arbiter (R13 to R15) and start-up settling (R18, R19). -/
structure Supervisor where
  pointer    : LineId
  pending    : Option Measurement
  fastFollow : Vector (Option Nat) 8
  converting : Conversion
  fullScans  : Nat
  ready      : Bool
  deriving DecidableEq, Repr

/-! ## Staff loops (R21 to R37) -/

/-- The states of a staff loop (R21). -/
inductive LoopState where
  | idle | pressed | duress | stuck | unresolved | unresolvedDuress | fault
  deriving DecidableEq, Repr

/-- One loop record (R21). -/
structure Loop where
  state    : LoopState
  station  : Option StationNo
  pressAt  : Option Nat
  duressDl : Option Nat
  stuckDl  : Option Nat
  deriving DecidableEq, Repr

/-- One loop settings record (R23): T_err and T_duress in ms, T_stuck in s; a location is `none` for
the corridor. -/
structure LoopSettings where
  tErr      : Nat
  tDuress   : Nat
  tStuck    : Nat
  freeze    : Bool
  locations : Vector (Option RoomId) 6
  deriving DecidableEq, Repr

/-! ## Suppression zones and countdowns (R38 to R78) -/

/-- The states of a zone (R38). -/
inductive ZoneState where
  | quiet | alert | predischarge | held | heldOccupied | release | soak | vent | discharged | releaseFailed
  | isolated
  deriving DecidableEq, Repr

/-- The kind of a countdown (R64). -/
inductive CountdownKind where
  | automatic | manual
  deriving DecidableEq, Repr

/-- A countdown: its kind and its remaining time in ms (R64). -/
structure Countdown where
  kind      : CountdownKind
  remaining : Nat
  deriving DecidableEq, Repr

/-- One zone record (R38). The outstanding actuators are a set, held in ascending number. -/
structure Zone where
  state       : ZoneState
  latchA      : Bool
  latchB      : Bool
  degraded    : Bool
  countdown   : Option Countdown
  override    : Bool
  peak        : Nat
  holdDl      : Option Nat
  stageDl     : Option Nat
  outstanding : List ActId
  fired       : Bool
  isolate     : Bool
  discharge   : Bool
  deriving DecidableEq, Repr

/-- One zone settings record (R39): base, extension, T_max, T_man, T_resume and limit in s, soak and
vent in min. -/
structure ZoneSettings where
  base    : Nat
  ext     : Nat
  tMax    : Nat
  tMan    : Nat
  tResume : Nat
  hold    : Bool
  limit   : Nat
  soak    : Nat
  vent    : Nat
  deriving DecidableEq, Repr

/-! ## Release actuators and the firing bank (R79 to R93) -/

/-- The states of an actuator (R79). -/
inductive ActState where
  | unassigned | armed | queued | firing | fired | failed
  deriving DecidableEq, Repr

/-- One actuator record (R79). -/
structure Actuator where
  state    : ActState
  zone     : Option ZoneId
  fault    : Bool
  lastTest : Option TestResult
  nextTest : Option Nat
  attempts : Nat
  pulseEnd : Option Nat
  spent    : Bool
  deriving DecidableEq, Repr

/-- The firing bank (R84 to R86): the queue from its head, the set of pulses in flight in the order they
were granted, the pulse count since the last recharge pause, and the end of a running pause. -/
structure Bank where
  queue      : List ActId
  inFlight   : List ActId
  pulseCount : Nat
  pauseEnd   : Option Nat
  deriving DecidableEq, Repr

/-! ## Occupancy and lone working (R94 to R111) -/

/-- A time of the week clock as a record keeps it; `none` in its place is "clock invalid" (R94). -/
structure ClockTime where
  minute : Nat
  second : Nat
  deriving DecidableEq, Repr

/-- One entry of a listed list (R94). -/
structure ListedEntry where
  slot         : SlotId
  badge        : Nat
  time         : Option ClockTime
  viaVestibule : Bool
  deriving DecidableEq, Repr

/-- One entry of an assumed-out record (R94); its cause is always EGRESS. -/
structure AssumedOut where
  slot    : SlotId
  badge   : Nat
  entered : Option ClockTime
  removed : Option ClockTime
  deriving DecidableEq, Repr

/-- The lone-worker state (R105). -/
inductive Lone where
  | off
  | running (deadline : Nat)
  | prompt (deadline : Nat)
  deriving DecidableEq, Repr

/-- One strongroom record (R94); the prompt buzzer follows the lone-worker state (R105: `Room.buzzer`). -/
structure Room where
  listed     : List ListedEntry
  evidence   : Bool
  unknown    : Bool
  assumedOut : List AssumedOut
  lone       : Lone
  deriving DecidableEq, Repr

/-- Where a credential slot is held to be (R95). -/
inductive Location where
  | outside
  | inVestibule (v : RoomId)
  | inStrongroom (v : RoomId)
  deriving DecidableEq, Repr

/-! ## Credentials and access decisions (R112 to R137) -/

/-- The state of a credential (R112). -/
inductive CredState where
  | active | suspended
  deriving DecidableEq, Repr

/-- The flags of a credential (R112). -/
structure CredFlags where
  afterHours    : Bool
  emergencyCrew : Bool
  solo          : Bool
  perimeter     : Bool
  deriving DecidableEq, Repr

/-- One credential record (R112): bit v - 1 of the privileges stands for strongroom v and bit w of the
windows for Ww (11.6). -/
structure Credential where
  badge      : Nat
  state      : CredState
  privileges : BitVec 12
  windows    : BitVec 16
  flags      : CredFlags
  deriving DecidableEq, Repr

/-- The row stage (section 7.2). -/
inductive Stage where
  | idle
  | opened (row : RowId) (staged : Vector Credential 8) (touched : Vector Bool 8)
  | committing (row : RowId) (staged : Vector Credential 8) (touched : Vector Bool 8)
  deriving DecidableEq, Repr

/-- The reader a badge is presented at (R123). -/
inductive Reader where
  | outside | inside
  deriving DecidableEq, Repr

/-- The purpose of a grant (R129). -/
inductive Purpose where
  | entry | exit
  deriving DecidableEq, Repr

/-- The stages of a grant (R129). -/
inductive GrantStage where
  | awaitPartner | awaitDelay | awaitConfirm | releasing | released
  deriving DecidableEq, Repr

/-- A holder of a grant (R129). -/
structure Holder where
  slot  : SlotId
  badge : Nat
  deriving DecidableEq, Repr

/-- A re-check that waits for a commit (R119); `owed` says that a CONFIRM's reply waits with it. -/
structure Recheck where
  owed : Bool
  deriving DecidableEq, Repr

/-- One grant record (R129). The pair record of a door is its first holder while the stage is
AWAIT_PARTNER (R129: `Grant.pair`). -/
structure Grant where
  holders  : List Holder
  purpose  : Purpose
  reader   : Reader
  stage    : GrantStage
  deadline : Option Nat
  recheck  : Option Recheck
  deriving DecidableEq, Repr

/-- Denial and cancellation reasons (R137; numbered from 1 in 11.6). -/
inductive Reason where
  | unknownBadge | suspended | outsideWindow | outOfHours | noPrivilege | frozen | zoneHazard | passback
  | strongroomFull | doorUnavailable | doorBusy | direction | vestibuleFull | interlock | hostAbsent | hostDenied
  | confirmTimeout
  deriving DecidableEq, Repr

/-- A PRESENT that waits for a commit (R119); `owed` is false once a BREAK has discarded its reply. -/
structure WaitingPresent where
  door   : DoorId
  reader : Reader
  badge  : Nat
  owed   : Bool
  deriving DecidableEq, Repr

/-- A GET_CREDENTIAL that waits for a commit (R114). -/
structure WaitingGet where
  slot : SlotId
  owed : Bool
  deriving DecidableEq, Repr

/-! ## Door channels (R138 to R161) -/

/-- The states of a door, in the order of R138. -/
inductive DoorState where
  | secure | releasing | released | opened | relocking | insecure | driverLatched | lineFault | manual
  deriving DecidableEq, Repr

/-- The mode of a door (R138). -/
inductive DoorMode where
  | automatic | manual
  deriving DecidableEq, Repr

/-- The last position band confirmed on the line, EGRESS left aside (R138). -/
inductive Position where
  | bolted | unbolted | opened
  deriving DecidableEq, Repr

/-- A direction of the bolt (R138). -/
inductive Bolt where
  | thrown | withdrawn
  deriving DecidableEq, Repr

/-- The motion of a bolt (R138). -/
inductive Motion where
  | idle
  | moving (target : Bolt) (deadline : Nat)
  | cooling (retry : Bolt) (until_ : Nat)
  deriving DecidableEq, Repr

/-- One door record (R138). -/
structure Door where
  state    : DoorState
  mode     : DoorMode
  latch    : Bool
  position : Option Position
  egress   : Bool
  alarm    : Bool
  bolt     : Bolt
  motion   : Motion
  trips    : Nat
  releaseDl  : Option Nat
  heldOpenDl : Option Nat
  deriving DecidableEq, Repr

/-- The role of a door with its strongroom (R139). -/
inductive Role where
  | strongroom (v : RoomId)
  | vestibuleOuter (v : RoomId)
  | perimeter
  | unused
  deriving DecidableEq, Repr

/-- The grant mode of a door (R128). -/
inductive GrantMode where
  | auto | delayed | confirm
  deriving DecidableEq, Repr

/-- One door settings record (R139): times in s, the lone-worker interval in min. -/
structure DoorSettings where
  role           : Role
  grantMode      : GrantMode
  delayHold      : Nat
  confirmTimeout : Nat
  pairWindow     : Nat
  releaseTime    : Nat
  heldOpen       : Nat
  loneInterval   : Nat
  loneWindow     : Nat
  deriving DecidableEq, Repr

/-! ## Vestibules (R162 to R177) -/

/-- The direction of a vestibule (R162). -/
inductive Direction where
  | none | inbound | outbound
  deriving DecidableEq, Repr

/-- One occupant of a vestibule (R162). -/
structure Occupant where
  slot    : SlotId
  badge   : Nat
  arrival : Option ClockTime
  deriving DecidableEq, Repr

/-- One vestibule record (R162). A strongroom without a VESTIBULE_OUTER door has no vestibule; its place
in the table then holds the empty record, direction NONE. -/
structure Vestibule where
  direction : Direction
  occupants : List Occupant
  deriving DecidableEq, Repr

/-! ## Week clock (R178 to R186) -/

/-- The mode override (R183). -/
inductive ModeOverride where
  | auto | forceDay | forceAfterHours
  deriving DecidableEq, Repr

/-- The mode (R183). -/
inductive Mode where
  | day | afterHours
  deriving DecidableEq, Repr

/-- The week clock: the record of R178, the override, the window states and the mode (R182, R183).
`boundaryDue` is the model's own: the clock has reached a new minute whose boundary (R179) has not been
taken yet. -/
structure WeekClock where
  minute      : Nat
  second      : Nat
  ms          : Nat
  valid       : Bool
  override    : ModeOverride
  windows     : Vector Bool 16
  mode        : Mode
  boundaryDue : Bool
  deriving DecidableEq, Repr

/-- One window settings record (R180): bit 0 of the days is Monday, bit 6 Sunday. -/
structure WindowSettings where
  days   : BitVec 7
  start  : Nat
  stop   : Nat
  report : Bool
  deriving DecidableEq, Repr

/-! ## Notices (R193 to R199) -/

/-- The four notice classes, from highest to lowest (00_scope). -/
inductive NoticeClass where
  | life | alarm | supervisory | routine
  deriving DecidableEq, Repr

/-- The notice kinds, in the order of 11.6. -/
inductive NoticeKind where
  | duress | zoneRelease | releaseFailed
  | entryFreeze | stationCall | detectorLatched | zoneAlert | zonePredischarge | zoneHeld | zoneHeldOccupied
  | loneWorkerOverdue | doorForced | doorHeldOpen | doorInsecure
  | lineFault | stationStuck | stationBounce | releaseIgnored | doorOpenAtRelease | zoneIsolated | actuatorFailed
  | actuatorFault | locationCorrected | strongroomOverflow | doorFault | driverLatched | deviceStart
  | lineRestored | checkIn | duressRelease | stationRecovered | zoneQuiet | zoneVentEnd | actuatorFired
  | actuatorRestored | entry | exit | assumedOut | occupantCleared | loneWorkerPrompt | grantCancelled | grantExpired
  | grantOutcome | grantFailed | exitUnlisted | commitDone | doorEgress | doorOpened | doorSecured | doorDriveDone
  | vestibuleIn | vestibuleOut | vestibuleEgress | vestibuleFlushed | windowEdge | modeChange
  deriving DecidableEq, Repr

/-- The object of a notice (R193). -/
inductive NoticeObject where
  | none
  | zone (z : ZoneId)
  | door (d : DoorId)
  | loop (k : LoopId)
  | strongroom (v : RoomId)
  | actuator (a : ActId)
  | line (l : LineId)
  | window (w : WindowId)
  deriving DecidableEq, Repr

/-- The kinds of start (R203). -/
inductive StartKind where
  | cold | warm | restart
  deriving DecidableEq, Repr

/-- A named value that a notice detail carries (R193). -/
inductive Named where
  | detectorA | detectorB
  | automatic | manual | resume
  | doorState (st : DoorState)
  | testResult (r : Option TestResult)
  | evidence | unknown
  | withdrawTimeout | throwTimeout | boltReturned
  | bolt (b : Bolt)
  | windowActive | windowInactive
  | mode (m : Mode)
  | start (k : StartKind)
  deriving DecidableEq, Repr

/-- The detail of a notice (R193). -/
inductive Detail where
  | badge (n : Nat)
  | station (k : StationNo)
  | reason (r : Reason)
  | band (b : Band)
  | named (v : Named)
  | count (n : Nat)
  deriving DecidableEq, Repr

/-- One entry of the notice queue (R193); `inTx` while a FETCH_NOTICE has it in transmission (R198). -/
structure Notice where
  kind        : NoticeKind
  object      : NoticeObject
  detail      : Option Detail
  stamp       : Nat
  clockMinute : Option Nat
  repeats     : Nat
  inTx        : Bool
  deriving DecidableEq, Repr

/-! ## Replies (R190, R191) and their contents -/

/-- Reply statuses (R191). -/
inductive Status where
  | ok | pending | denied | frameLength | unknownKind | badValue | badState | linkBusy | notReady | rowState
  | duplicateBadge | occupantPresent | zoneHazard | interlock
  deriving DecidableEq, Repr

/-- The outcome of an exit or a granted entry (R136). -/
inductive Outcome where
  | granted | grantedNoRelease
  deriving DecidableEq, Repr

/-- The sounder of a zone (R58). -/
inductive Sounder where
  | off | alertTone | evacTone | holdTone
  deriving DecidableEq, Repr

/-- The three outputs of a zone (R58). -/
structure ZoneOutputs where
  sounder : Sounder
  sign    : Bool
  extract : Bool
  deriving DecidableEq, Repr

/-- The reply of GET_LINE (R17). -/
structure LineReply where
  cls        : LineClass
  confirmed  : Band
  candidate  : Option Band
  count      : Nat
  lastCode   : Option Nat
  lastTime   : Option Nat
  fastFollow : Option Bool
  deriving DecidableEq, Repr

/-- The reply of GET_ZONE (R60). -/
structure ZoneReply where
  state       : ZoneState
  latchA      : Bool
  latchB      : Bool
  degraded    : Bool
  countdown   : Option Countdown
  override    : Bool
  peak        : Nat
  holdLeft    : Option Nat
  stageLeft   : Option Nat
  outstanding : List ActId
  isolate     : Bool
  discharge   : Bool
  outputs     : ZoneOutputs
  settings    : ZoneSettings
  deriving DecidableEq, Repr

/-- The reply of GET_ACTUATOR (R92). -/
structure ActuatorReply where
  state         : ActState
  zone          : Option ZoneId
  fault         : Bool
  lastTest      : Option TestResult
  testLeft      : Option Nat
  attempts      : Nat
  pulseLeft     : Option Nat
  spent         : Bool
  queuePosition : Option Nat
  deriving DecidableEq, Repr

/-- A motion as GET_DOOR reports it, with the time left (R160). -/
inductive MotionReply where
  | idle
  | moving (target : Bolt) (left : Nat)
  | cooling (retry : Bolt) (left : Nat)
  deriving DecidableEq, Repr

/-- The reply of GET_DOOR (R160). -/
structure DoorReply where
  state        : DoorState
  mode         : DoorMode
  latch        : Bool
  position     : Option Position
  egress       : Bool
  alarm        : Bool
  bolt         : Bolt
  motion       : MotionReply
  trips        : Nat
  releaseLeft  : Option Nat
  heldOpenLeft : Option Nat
  band         : Band
  grant        : Option Grant
  settings     : DoorSettings
  deriving DecidableEq, Repr

/-- The reply of GET_VESTIBULE (R177): `none` where no vestibule exists. -/
structure VestibuleReply where
  inner     : Option DoorId
  outer     : Option DoorId
  direction : Direction
  occupants : List Occupant
  deriving DecidableEq, Repr

/-- The lone-worker state as it is reported, with the time left (R110). -/
inductive LoneReply where
  | off
  | running (left : Nat)
  | prompt (left : Nat)
  deriving DecidableEq, Repr

/-- The reply of GET_OCCUPANCY (R110). -/
structure OccupancyReply where
  listed     : List ListedEntry
  count      : Nat
  evidence   : Bool
  unknown    : Bool
  effective  : Nat
  assumedOut : List AssumedOut
  lone       : LoneReply
  buzzer     : Bool
  interval   : Nat
  window     : Nat
  deriving DecidableEq, Repr

/-- The reply of GET_CREDENTIAL (R114). `staged` is absent where the slot lies outside the open row and
`some none` where it lies in it and has not been staged. -/
structure CredentialReply where
  record   : Credential
  location : Location
  holderOf : List DoorId
  staged   : Option (Option Credential)
  deriving DecidableEq, Repr

/-- The reply of GET_CLOCK (R186). -/
structure ClockReply where
  minute      : Nat
  second      : Nat
  ms          : Nat
  day         : Nat
  minuteOfDay : Nat
  valid       : Bool
  override    : ModeOverride
  mode        : Mode
  windows     : Vector Bool 16
  settings    : Vector WindowSettings 16
  deriving DecidableEq, Repr

/-- The items of the store (R200): a mark is one of these. -/
inductive MarkItem where
  | discharge (z : ZoneId)
  | spent (a : ActId)
  | isolate (z : ZoneId)
  deriving DecidableEq, Repr

/-- A settings item: one record of one of the six kinds (R200). -/
inductive SettingsItem where
  | cls (c : LineClass) (p : ClassParams)
  | loop (k : LoopId) (p : LoopSettings)
  | zone (z : ZoneId) (p : ZoneSettings)
  | actuator (a : ActId) (z : Option ZoneId)
  | door (d : DoorId) (p : DoorSettings)
  | window (w : WindowId) (p : WindowSettings)
  deriving DecidableEq, Repr

/-- An operation of the store controller (R200). A settings item carries whether its reply is still owed
(a BREAK discards it, R189). -/
inductive StoreOp where
  | mark (item : MarkItem) (value : Bool)
  | settings (item : SettingsItem) (owed : Bool)
  | commit (row : RowId)
  deriving DecidableEq, Repr

/-- The stage as STATUS reports it (R202). -/
inductive StageReply where
  | none
  | opened (row : RowId)
  | committing (row : RowId)
  deriving DecidableEq, Repr

/-- STATUS section 0 (R202). -/
structure DeviceReply where
  ready         : Bool
  lastStart     : StartKind
  hostPresent   : Bool
  noticesLife        : Nat
  noticesAlarm       : Nat
  noticesSupervisory : Nat
  noticesRoutine     : Nat
  lost          : Nat
  masks         : List NoticeKind
  running       : Option StoreOp
  marksWaiting  : Nat
  hostWaiting   : Nat
  stage         : StageReply
  clockValid    : Bool
  override      : ModeOverride
  mode          : Mode
  freeze        : Bool
  deriving DecidableEq, Repr

/-- A loop as STATUS section 1 reports it (R37). -/
structure LoopReply where
  state   : LoopState
  station : Option StationNo
  pressAt : Option Nat
  deriving DecidableEq, Repr

/-- A zone as STATUS section 1 reports it (R60). -/
structure ZoneBrief where
  state    : ZoneState
  latchA   : Bool
  latchB   : Bool
  degraded : Bool
  deriving DecidableEq, Repr

/-- STATUS section 1 (R202). -/
structure AlarmsReply where
  loops : Vector LoopReply 8
  zones : Vector ZoneBrief 12
  deriving DecidableEq, Repr

/-- STATUS section 2 (R92, R202). -/
structure SuppressionReply where
  actuators  : Vector (ActState × Bool) 32
  queue      : List ActId
  inFlight   : List ActId
  pulseCount : Nat
  pauseLeft  : Option Nat
  deriving DecidableEq, Repr

/-- A strongroom as STATUS section 3 reports it (R110). -/
structure RoomBrief where
  count     : Nat
  evidence  : Bool
  unknown   : Bool
  effective : Nat
  lone      : LoneReply
  deriving DecidableEq, Repr

/-- A door as STATUS section 3 reports it (R160). -/
structure DoorBrief where
  state : DoorState
  mode  : DoorMode
  trips : Nat
  stage : Option GrantStage
  deriving DecidableEq, Repr

/-- STATUS section 3 (R202): a vestibule is reported where one exists. -/
structure AccessReply where
  rooms      : Vector RoomBrief 12
  vestibules : Vector (Option (Direction × Nat)) 12
  doors      : Vector DoorBrief 20
  deriving DecidableEq, Repr

/-- What follows the status byte of a reply, by its fields. -/
inductive ReplyData where
  | none
  | reason (r : Reason)
  | outcome (o : Outcome) (slot : SlotId)
  | waiting (stage : GrantStage) (slot : SlotId)
  | measured (line : LineId) (code estimate : Nat) (band : Band)
  | line (r : LineReply)
  | zone (r : ZoneReply)
  | actuator (r : ActuatorReply)
  | door (r : DoorReply)
  | vestibule (r : Option VestibuleReply)
  | occupancy (r : OccupancyReply)
  | credential (r : CredentialReply)
  | clock (r : ClockReply)
  | flushed (occupants : List Occupant)
  | notice (lost besides : Nat) (n : Option Notice)
  | device (r : DeviceReply)
  | alarms (r : AlarmsReply)
  | suppression (r : SuppressionReply)
  | access (r : AccessReply)
  deriving DecidableEq, Repr

/-- What the end of a reply's transmission brings with it: a LINK_BUSY reply ends nothing, an ordinary
reply ends the outstanding request (R190), a FETCH_NOTICE reply also removes its entry and reduces the
lost count (R198), and a RESTART reply also tests for the restart (R204). -/
inductive ReplyRole where
  | busy
  | plain
  | fetch (carried : Nat)
  | restart
  deriving DecidableEq, Repr

/-- One reply in the transmit queue (R190): the kind is the request's kind, sent with its top bit set. -/
structure Reply where
  kind   : Nat
  tag    : Nat
  status : Status
  data   : ReplyData
  role   : ReplyRole
  deriving DecidableEq, Repr

/-- The frame receiver (R187): in BODY it holds the length and the bytes received so far. -/
inductive Receiver where
  | hunt
  | length
  | body (len : Nat) (got : List Byte)
  deriving DecidableEq, Repr

/-- The outstanding request (R190). -/
structure Request where
  kind : Nat
  tag  : Nat
  deriving DecidableEq, Repr

/-- The panel link (R187 to R199). The masked kinds stand in the order of 11.6. -/
structure Link where
  receiver    : Receiver
  outstanding : Option Request
  tx          : List Reply
  presenceDl  : Option Nat
  notices     : List Notice
  lost        : Nat
  masks       : List NoticeKind
  deriving DecidableEq, Repr

/-! ## The store controller and the nonvolatile memory (R200, R201) -/

/-- An operation under way with the elapsed time at which it completes (R200). -/
structure Running where
  op     : StoreOp
  doneAt : Nat
  deriving DecidableEq, Repr

/-- A waiting internal mark (R200). -/
structure MarkRequest where
  item  : MarkItem
  value : Bool
  deriving DecidableEq, Repr

/-- The store controller (R200): the running operation, the mark list and the host list. -/
structure Store where
  running : Option Running
  marks   : List MarkRequest
  host    : List StoreOp
  deriving DecidableEq, Repr

/-- The nonvolatile memory (section 11.4): a settings record is absent where the store holds none, and
the credential list holds the slots that are not empty, by rising slot. -/
structure Nv where
  classes     : Vector (Option ClassParams) 4
  loops       : Vector (Option LoopSettings) 8
  zones       : Vector (Option ZoneSettings) 12
  assignments : Vector (Option ZoneId) 32
  doors       : Vector (Option DoorSettings) 20
  windows     : Vector (Option WindowSettings) 16
  credentials : List (SlotId × Credential)
  discharge   : Vector Bool 12
  spent       : Vector Bool 32
  isolate     : Vector Bool 12
  deriving DecidableEq, Repr

end Sys2Proof.Machine
end

