-- ==== Sys2Proof/Machine/State.lean ====
section
/-! DEFINITION. State: the whole state of the part as plain data, the reasons a step can stop, and the
state right after reset.

RESET IS THE COLD START OF A PART NEVER PROGRAMMED: main power comes up for the first time, the retention
domain is invalid and the nonvolatile memory holds no record, no credential and no mark. Every field of
`State.reset` is then the start value that a rule of spec/ states; a test shows that COLD_START of such a
part gives this state. -/

namespace Sys2Proof.Machine

/-- Reasons for a fault. There are none: the spec gives every command an effect in every state, so no
command stops the part (safe: nothing is ever stopped). -/
inductive Fault where
  deriving DecidableEq, Repr

/-- Reasons for a refusal. -/
inductive Refusal where
  /-- Raised by an arm of `exec` for a command that has no meaning yet (safe: the model stops); no arm
  raises it, because every row of the table has its meaning. -/
  | notModelled (mnemonic : String)
  deriving DecidableEq, Repr

/-- The state of the part. The comment of each field names the rule that gives it. -/
structure State where
  /-- The commands that wait, first in, first out (the model's own: the block's interface). -/
  pending      : List Instr
  /-- Main power is on (R201, R203). -/
  powered      : Bool
  /-- The kind of the last start (R202). -/
  lastStart    : StartKind
  /-- Elapsed time since the last start in units of one conversion, 250 µs (R3, 00_scope). -/
  quarters     : Nat
  /-- The 64 line records (R2). -/
  lines        : Vector LineRecord 64
  /-- The converter arbiter and settling (R13 to R15, R18). -/
  sup          : Supervisor
  /-- The eight loop records (R21). -/
  loops        : Vector Loop 8
  /-- The twelve zone records (R38). -/
  zones        : Vector Zone 12
  /-- The 32 actuator records (R79). -/
  acts         : Vector Actuator 32
  /-- The firing bank (R84 to R86). -/
  bank         : Bank
  /-- The twelve strongroom records (R94); all but the lone-worker state are retained (R111). -/
  rooms        : Vector Room 12
  /-- The credential slots that are not OUTSIDE with their places, by rising slot; retained (R95, R111). -/
  locations    : List (SlotId × Location)
  /-- The row stage (section 7.2). -/
  stage        : Stage
  /-- The grant records of the twenty doors (R129). -/
  grants       : Vector (Option Grant) 20
  /-- The freeze overlay; retained (R121). -/
  freeze       : Bool
  /-- The host-presence state: true is PRESENT (R122). -/
  hostPresent  : Bool
  /-- Deferred PRESENT requests (R119). -/
  waitPresents : List WaitingPresent
  /-- Deferred GET_CREDENTIAL requests (R114). -/
  waitGets     : List WaitingGet
  /-- The twenty door records (R138). -/
  doors        : Vector Door 20
  /-- The vestibule records by strongroom; retained (R162). -/
  vests        : Vector Vestibule 12
  /-- The week clock; its time, validity and override are retained (R178). -/
  clock        : WeekClock
  /-- The panel link with the notice queue (R187 to R199). -/
  link         : Link
  /-- The store controller (R200). -/
  store        : Store
  /-- The nonvolatile memory (section 11.4). -/
  nv           : Nv
  deriving DecidableEq, Repr

/-- A line record at a start (R2). -/
def LineRecord.start : LineRecord :=
  { confirmed := .unknown, candidate := none, count := 0, lastCode := none, lastTime := none, heldAt := none }

/-- The arbiter at a start (R18): the first slot is granted to the scan at line 0. -/
def Supervisor.start : Supervisor :=
  { pointer := 0, pending := none, fastFollow := Vector.replicate 8 none, converting := ⟨0, .scan⟩, fullScans := 0, ready := false }

/-- A loop record at a start (R21). -/
def Loop.start : Loop :=
  { state := .idle, station := none, pressAt := none, duressDl := none, stuckDl := none }

/-- A zone record at a start whose marks are clear (R62). -/
def Zone.start : Zone :=
  { state := .quiet, latchA := false, latchB := false, degraded := false, countdown := none, override := false, peak := 0,
    holdDl := none, stageDl := none, outstanding := [], fired := false, isolate := false, discharge := false }

/-- An actuator record at a start with neither assignment nor spent mark (R93). -/
def Actuator.start : Actuator :=
  { state := .unassigned, zone := none, fault := false, lastTest := none, nextTest := none, attempts := 0, pulseEnd := none,
    spent := false }

/-- The firing bank at a start (R93). -/
def Bank.start : Bank := { queue := [], inFlight := [], pulseCount := 0, pauseEnd := none }

/-- A strongroom record after a cold start without a STRONGROOM door (R111). -/
def Room.empty : Room := { listed := [], evidence := false, unknown := false, assumedOut := [], lone := .off }

/-- The door record of an UNUSED door at a start (R138, R161). -/
def Door.unused : Door :=
  { state := .secure, mode := .automatic, latch := false, position := none, egress := false, alarm := false, bolt := .thrown,
    motion := .idle, trips := 0, releaseDl := none, heldOpenDl := none }

/-- An empty vestibule record (R162). -/
def Vestibule.empty : Vestibule := { direction := .none, occupants := [] }

/-- The week clock after a cold start of a part without window settings (R178, R186). -/
def WeekClock.cold : WeekClock :=
  { minute := 0, second := 0, ms := 0, valid := false, override := .auto, windows := Vector.replicate 16 false, mode := .afterHours,
    boundaryDue := false }

/-- The panel link at a start, before DEVICE_START is queued (R203). -/
def Link.start : Link :=
  { receiver := .hunt, outstanding := none, tx := [], presenceDl := none, notices := [], lost := 0, masks := [] }

/-- The store controller at a start (R200). -/
def Store.start : Store := { running := none, marks := [], host := [] }

/-- A nonvolatile memory never programmed (R7, R23, R39, R79, R112, R139, R180). -/
def Nv.blank : Nv :=
  { classes := Vector.replicate 4 none, loops := Vector.replicate 8 none, zones := Vector.replicate 12 none,
    assignments := Vector.replicate 32 none, doors := Vector.replicate 20 none, windows := Vector.replicate 16 none,
    credentials := [], discharge := Vector.replicate 12 false, spent := Vector.replicate 32 false,
    isolate := Vector.replicate 12 false }

/-- DEVICE_START COLD as the first notice of the start (R203). -/
def Notice.deviceStartCold : Notice :=
  { kind := .deviceStart, object := .none, detail := some (.named (.start .cold)), stamp := 0, clockMinute := none, repeats := 1,
    inTx := false }

/-- The part right after reset: the cold start of a part never programmed (R203). -/
def State.reset : State :=
  { pending := []
    powered := true
    lastStart := .cold
    quarters := 0
    lines := Vector.replicate 64 LineRecord.start
    sup := Supervisor.start
    loops := Vector.replicate 8 Loop.start
    zones := Vector.replicate 12 Zone.start
    acts := Vector.replicate 32 Actuator.start
    bank := Bank.start
    rooms := Vector.replicate 12 Room.empty
    locations := []
    stage := .idle
    grants := Vector.replicate 20 none
    freeze := false
    hostPresent := false
    waitPresents := []
    waitGets := []
    doors := Vector.replicate 20 Door.unused
    vests := Vector.replicate 12 Vestibule.empty
    clock := WeekClock.cold
    link := { Link.start with notices := [Notice.deviceStartCold] }
    store := Store.start
    nv := Nv.blank }

end Sys2Proof.Machine
end

