-- ==== Sys2Proof/Machine/Operands.lean ====
section
/-! DEFINITION. Operands: the numbering of the part's objects, and what the operand of each request names.
A number that names nothing reads as `none`; the request's own rule then answers BAD_VALUE. The codes of
bands, readers, reasons, statuses and notice kinds are those of 11.6. The codes of the other named
settings (roles, grant modes, directions …) are not laid out in the spec: they are numbered from 0 in the
order their rule lists them (PRESUMED, notes/assumptions/5.md). -/

namespace Sys2Proof.Machine

/-- The number of an object that is numbered from 1. -/
def number {n : Nat} (i : Fin n) : Nat := i.val + 1

/-- The object with a number from 1. -/
def fromOne (n : Nat) (x : Nat) : Option (Fin n) :=
  if h : 1 ≤ x ∧ x ≤ n then some ⟨x - 1, by omega⟩ else none

/-- The object with a number from 0. -/
def fromZero (n : Nat) (x : Nat) : Option (Fin n) :=
  if h : x < n then some ⟨x, h⟩ else none

/-- A switch setting: 0 off, 1 on. -/
def switchOf : Nat → Option Bool
  | 0 => some false
  | 1 => some true
  | _ => none

/-- Every object of a kind, in ascending number. -/
def every (n : Nat) : List (Fin n) := List.finRange n

/-! ## Lines, classes and owners (R1) -/

/-- The owner of a line. -/
inductive LineOwner where
  | detector (z : ZoneId) (isB : Bool)
  | door (d : DoorId)
  | loop (k : LoopId)
  | station (z : ZoneId)
  deriving DecidableEq, Repr

/-- The owner of each line, by its number (R1). -/
def lineOwner (l : LineId) : LineOwner :=
  if h : l.val < 24 then .detector ⟨l.val / 2, by omega⟩ (l.val % 2 == 1)
  else if h : l.val < 44 then .door ⟨l.val - 24, by omega⟩
  else if h : l.val < 52 then .loop ⟨l.val - 44, by omega⟩
  else .station ⟨l.val - 52, by omega⟩

/-- The class of each line, by its number (R1). -/
def lineClass (l : LineId) : LineClass :=
  match lineOwner l with
  | .detector _ _ => .detector
  | .door _ => .door
  | .loop _ => .staff
  | .station _ => .station

/-- Detector A of zone n is line 2n - 2 (R1). -/
def detectorALine (z : ZoneId) : LineId := ⟨2 * z.val, by omega⟩

/-- Detector B of zone n is line 2n - 1 (R1). -/
def detectorBLine (z : ZoneId) : LineId := ⟨2 * z.val + 1, by omega⟩

/-- The position line of door Dd is line 23 + d (R1). -/
def doorLine (d : DoorId) : LineId := ⟨24 + d.val, by omega⟩

/-- Staff loop k is line 43 + k (R1). -/
def loopLine (k : LoopId) : LineId := ⟨44 + k.val, by omega⟩

/-- The station line of zone n is line 51 + n (R1). -/
def stationLine (z : ZoneId) : LineId := ⟨52 + z.val, by omega⟩

/-- The staff loop a line carries. -/
def loopOfLine (l : LineId) : Option LoopId :=
  match lineOwner l with
  | .loop k => some k
  | _ => none

/-- The place of a class in the store. -/
def classIndex : LineClass → Fin 4
  | .detector => 0
  | .door => 1
  | .staff => 2
  | .station => 3

/-- The class with a code, in the order of R5 (PRESUMED). -/
def classOf : Nat → Option LineClass
  | 0 => some .detector
  | 1 => some .door
  | 2 => some .staff
  | 3 => some .station
  | _ => none

/-! ## Bands (R5, 11.6) -/

/-- The band code of 11.6. -/
def Band.code : Band → Nat
  | .unknown => 0
  | .short => 1
  | .openLine => 2
  | .opened => 3
  | .normal => 4
  | .alarm => 5
  | .bolted => 6
  | .unbolted => 7
  | .egress => 8
  | .manual => 9
  | .abort => 10
  | .station k => 11 + k.val
  | .unclassified => 17

/-- The band with a code (11.6). -/
def bandOf (c : Nat) : Option Band :=
  if h : 11 ≤ c ∧ c ≤ 16 then some (.station ⟨c - 11, by omega⟩)
  else
    match c with
    | 0 => some .unknown
    | 1 => some .short
    | 2 => some .openLine
    | 3 => some .opened
    | 4 => some .normal
    | 5 => some .alarm
    | 6 => some .bolted
    | 7 => some .unbolted
    | 8 => some .egress
    | 9 => some .manual
    | 10 => some .abort
    | 17 => some .unclassified
    | _ => none

/-- The band names of a class (R5). -/
def LineClass.hasName : LineClass → Band → Bool
  | .detector, .short => true
  | .detector, .alarm => true
  | .detector, .normal => true
  | .detector, .openLine => true
  | .door, .short => true
  | .door, .bolted => true
  | .door, .unbolted => true
  | .door, .opened => true
  | .door, .egress => true
  | .door, .openLine => true
  | .staff, .short => true
  | .staff, .station _ => true
  | .staff, .normal => true
  | .staff, .opened => true
  | .station, .short => true
  | .station, .manual => true
  | .station, .abort => true
  | .station, .normal => true
  | .station, .openLine => true
  | _, _ => false

/-- The line-fault bands of a class: its fault bands and UNCLASSIFIED (R5). -/
def LineClass.faultBand : LineClass → Band → Bool
  | _, .unclassified => true
  | _, .short => true
  | .staff, .opened => true
  | .detector, .openLine => true
  | .door, .openLine => true
  | .station, .openLine => true
  | _, _ => false

/-! ## Other named operands -/

/-- Readers: 0 OUTSIDE, 1 INSIDE (11.6). -/
def readerOf : Nat → Option Reader
  | 0 => some .outside
  | 1 => some .inside
  | _ => none

/-- Credential states: 0 ACTIVE, 1 SUSPENDED (11.6). -/
def credStateOf : Nat → Option CredState
  | 0 => some .active
  | 1 => some .suspended
  | _ => none

/-- Roles in the order of R139 with their strongroom, 0 for none (PRESUMED). A role with a strongroom
that does not suit it names nothing (R158). -/
def roleOf (code room : Nat) : Option Role :=
  match code with
  | 0 => (fromOne 12 room).map .strongroom
  | 1 => (fromOne 12 room).map .vestibuleOuter
  | 2 => if room = 0 then some .perimeter else none
  | 3 => if room = 0 then some .unused else none
  | _ => none

/-- Grant modes in the order of R139 (PRESUMED). -/
def grantModeOf : Nat → Option GrantMode
  | 0 => some .auto
  | 1 => some .delayed
  | 2 => some .confirm
  | _ => none

/-- Door modes in the order of R138 (PRESUMED). -/
def doorModeOf : Nat → Option DoorMode
  | 0 => some .automatic
  | 1 => some .manual
  | _ => none

/-- DOOR_DRIVE directions, THROW then WITHDRAW (R156; PRESUMED). -/
def boltOf : Nat → Option Bolt
  | 0 => some .thrown
  | 1 => some .withdrawn
  | _ => none

/-- MODE_SET values in the order of R184 (PRESUMED). -/
def overrideOf : Nat → Option ModeOverride
  | 0 => some .auto
  | 1 => some .forceDay
  | 2 => some .forceAfterHours
  | _ => none

/-- The target of an OCCUPANT_CLEAR (R104). -/
inductive ClearTarget where
  | slot (s : SlotId)
  | evidence
  | unknown
  deriving DecidableEq, Repr

/-- OCCUPANT_CLEAR targets in the order of R104 (PRESUMED). -/
def clearTargetOf (target slot : Nat) : Option ClearTarget :=
  match target with
  | 0 => (fromZero 2048 slot).map .slot
  | 1 => some .evidence
  | 2 => some .unknown
  | _ => none

/-- A location operand of SET_LOOP: 0 the corridor, 1 to 12 a strongroom (R23). -/
def placeOf (x : Nat) : Option (Option RoomId) :=
  if x = 0 then some none else (fromOne 12 x).map some

/-! ## Codes of notices and replies (11.6) -/

/-- The kinds of the class life, in the order of 11.6. -/
def NoticeKind.allLife : List NoticeKind := [.duress, .zoneRelease, .releaseFailed]

/-- The kinds of the class alarm, in the order of 11.6. -/
def NoticeKind.allAlarm : List NoticeKind :=
  [.entryFreeze, .stationCall, .detectorLatched, .zoneAlert, .zonePredischarge, .zoneHeld, .zoneHeldOccupied,
   .loneWorkerOverdue, .doorForced, .doorHeldOpen, .doorInsecure]

/-- The kinds of the class supervisory, in the order of 11.6. -/
def NoticeKind.allSupervisory : List NoticeKind :=
  [.lineFault, .stationStuck, .stationBounce, .releaseIgnored, .doorOpenAtRelease, .zoneIsolated, .actuatorFailed,
   .actuatorFault, .locationCorrected, .strongroomOverflow, .doorFault, .driverLatched, .deviceStart]

/-- The kinds of the class routine, in the order of 11.6. -/
def NoticeKind.allRoutine : List NoticeKind :=
  [.lineRestored, .checkIn, .duressRelease, .stationRecovered, .zoneQuiet, .zoneVentEnd, .actuatorFired,
   .actuatorRestored, .entry, .exit, .assumedOut, .occupantCleared, .loneWorkerPrompt, .grantCancelled, .grantExpired,
   .grantOutcome, .grantFailed, .exitUnlisted, .commitDone, .doorEgress, .doorOpened, .doorSecured, .doorDriveDone,
   .vestibuleIn, .vestibuleOut, .vestibuleEgress, .vestibuleFlushed, .windowEdge, .modeChange]

/-- Every notice kind, in the order of 11.6. -/
def NoticeKind.all : List NoticeKind :=
  NoticeKind.allLife ++ NoticeKind.allAlarm ++ NoticeKind.allSupervisory ++ NoticeKind.allRoutine

/-- The class of a notice kind (11.6). -/
def NoticeKind.cls : NoticeKind → NoticeClass
  | .duress | .zoneRelease | .releaseFailed => .life
  | .entryFreeze | .stationCall | .detectorLatched | .zoneAlert | .zonePredischarge | .zoneHeld | .zoneHeldOccupied
  | .loneWorkerOverdue | .doorForced | .doorHeldOpen | .doorInsecure => .alarm
  | .lineFault | .stationStuck | .stationBounce | .releaseIgnored | .doorOpenAtRelease | .zoneIsolated | .actuatorFailed
  | .actuatorFault | .locationCorrected | .strongroomOverflow | .doorFault | .driverLatched | .deviceStart => .supervisory
  | .lineRestored | .checkIn | .duressRelease | .stationRecovered | .zoneQuiet | .zoneVentEnd | .actuatorFired
  | .actuatorRestored | .entry | .exit | .assumedOut | .occupantCleared | .loneWorkerPrompt | .grantCancelled
  | .grantExpired | .grantOutcome | .grantFailed | .exitUnlisted | .commitDone | .doorEgress | .doorOpened | .doorSecured
  | .doorDriveDone | .vestibuleIn | .vestibuleOut | .vestibuleEgress | .vestibuleFlushed | .windowEdge
  | .modeChange => .routine

/-- The number of a notice class (11.6). -/
def NoticeClass.code : NoticeClass → Nat
  | .life => 0
  | .alarm => 1
  | .supervisory => 2
  | .routine => 3

/-- The number of the first kind of a class (11.6). -/
def NoticeClass.firstCode : NoticeClass → Nat
  | .life => 0x01
  | .alarm => 0x10
  | .supervisory => 0x20
  | .routine => 0x30

/-- The number of a notice kind: kinds are numbered upward within their class (11.6). -/
def NoticeKind.code (k : NoticeKind) : Nat :=
  k.cls.firstCode + (NoticeKind.all.filter (fun j => j.cls = k.cls)).idxOf k

/-- The notice kind with a number (11.6). -/
def noticeKindOf (c : Nat) : Option NoticeKind := NoticeKind.all.find? (fun k => k.code = c)

/-- The reason byte (11.6). -/
def Reason.code : Reason → Nat
  | .unknownBadge => 1
  | .suspended => 2
  | .outsideWindow => 3
  | .outOfHours => 4
  | .noPrivilege => 5
  | .frozen => 6
  | .zoneHazard => 7
  | .passback => 8
  | .strongroomFull => 9
  | .doorUnavailable => 10
  | .doorBusy => 11
  | .direction => 12
  | .vestibuleFull => 13
  | .interlock => 14
  | .hostAbsent => 15
  | .hostDenied => 16
  | .confirmTimeout => 17

/-- The status byte (R191). -/
def Status.code : Status → Nat
  | .ok => 0x00
  | .pending => 0x01
  | .denied => 0x02
  | .frameLength => 0x10
  | .unknownKind => 0x11
  | .badValue => 0x12
  | .badState => 0x13
  | .linkBusy => 0x14
  | .notReady => 0x15
  | .rowState => 0x16
  | .duplicateBadge => 0x17
  | .occupantPresent => 0x18
  | .zoneHazard => 0x19
  | .interlock => 0x1A

end Sys2Proof.Machine
end

