-- ==== Sys2Proof/Machine/Settings.lean ====
section
/-! DEFINITION. Settings: the default settings records (R7, R23, R39, R139, R180), the records in force (the
stored record, or the default where the store holds none), the ranges a settings request is checked
against, and what follows from the doors' roles: which door is the STRONGROOM door or the VESTIBULE_OUTER
door of a strongroom, and which vestibules exist (R162). -/

namespace Sys2Proof.Machine

/-! ## Class parameter sets (R5 to R7) -/

/-- The default DETECTOR set (R7). -/
def ClassParams.detectorDefault : ClassParams :=
  { confirm := 5, hysteresis := 4,
    bands := [⟨.short, 0, 40⟩, ⟨.alarm, 100, 160⟩, ⟨.normal, 672, 720⟩, ⟨.openLine, 960, 1023⟩] }

/-- The default DOOR set (R7). -/
def ClassParams.doorDefault : ClassParams :=
  { confirm := 3, hysteresis := 4,
    bands := [⟨.short, 0, 40⟩, ⟨.bolted, 310, 342⟩, ⟨.unbolted, 496, 528⟩, ⟨.opened, 680, 712⟩, ⟨.egress, 827, 859⟩,
      ⟨.openLine, 960, 1023⟩] }

/-- The default STAFF set (R7). -/
def ClassParams.staffDefault : ClassParams :=
  { confirm := 3, hysteresis := 4,
    bands := [⟨.short, 0, 40⟩, ⟨.station 5, 154, 178⟩, ⟨.station 4, 272, 296⟩, ⟨.station 3, 402, 426⟩,
      ⟨.station 2, 515, 539⟩, ⟨.station 1, 596, 620⟩, ⟨.station 0, 640, 664⟩, ⟨.normal, 684, 708⟩, ⟨.opened, 960, 1023⟩] }

/-- The default STATION set (R7). -/
def ClassParams.stationDefault : ClassParams :=
  { confirm := 3, hysteresis := 4,
    bands := [⟨.short, 0, 40⟩, ⟨.manual, 146, 186⟩, ⟨.abort, 507, 547⟩, ⟨.normal, 672, 720⟩, ⟨.openLine, 960, 1023⟩] }

/-- The default set of a class (R7). -/
def ClassParams.default : LineClass → ClassParams
  | .detector => ClassParams.detectorDefault
  | .door => ClassParams.doorDefault
  | .staff => ClassParams.staffDefault
  | .station => ClassParams.stationDefault

/-- Two bands of one table share no code (R5). -/
def BandRange.apart (a b : BandRange) : Bool := a.high < b.low || b.high < a.low

/-- The band ranges are pairwise apart (R5). -/
def bandsApart : List BandRange → Bool
  | [] => true
  | b :: rest => rest.all (fun c => b.apart c) && bandsApart rest

/-- A parameter set that R6 accepts for a class. -/
def ClassParams.ok (c : LineClass) (p : ClassParams) : Bool :=
  1 ≤ p.confirm && p.confirm ≤ 15 && p.hysteresis ≤ 31 && p.bands.length ≤ Config.maxBands &&
  p.bands.all (fun b => c.hasName b.band && b.low ≤ b.high && b.high ≤ Config.maxCode) && bandsApart p.bands

/-- The bands a SET_CLASS body names; `none` where a code is no band code (R6). -/
def bandList : List BandField → Option (List BandRange)
  | [] => some []
  | f :: rest =>
    match bandOf f.code, bandList rest with
    | some b, some bs => some (⟨b, f.low, f.high⟩ :: bs)
    | _, _ => none

/-- The parameter set a SET_CLASS asks for; `none` is BAD_VALUE (R6). -/
def checkClass (cls confirm hysteresis : Nat) (bands : List BandField) : Option (LineClass × ClassParams) :=
  match classOf cls, bandList bands with
  | some c, some bs =>
    let p : ClassParams := ⟨confirm, hysteresis, bs⟩
    if p.ok c then some (c, p) else none
  | _, _ => none

/-- The parameter set in force for a class (R7). -/
def State.classParams (s : State) (c : LineClass) : ClassParams :=
  (s.nv.classes.get (classIndex c)).getD (ClassParams.default c)

/-! ## Loop settings (R23, R36) -/

/-- The default loop record (R23). -/
def LoopSettings.default : LoopSettings :=
  { tErr := 150, tDuress := 2000, tStuck := 60, freeze := true, locations := Vector.replicate 6 none }

/-- The thresholds lie in their ranges and in order (R23). -/
def LoopSettings.ok (p : LoopSettings) : Bool :=
  50 ≤ p.tErr && p.tErr ≤ 1000 && 500 ≤ p.tDuress && p.tDuress ≤ 10000 && 10 ≤ p.tStuck && p.tStuck ≤ 600 &&
  p.tErr < p.tDuress && p.tDuress < p.tStuck * 1000

/-- The loop record a SET_LOOP asks for; `none` is BAD_VALUE (R36). -/
def checkLoop (loop tErr tDuress tStuck freeze l1 l2 l3 l4 l5 l6 : Nat) : Option (LoopId × LoopSettings) :=
  match fromOne 8 loop, switchOf freeze, placeOf l1, placeOf l2, placeOf l3, placeOf l4, placeOf l5, placeOf l6 with
  | some k, some f, some p1, some p2, some p3, some p4, some p5, some p6 =>
    let p : LoopSettings := ⟨tErr, tDuress, tStuck, f, #v[p1, p2, p3, p4, p5, p6]⟩
    if p.ok then some (k, p) else none
  | _, _, _, _, _, _, _, _ => none

/-- The loop record in force (R23). -/
def State.loopSettings (s : State) (k : LoopId) : LoopSettings := (s.nv.loops.get k).getD LoopSettings.default

/-- T_stuck in ms (R23). -/
def LoopSettings.stuckMs (p : LoopSettings) : Nat := p.tStuck * 1000

/-- The place of a station: `none` for the corridor, and for station 0, which has no location (R22). -/
def LoopSettings.place (p : LoopSettings) (k : StationNo) : Option RoomId :=
  if h : 1 ≤ k.val then p.locations.get ⟨k.val - 1, by omega⟩ else none

/-! ## Zone settings (R39, R61) -/

/-- The default zone record (R39). -/
def ZoneSettings.default : ZoneSettings :=
  { base := 30, ext := 10, tMax := 90, tMan := 10, tResume := 30, hold := true, limit := 180, soak := 10, vent := 15 }

/-- The settings lie in their ranges and keep their relations (R39, R61). -/
def ZoneSettings.ok (p : ZoneSettings) : Bool :=
  p.base ≤ 120 && p.ext ≤ 30 && 10 ≤ p.tMax && p.tMax ≤ 180 && p.base ≤ p.tMax && p.tMan ≤ 60 && p.tMan ≤ p.tMax &&
  p.tResume ≤ p.tMax && 30 ≤ p.limit && p.limit ≤ 900 && 1 ≤ p.soak && p.soak ≤ 60 && 1 ≤ p.vent && p.vent ≤ 120

/-- The zone record a SET_ZONE asks for; `none` is BAD_VALUE (R61). -/
def checkZone (zone base ext tMax tMan tResume hold limit soak vent : Nat) : Option (ZoneId × ZoneSettings) :=
  match fromOne 12 zone, switchOf hold with
  | some z, some h =>
    let p : ZoneSettings := ⟨base, ext, tMax, tMan, tResume, h, limit, soak, vent⟩
    if p.ok then some (z, p) else none
  | _, _ => none

/-- The zone record in force (R39). -/
def State.zoneSettings (s : State) (z : ZoneId) : ZoneSettings := (s.nv.zones.get z).getD ZoneSettings.default

/-! ## Door settings (R139, R158) -/

/-- The default door record (R139). -/
def DoorSettings.default : DoorSettings :=
  { role := .unused, grantMode := .auto, delayHold := 5, confirmTimeout := 30, pairWindow := 20, releaseTime := 8,
    heldOpen := 30, loneInterval := 20, loneWindow := 60 }

/-- The figures lie in their ranges (R139). -/
def DoorSettings.ok (p : DoorSettings) : Bool :=
  1 ≤ p.delayHold && p.delayHold ≤ 30 && 1 ≤ p.confirmTimeout && p.confirmTimeout ≤ 120 && 5 ≤ p.pairWindow &&
  p.pairWindow ≤ 60 && 2 ≤ p.releaseTime && p.releaseTime ≤ 60 && 5 ≤ p.heldOpen && p.heldOpen ≤ 600 &&
  5 ≤ p.loneInterval && p.loneInterval ≤ 120 && 15 ≤ p.loneWindow && p.loneWindow ≤ 300

/-- The door record in force (R139). -/
def State.doorSettings (s : State) (d : DoorId) : DoorSettings := (s.nv.doors.get d).getD DoorSettings.default

/-- The role in force of a door (R138). -/
def State.role (s : State) (d : DoorId) : Role := (s.doorSettings d).role

/-- The strongroom a role belongs to (R138). -/
def Role.room : Role → Option RoomId
  | .strongroom v => some v
  | .vestibuleOuter v => some v
  | .perimeter => none
  | .unused => none

/-- The role is VESTIBULE_OUTER (R162). -/
def Role.isOuter : Role → Bool
  | .vestibuleOuter _ => true
  | _ => false

/-- The STRONGROOM door of a strongroom; R158 lets there be one at most. -/
def State.strongroomDoor (s : State) (v : RoomId) : Option DoorId := (every 20).find? (fun d => s.role d = .strongroom v)

/-- The VESTIBULE_OUTER door of a strongroom: its vestibule exists where there is one (R162). -/
def State.outerDoor (s : State) (v : RoomId) : Option DoorId := (every 20).find? (fun d => s.role d = .vestibuleOuter v)

/-- The vestibule of a strongroom exists (R162). -/
def State.hasVestibule (s : State) (v : RoomId) : Bool := (s.outerDoor v).isSome

/-- The operations that settings requests have in the store: the one being written and those that wait (R200). -/
def Store.accepted (st : Store) : List StoreOp := st.running.toList.map (fun r => r.op) ++ st.host

/-- The roles of a door: the one in force, and those of its SET_DOORs that have been accepted and wait in the store (R158; that these
count is DEDUCED, notes/assumptions/33.md). -/
def State.rolesAhead (s : State) (d : DoorId) : List Role :=
  s.role d :: s.store.accepted.filterMap (fun op =>
    match op with
    | .settings (.door e p) _ => if e = d then some p.role else none
    | _ => none)

/-- Some door other than `d` has the role `r`, or is about to have it. -/
def State.otherHasRole (s : State) (d : DoorId) (r : Role) : Bool := (every 20).any (fun e => e ≠ d && (s.rolesAhead e).contains r)

/-- Some door other than `d` has the role `r` and is not about to lose it. -/
def State.otherKeepsRole (s : State) (d : DoorId) (r : Role) : Bool :=
  (every 20).any (fun e => e ≠ d && (s.rolesAhead e).all (fun q => q = r))

/-- The relations between the doors' roles that R158 refuses with BAD_VALUE are kept by giving door `d`
the role `r`, whichever of the SET_DOORs that wait have taken effect by then. -/
def State.roleFits (s : State) (d : DoorId) (r : Role) : Bool :=
  (match r with
    | .strongroom v => !s.otherHasRole d (.strongroom v)
    | .vestibuleOuter v =>
      !s.otherHasRole d (.vestibuleOuter v) && s.otherKeepsRole d (.strongroom v) &&
      ((every 20).filter (fun e => e ≠ d && (s.rolesAhead e).any Role.isOuter)).length < Config.maxVestibules
    | _ => true) &&
  (s.rolesAhead d).all (fun q =>
    match q with
    | .strongroom v => r = .strongroom v || !s.otherHasRole d (.vestibuleOuter v)
    | _ => true)

/-- The door record a SET_DOOR asks for; `none` is BAD_VALUE (R158). -/
def State.checkDoor (s : State) (door role room grantMode delayHold confirmTimeout pairWindow releaseTime heldOpen loneInterval
    loneWindow : Nat) : Option (DoorId × DoorSettings) :=
  match fromOne 20 door, roleOf role room, grantModeOf grantMode with
  | some d, some r, some g =>
    let p : DoorSettings := ⟨r, g, delayHold, confirmTimeout, pairWindow, releaseTime, heldOpen, loneInterval, loneWindow⟩
    if p.ok && s.roleFits d r then some (d, p) else none
  | _, _, _ => none

/-- The settings record that governs the lone-worker check of a strongroom: that of its STRONGROOM door,
or the defaults (R105). -/
def State.loneSettings (s : State) (v : RoomId) : DoorSettings :=
  match s.strongroomDoor v with
  | some d => s.doorSettings d
  | none => DoorSettings.default

/-- The lone-worker interval in ms (R105). -/
def State.loneIntervalMs (s : State) (v : RoomId) : Nat := (s.loneSettings v).loneInterval * 60000

/-- The lone-worker response window in ms (R105). -/
def State.loneWindowMs (s : State) (v : RoomId) : Nat := (s.loneSettings v).loneWindow * 1000

/-! ## Window settings (R180) -/

/-- The default window record (R180). -/
def WindowSettings.default : WindowSettings := { days := 0, start := 0, stop := 1440, report := false }

/-- The window record a SET_WINDOW asks for; `none` is BAD_VALUE (R180). -/
def checkWindow (window days start stop report : Nat) : Option (WindowId × WindowSettings) :=
  match fromZero 16 window, switchOf report with
  | some w, some r =>
    if days < 128 && start ≤ 1439 && 1 ≤ stop && stop ≤ 1440 && start ≠ stop then
      some (w, ⟨BitVec.ofNat 7 days, start, stop, r⟩)
    else none
  | _, _ => none

/-- The window record in force (R180). -/
def State.windowSettings (s : State) (w : WindowId) : WindowSettings := (s.nv.windows.get w).getD WindowSettings.default

/-! ## Actuator assignments (R80) -/

/-- The assignment a SET_ACTUATOR asks for, 0 for none (R80). -/
def checkAssignment (actuator zone : Nat) : Option (ActId × Option ZoneId) :=
  match fromOne 32 actuator, placeOf zone with
  | some a, some z => some (a, z)
  | _, _ => none

end Sys2Proof.Machine
end

