-- ==== Sys2Proof/Machine/Flags.lean ====
section
/-! DEFINITION. Flags: the outputs and flags that follow from the state, and the lists of states that the
rules test. The spec gives these no storage of their own: an output changes in the same event as the
state it follows (R58, R105, R199). -/

namespace Sys2Proof.Machine

/-- Elapsed time in ms since the last start, rounded down (R3). -/
def State.now (s : State) : Nat := s.quarters / Config.conversionsPerMs

/-- NOTE_PENDING is asserted (R199). -/
def State.notePending (s : State) : Bool := !s.link.notices.isEmpty

/-- The outputs of a zone follow its state (R58). -/
def ZoneState.outputs : ZoneState → ZoneOutputs
  | .quiet => ⟨.off, false, false⟩
  | .alert => ⟨.alertTone, false, false⟩
  | .predischarge => ⟨.evacTone, false, false⟩
  | .held => ⟨.holdTone, false, false⟩
  | .heldOccupied => ⟨.holdTone, false, false⟩
  | .release => ⟨.off, true, false⟩
  | .soak => ⟨.off, true, false⟩
  | .vent => ⟨.off, true, true⟩
  | .discharged => ⟨.off, true, false⟩
  | .releaseFailed => ⟨.off, true, false⟩
  | .isolated => ⟨.off, false, false⟩

/-- The zone is counting down or holding: it is handed each change of E (R63, R96). -/
def ZoneState.takesReports : ZoneState → Bool
  | .predischarge | .held | .heldOccupied => true
  | _ => false

/-- A zone in one of these states refuses a RESTART (R204). -/
def ZoneState.refusesRestart : ZoneState → Bool
  | .predischarge | .held | .heldOccupied | .release => true
  | _ => false

/-- The hazard states that refuse every holder (R124), and a manual withdraw (R156). -/
def ZoneState.refusesAll : ZoneState → Bool
  | .predischarge | .held | .heldOccupied | .release | .releaseFailed | .soak | .vent => true
  | _ => false

/-- Step 8 of the entry chain fails in this zone state for a holder with or without EMERGENCY_CREW (R124). -/
def ZoneState.refusesEntry (st : ZoneState) (crew : Bool) : Bool :=
  st.refusesAll || (!crew && (st = .alert || st = .discharged))

/-- A rearm is accepted while the actuator's zone is in one of these states (R91). -/
def ZoneState.allowsRearm : ZoneState → Bool
  | .quiet | .isolated | .discharged | .releaseFailed => true
  | _ => false

/-- Settings of the zone and its actuators may change in these states (R61, R80). -/
def ZoneState.allowsSettings : ZoneState → Bool
  | .quiet | .isolated => true
  | _ => false

/-- The prompt buzzer is on in PROMPT alone (R105). -/
def Room.buzzer (r : Room) : Bool :=
  match r.lone with
  | .prompt _ => true
  | _ => false

/-- Effective occupancy (R63). -/
def Room.effective (r : Room) : Nat :=
  r.listed.length + (if r.evidence then 1 else 0) + (if r.unknown then 1 else 0)

/-- The direction in which a door's drive is energised: only while its motion is MOVING (R142). -/
def Door.drive (d : Door) : Option Bolt :=
  match d.motion with
  | .moving t _ => some t
  | _ => none

/-- The coil of an actuator is energised while it is FIRING (R85). -/
def Actuator.energised (a : Actuator) : Bool := a.state = .firing

/-- The three overlay states of R140. -/
def DoorState.overlay : DoorState → Bool
  | .lineFault | .driverLatched | .manual => true
  | _ => false

/-- A motion toward the target is complete when the line confirms this band (R142). -/
def Bolt.reachedAt : Bolt → Band → Bool
  | .thrown, .bolted => true
  | .withdrawn, .unbolted => true
  | .withdrawn, .opened => true
  | .withdrawn, .egress => true
  | _, _ => false

/-- The position a band shows, EGRESS left aside (R138). -/
def positionOf : Band → Option Position
  | .bolted => some .bolted
  | .unbolted => some .unbolted
  | .opened => some .opened
  | _ => none

/-- The position field after a band is confirmed: EGRESS leaves it, a fault band or UNKNOWN empties it
(R138). -/
def Position.after (p : Option Position) (b : Band) : Option Position :=
  if b = .egress then p else positionOf b

/-- The grant waits: its door has not moved (R134). -/
def GrantStage.waits : GrantStage → Bool
  | .awaitPartner | .awaitDelay | .awaitConfirm => true
  | .releasing | .released => false

/-- The pair record of a door: its first holder while its grant is in AWAIT_PARTNER (R129). -/
def Grant.pair (g : Grant) : Option Holder :=
  if g.stage = .awaitPartner then g.holders.head? else none

/-- The credential slot is a holder of the grant. -/
def Grant.holds (g : Grant) (slot : SlotId) : Bool := g.holders.any (fun h => h.slot = slot)

/-- The badge of the first holder, which the grant's notices carry. -/
def Grant.firstBadge (g : Grant) : Nat :=
  match g.holders with
  | [] => 0
  | h :: _ => h.badge

/-- The confirmed band of a line. -/
def State.band (s : State) (l : LineId) : Band := (s.lines.get l).confirmed

/-- The band of a line as its owner has it: the confirmed band, and UNKNOWN before READY, while the line supervisor holds every
confirmation back (R18, R62, R161; DEDUCED, notes/assumptions/25.md). -/
def State.ownBand (s : State) (l : LineId) : Band := if s.sup.ready then s.band l else .unknown

/-- The band of a door's position line as the door channel unit has it. -/
def State.doorBand (s : State) (d : DoorId) : Band := s.ownBand (doorLine d)

/-- The door counts as shut for a manual withdraw of the other door of its vestibule (R156). -/
def State.doorShut (s : State) (d : DoorId) : Bool :=
  let x := s.doors.get d
  x.state = .secure || (x.mode = .manual && x.bolt = .thrown && x.motion = .idle && s.doorBand d = .bolted)

/-- The present time as a record keeps it: "clock invalid" is `none` (R94, R178). -/
def State.clockTime (s : State) : Option ClockTime :=
  if s.clock.valid then some ⟨s.clock.minute, s.clock.second⟩ else none

/-- The notice stamp of the week clock (R193). -/
def State.clockMinute (s : State) : Option Nat := if s.clock.valid then some s.clock.minute else none

/-- Continuity tests are suspended while any actuator is QUEUED or FIRING (R82). -/
def State.testsSuspended (s : State) : Bool :=
  (every 32).any (fun a => (s.acts.get a).state = .queued || (s.acts.get a).state = .firing)

/-- A commit is running from its OK reply to COMMIT_DONE (R118). -/
def State.commitRunning (s : State) : Bool :=
  match s.stage with
  | .committing _ _ _ => true
  | _ => false

/-- The store controller has no operation running or waiting (R204). -/
def State.storeIdle (s : State) : Bool := s.store.running.isNone && s.store.marks.isEmpty && s.store.host.isEmpty

/-- The three conditions of R204 pass. -/
def State.mayRestart (s : State) : Bool :=
  (every 12).all (fun z => !(s.zones.get z).state.refusesRestart) && !s.commitRunning && s.storeIdle

end Sys2Proof.Machine
end

