-- ==== Sys2Proof/Machine/Ops.lean ====
section
/-! DEFINITION. Ops: the named operations that every block uses: writing one record, the passing of
time, raising a notice (R193 to R197), the replies of the panel link (R190), and handing an operation to
the store controller (R200). -/

namespace Sys2Proof.Machine

/-! ## Writing one record -/

/-- A table with the entry of one object replaced. -/
def put {n : Nat} {α : Type} (t : Vector α n) (i : Fin n) (x : α) : Vector α n := t.set i.val x i.isLt

/-- Replace one line record. -/
def State.setLine (l : LineId) (x : LineRecord) (s : State) : State := { s with lines := put s.lines l x }

/-- Replace one loop record. -/
def State.setLoop (k : LoopId) (x : Loop) (s : State) : State := { s with loops := put s.loops k x }

/-- Replace one zone record. -/
def State.setZone (z : ZoneId) (x : Zone) (s : State) : State := { s with zones := put s.zones z x }

/-- Replace one actuator record. -/
def State.setAct (a : ActId) (x : Actuator) (s : State) : State := { s with acts := put s.acts a x }

/-- Replace one strongroom record. -/
def State.setRoom (v : RoomId) (x : Room) (s : State) : State := { s with rooms := put s.rooms v x }

/-- Replace one grant record. -/
def State.setGrant (d : DoorId) (x : Option Grant) (s : State) : State := { s with grants := put s.grants d x }

/-- Replace one door record. -/
def State.setDoor (d : DoorId) (x : Door) (s : State) : State := { s with doors := put s.doors d x }

/-- Replace one vestibule record. -/
def State.setVest (v : RoomId) (x : Vestibule) (s : State) : State := { s with vests := put s.vests v x }

/-- Apply a change for each object of a kind, in ascending number. -/
def forEach {n : Nat} (f : Fin n → State → State) (s : State) : State := (every n).foldl (fun t i => f i t) s

/-- A change made only while main power is on: without it no block of the main domain acts (R201). -/
def whilePowered (f : State → State) (s : State) : State := if s.powered then f s else s

/-- A deadline has been reached. -/
def due (s : State) (deadline : Option Nat) : Bool :=
  match deadline with
  | some t => t ≤ s.now
  | none => false

/-- The time left to a deadline: 0 for one that lies in the past, as the test of an actuator may while tests are suspended
(DESIGN CHOICE, notes/assumptions/27.md). -/
def timeLeft (s : State) (deadline : Option Nat) : Option Nat := deadline.map (fun t => t - s.now)

/-! ## Sparse tables: entries by strictly rising key, none equal to the default -/

/-- The entry of a key, or the default. -/
def sparseGet {n : Nat} {α : Type} (dflt : α) : List (Fin n × α) → Fin n → α
  | [], _ => dflt
  | (k, x) :: rest, i => if k = i then x else sparseGet dflt rest i

/-- The table without a key. -/
def sparseErase {n : Nat} {α : Type} : List (Fin n × α) → Fin n → List (Fin n × α)
  | [], _ => []
  | (k, x) :: rest, i => if k = i then rest else (k, x) :: sparseErase rest i

/-- The table with an entry for a key, kept in rising order. -/
def sparseInsert {n : Nat} {α : Type} : List (Fin n × α) → Fin n → α → List (Fin n × α)
  | [], i, y => [(i, y)]
  | (k, x) :: rest, i, y =>
    if i < k then (i, y) :: (k, x) :: rest
    else if k = i then (i, y) :: rest
    else (k, x) :: sparseInsert rest i y

/-- The table with a new value for a key: the default removes the entry. -/
def sparsePut {n : Nat} {α : Type} [DecidableEq α] (dflt : α) (t : List (Fin n × α)) (i : Fin n) (y : α) : List (Fin n × α) :=
  if y = dflt then sparseErase t i else sparseInsert t i y

/-- The canonical form of a sparse table: strictly rising keys and no entry equal to the default. -/
def sparseOk {n : Nat} {α : Type} [DecidableEq α] (dflt : α) : List (Fin n × α) → Bool
  | [] => true
  | (k, x) :: rest => x ≠ dflt && rest.all (fun e => k < e.1) && sparseOk dflt rest

/-- The place of a credential slot (R95). -/
def State.location (s : State) (slot : SlotId) : Location := sparseGet .outside s.locations slot

/-- Set the place of a credential slot (R95). -/
def State.setLocation (slot : SlotId) (p : Location) (s : State) : State :=
  { s with locations := sparsePut .outside s.locations slot p }

/-- The record of an empty slot (R112). -/
def Credential.empty : Credential := ⟨0, .active, 0, 0, ⟨false, false, false, false⟩⟩

/-- The record as the store holds it: a badge of 0 discards the other fields (R112, R116; that this happens at the write of the commit,
and not at staging: DESIGN CHOICE, notes/assumptions/13.md). -/
def Credential.stored (c : Credential) : Credential := if c.badge = 0 then Credential.empty else c

/-- The record of a slot as held in the store (R112). -/
def Nv.credential (nv : Nv) (slot : SlotId) : Credential := sparseGet Credential.empty nv.credentials slot

/-- Write the record of a slot (R118). -/
def Nv.putCredential (nv : Nv) (slot : SlotId) (c : Credential) : Nv :=
  { nv with credentials := sparsePut Credential.empty nv.credentials slot c.stored }

/-! ## The passing of time -/

/-- The week clock one ms on (R179). Reaching second 0 of a new minute makes a minute boundary due. -/
def WeekClock.tick (c : WeekClock) : WeekClock :=
  if c.ms < 999 then { c with ms := c.ms + 1 }
  else if c.second < 59 then { c with ms := 0, second := c.second + 1 }
  else
    { c with ms := 0, second := 0, minute := if c.minute + 1 < Config.minutesPerWeek then c.minute + 1 else 0, boundaryDue := true }

/-- The week clock after a time on the backup cell (R178): it counts on and takes no boundary (R179). -/
def WeekClock.advance (c : WeekClock) (ms : Nat) : WeekClock :=
  let total := (c.minute * 60000 + c.second * 1000 + c.ms + ms) % (Config.minutesPerWeek * 60000)
  { c with minute := total / 60000, second := total / 1000 % 60, ms := total % 1000 }

/-- The week clock as it stood a time of less than a week before. -/
def WeekClock.back (c : WeekClock) (ms : Nat) : WeekClock := c.advance (Config.minutesPerWeek * 60000 - ms % (Config.minutesPerWeek * 60000))

/-- The countdown of a zone one ms on: it runs in PREDISCHARGE and stands still in HELD (R64). -/
def Zone.tick (z : Zone) : Zone :=
  if z.state = .predischarge then
    { z with countdown := z.countdown.map (fun c => { c with remaining := c.remaining - 1 }) }
  else z

/-- One conversion's time passes: 250 µs (R3). At each whole ms the running countdowns fall by one and the
week clock advances by one. -/
def State.tick (s : State) : State :=
  let s := { s with quarters := s.quarters + 1 }
  if s.quarters % Config.conversionsPerMs = 0 then { s with zones := s.zones.map Zone.tick, clock := s.clock.tick } else s

/-- The state as an event taken as of an earlier elapsed time `t` finds it: `t` is its present time (R32). -/
def State.asAt (t : Nat) (s : State) : State :=
  if t < s.now then { s with quarters := t * Config.conversionsPerMs, clock := s.clock.back (s.now - t) } else s

/-- An event taken as of an earlier elapsed time: whatever it stamps or computes from the present time it takes from then (R32). -/
def asOf (t : Nat) (f : State → State) (s : State) : State := { f (s.asAt t) with quarters := s.quarters, clock := s.clock }

/-! ## Notices (R193 to R197) -/

/-- A count that stays at 255 once it has reached it (R195, R196). -/
def bump (n : Nat) : Nat := if n < Config.maxCount then n + 1 else n

/-- The entry takes part in coalescing with this notice (R195). -/
def Notice.matches (k : NoticeKind) (o : NoticeObject) (d : Option Detail) (e : Notice) : Bool :=
  !e.inTx && e.kind = k && e.object = o && e.detail = d

/-- Count one more repeat in the oldest matching entry; `none` where no entry matches (R195). -/
def coalesce (k : NoticeKind) (o : NoticeObject) (d : Option Detail) : List Notice → Option (List Notice)
  | [] => none
  | e :: rest =>
    if e.matches k o d then some ({ e with repeats := bump e.repeats } :: rest)
    else (coalesce k o d rest).map (fun r => e :: r)

/-- Discard the oldest entry with a property; `none` where no entry has it. -/
def discardOldest (p : Notice → Bool) : List Notice → Option (List Notice)
  | [] => none
  | e :: rest => if p e then some rest else (discardOldest p rest).map (fun r => e :: r)

/-- The entry is of a class other than LIFE. -/
def Notice.nonLife (e : Notice) : Bool := e.kind.cls ≠ .life

/-- The entry is of a class and can be displaced (R196). -/
def Notice.displaceable (c : NoticeClass) (e : Notice) : Bool := !e.inTx && e.kind.cls = c

/-- The queue has room for a new notice without displacement (R196, R197). -/
def hasRoom (c : NoticeClass) (q : List Notice) : Bool :=
  q.length < Config.maxNotices && (c = .life || (q.filter Notice.nonLife).length < Config.maxNonLife)

/-- The queue with one entry displaced for a notice of a class (R196, R197): the lowest class strictly
below it for a non-LIFE notice; for a LIFE notice the oldest non-LIFE entry, else the oldest LIFE entry. -/
def displace (c : NoticeClass) (q : List Notice) : Option (List Notice) :=
  match c with
  | .routine => none
  | .supervisory => discardOldest (Notice.displaceable .routine) q
  | .alarm => (discardOldest (Notice.displaceable .routine) q).or (discardOldest (Notice.displaceable .supervisory) q)
  | .life => (discardOldest (fun e => !e.inTx && e.nonLife) q).or (discardOldest (fun e => !e.inTx) q)

/-- The link takes a notice into the queue: mask, coalescing, capacity, admission (R193 to R197). -/
def Link.take (n : Notice) (lk : Link) : Link :=
  if n.kind ∈ lk.masks then lk
  else
    match coalesce n.kind n.object n.detail lk.notices with
    | some q => { lk with notices := q }
    | none =>
      if hasRoom n.kind.cls lk.notices then { lk with notices := lk.notices ++ [n] }
      else
        match displace n.kind.cls lk.notices with
        | some q => { lk with notices := q ++ [n], lost := bump lk.lost }
        | none => { lk with lost := bump lk.lost }

/-- A block raises a notice (R193). -/
def raise (k : NoticeKind) (o : NoticeObject) (d : Option Detail) (s : State) : State :=
  { s with link := s.link.take ⟨k, o, d, s.now, s.clockMinute, 1, false⟩ }

/-- A notice of a door: an UNUSED door raises none (R138), nor does a door before READY (R161). -/
def raiseDoor (k : NoticeKind) (d : DoorId) (det : Option Detail) (s : State) : State :=
  if s.sup.ready && s.role d ≠ .unused then raise k (.door d) det s else s

/-! ## Replies (R190, R191) -/

/-- The reply of the outstanding request becomes ready (R190). -/
def reply (st : Status) (data : ReplyData) (role : ReplyRole) (s : State) : State :=
  match s.link.outstanding with
  | none => s
  | some r => { s with link := { s.link with tx := s.link.tx ++ [⟨r.kind, r.tag, st, data, role⟩] } }

/-- A reply of a status byte alone. -/
def answer (st : Status) (s : State) : State := reply st .none .plain s

/-- A reply of status OK with data. -/
def answerData (data : ReplyData) (s : State) : State := reply .ok data .plain s

/-- A deferred reply: none is sent where a BREAK has discarded it (R189). -/
def answerOwed (owed : Bool) (st : Status) (data : ReplyData) (s : State) : State :=
  if owed then reply st data .plain s else s

/-! ## The store controller (R200) -/

/-- The time an operation takes (R200). -/
def StoreOp.duration : StoreOp → Nat
  | .mark _ _ => Config.writeMs
  | .settings _ _ => Config.writeMs
  | .commit _ => Config.commitMs

/-- The free controller starts the oldest mark, else the oldest host operation (R200). -/
def Store.startNext (now : Nat) (st : Store) : Store :=
  match st.running with
  | some _ => st
  | none =>
    match st.marks with
    | m :: rest =>
      { st with running := some ⟨.mark m.item m.value, now + (StoreOp.mark m.item m.value).duration⟩, marks := rest }
    | [] =>
      match st.host with
      | op :: rest => { st with running := some ⟨op, now + op.duration⟩, host := rest }
      | [] => st

/-- A mark joins the mark list; where one waits for its item, that one takes the new value (R200). -/
def joinMarks (item : MarkItem) (value : Bool) : List MarkRequest → List MarkRequest
  | [] => [⟨item, value⟩]
  | m :: rest => if m.item = item then ⟨item, value⟩ :: rest else m :: joinMarks item value rest

/-- Hand an internal mark to the store controller (R53, R90, R200). -/
def requestMark (item : MarkItem) (value : Bool) (s : State) : State :=
  { s with store := ({ s.store with marks := joinMarks item value s.store.marks }).startNext s.now }

/-- Hand a host operation to the store controller (R200). -/
def requestHost (op : StoreOp) (s : State) : State :=
  { s with store := ({ s.store with host := s.store.host ++ [op] }).startNext s.now }

/-- An accepted settings request becomes a settings write whose OK reply is deferred (R191). -/
def requestSettings (item : SettingsItem) (s : State) : State := requestHost (.settings item true) s

/-- The nonvolatile memory with a mark written (R200). -/
def Nv.writeMark (nv : Nv) (item : MarkItem) (value : Bool) : Nv :=
  match item with
  | .discharge z => { nv with discharge := put nv.discharge z value }
  | .spent a => { nv with spent := put nv.spent a value }
  | .isolate z => { nv with isolate := put nv.isolate z value }

/-- The nonvolatile memory with a settings record written (R200). -/
def Nv.writeSettings (nv : Nv) (item : SettingsItem) : Nv :=
  match item with
  | .cls c p => { nv with classes := put nv.classes (classIndex c) (some p) }
  | .loop k p => { nv with loops := put nv.loops k (some p) }
  | .zone z p => { nv with zones := put nv.zones z (some p) }
  | .actuator a z => { nv with assignments := put nv.assignments a z }
  | .door d p => { nv with doors := put nv.doors d (some p) }
  | .window w p => { nv with windows := put nv.windows w (some p) }

/-- Slot `j` of a row (R112). -/
def rowSlot (row : RowId) (j : Fin 8) : SlotId := ⟨8 * row.val + j.val, by omega⟩

/-- The row of a slot (R112). -/
def slotRow (slot : SlotId) : RowId := ⟨slot.val / 8, by omega⟩

/-- The place of a slot in its row. -/
def slotPlace (slot : SlotId) : Fin 8 := ⟨slot.val % 8, by omega⟩

/-- The row with the staged record of every touched slot written (R118). -/
def Nv.writeRow (nv : Nv) (row : RowId) (staged : Vector Credential 8) (touched : Vector Bool 8) : Nv :=
  (every 8).foldl (fun nv j => if touched.get j then nv.putCredential (rowSlot row j) (staged.get j) else nv) nv

/-- The nonvolatile memory after a running operation has been written whole; a row is written from the
stage that commits it (R118, R200, R201). -/
def Nv.writeOp (nv : Nv) (stage : Stage) (op : StoreOp) : Nv :=
  match op with
  | .mark item value => nv.writeMark item value
  | .settings item _ => nv.writeSettings item
  | .commit _ =>
    match stage with
    | .committing row staged touched => nv.writeRow row staged touched
    | _ => nv

end Sys2Proof.Machine
end

