-- ==== Sys2Proof/Machine/Grants.lean ====
section
/-! DEFINITION. Grants: ending a grant record by cancellation (R129), and taking occupants out of a
vestibule with what the access decision unit does about it (R163). -/

namespace Sys2Proof.Machine

/-- The stage of a door's grant record (R129). -/
def State.grantStage (s : State) (d : DoorId) : Option GrantStage := (s.grants.get d).map (fun g => g.stage)

/-- The door holds a grant record in RELEASING or RELEASED. -/
def State.grantMoving (s : State) (d : DoorId) : Bool :=
  match s.grants.get d with
  | some g => !g.stage.waits
  | none => false

/-- Cancel a door's grant record (R129): the record ends, GRANT_CANCELLED is raised with the reason, a
waiting re-check is dropped, and a CONFIRM that waits with it is answered DENIED (R119). What the door then
does is `cancelGrant`. -/
def dropGrant (d : DoorId) (r : Reason) (s : State) : State :=
  match s.grants.get d with
  | none => s
  | some g =>
    let s := raise .grantCancelled (.door d) (some (.reason r)) (s.setGrant d none)
    match g.recheck with
    | some w => answerOwed w.owed .denied (.reason r) s
    | none => s

/-- A removal from the occupant list is handed to the access decision unit: a waiting entry grant at the
inner door that has the slot as a holder is cancelled with PASSBACK (R163). -/
def handRemoval (v : RoomId) (slot : SlotId) (s : State) : State :=
  match s.strongroomDoor v with
  | none => s
  | some d =>
    match s.grants.get d with
    | none => s
    | some g => if g.purpose = .entry && g.stage.waits && g.holds slot then dropGrant d .passback s else s

/-- A vestibule without one slot; the direction is NONE when the list becomes empty (R163). -/
def Vestibule.without (slot : SlotId) (x : Vestibule) : Vestibule :=
  let rest := x.occupants.filter (fun o => o.slot ≠ slot)
  { occupants := rest, direction := if rest.isEmpty then .none else x.direction }

/-- Take one slot out of an occupant list and hand the removal on; nothing where it is not in it (R97, R163). -/
def vestRemove (v : RoomId) (slot : SlotId) (s : State) : State :=
  let x := s.vests.get v
  if x.occupants.any (fun o => o.slot = slot) then handRemoval v slot (s.setVest v (x.without slot)) else s

/-- Append a slot at the tail of an occupant list and set the direction (R163). -/
def vestAppend (v : RoomId) (slot : SlotId) (badge : Nat) (dir : Direction) (s : State) : State :=
  let x := s.vests.get v
  s.setVest v { occupants := x.occupants ++ [⟨slot, badge, s.clockTime⟩], direction := dir }

/-- Take every occupant out of a vestibule: the list is emptied, the direction is NONE, each slot is set
OUTSIDE and each removal is handed on, and `k` is raised for each (R173, R176). -/
def emptyVestibule (v : RoomId) (k : NoticeKind) (s : State) : State :=
  let gone := (s.vests.get v).occupants
  let s := s.setVest v Vestibule.empty
  let s := gone.foldl (fun s o => s.setLocation o.slot .outside) s
  let s := gone.foldl (fun s o => handRemoval v o.slot s) s
  gone.foldl (fun s o => raise k (.strongroom v) (some (.badge o.badge)) s) s

end Sys2Proof.Machine
end

