-- ==== Sys2Proof/Machine/Bolts.lean ====
section
/-! DEFINITION. Bolts: the motions of a bolt, entering SECURE, the release of a door, the automatic outer
release of a vestibule, cancellation at a door, the overlay states and re-derivation (R140 to R148, R151,
R154, R171). -/

namespace Sys2Proof.Machine

/-- Energise the drive toward a target with a fresh timeout (R142). -/
def startMotion (d : DoorId) (target : Bolt) (s : State) : State :=
  s.setDoor d { s.doors.get d with bolt := target, motion := .moving target (s.now + Config.motionTimeoutMs) }

/-- A motion complete: the drive stops and the trip count returns to 0 (R142). A motion that is complete as it begins counts as
well (DEDUCED, notes/assumptions/14.md). -/
def stopAtTarget (d : DoorId) (target : Bolt) (s : State) : State :=
  s.setDoor d { s.doors.get d with bolt := target, motion := .idle, trips := 0 }

/-- The door enters OPEN with a held-open deadline (R147, R150, R152). -/
def enterOpen (d : DoorId) (s : State) : State :=
  s.setDoor d { s.doors.get d with
    state := .opened, motion := .idle, releaseDl := none, heldOpenDl := some (s.now + (s.doorSettings d).heldOpen * 1000) }

/-- The withdraw has reached its target: the door enters RELEASED with a release deadline and its grant
becomes RELEASED (R145). -/
def enterReleased (d : DoorId) (s : State) : State :=
  let s := s.setDoor d { s.doors.get d with
    state := .released, motion := .idle, releaseDl := some (s.now + (s.doorSettings d).releaseTime * 1000) }
  s.setGrant d ((s.grants.get d).map (fun g => { g with stage := .released }))

/-- A withdraw for a grant begins; it is complete at once where the line already shows its target (R142, R145). -/
def beginWithdraw (d : DoorId) (s : State) : State :=
  if Bolt.reachedAt .withdrawn (s.doorBand d) then enterReleased d (stopAtTarget d .withdrawn s) else startMotion d .withdrawn s

/-- A release handed to the door: RELEASING with a withdraw (R145). -/
def startRelease (d : DoorId) (s : State) : State := beginWithdraw d (s.setDoor d { s.doors.get d with state := .releasing })

/-- The outer door of an OUTBOUND vestibule may be released by the part itself as far as its grant record
goes: none, or a waiting entry grant (R171). -/
def outerFree (g : Option Grant) : Bool :=
  match g with
  | none => true
  | some g => g.purpose = .entry && g.stage.waits

/-- The automatic outer release (R171): with both doors SECURE and direction OUTBOUND, the occupants get an
exit grant at the outer door and it is released. An outer line already at OPEN (no SECURE door shows it)
would make the passage of R147 at once, which here empties the chamber (R173). -/
def autoRelease (v : RoomId) (s : State) : State :=
  match s.strongroomDoor v, s.outerDoor v with
  | some i, some o =>
    let x := s.vests.get v
    if x.direction = .outbound && (s.doors.get i).state = .secure && (s.doors.get o).state = .secure &&
        outerFree (s.grants.get o) then
      let s := dropGrant o .direction s
      let g : Grant := ⟨x.occupants.map (fun p => ⟨p.slot, p.badge⟩), .exit, .inside, .releasing, none, none⟩
      let s := startRelease o (s.setGrant o (some g))
      if s.doorBand o = .opened then emptyVestibule v .vestibuleOut ((enterOpen o s).setGrant o none) else s
    else s
  | _, _ => s

/-- The vestibule unit is handed the entry of a door to SECURE (R151, R171): the inner door's by any way,
the outer door's by re-derivation. -/
def handSecure (d : DoorId) (rederived : Bool) (s : State) : State :=
  match s.role d with
  | .strongroom v => autoRelease v s
  | .vestibuleOuter v => if rederived then autoRelease v s else s
  | _ => s

/-- The door enters SECURE: bolt THROWN, motion IDLE, egress flag and deadlines dropped, and DOOR_SECURED
where an alarm stood (R151). -/
def enterSecure (d : DoorId) (rederived : Bool) (s : State) : State :=
  let x := s.doors.get d
  let s := s.setDoor d { x with
    state := .secure, bolt := .thrown, motion := .idle, egress := false, alarm := false, releaseDl := none, heldOpenDl := none }
  let s := if x.alarm then raiseDoor .doorSecured d none s else s
  if x.state = .secure then s else handSecure d rederived s

/-- Begin a throw at a door in RELOCKING or INSECURE; it is complete at once, into SECURE, where the line
already confirms BOLTED (R142). -/
def beginThrow (d : DoorId) (s : State) : State :=
  if Bolt.reachedAt .thrown (s.doorBand d) then enterSecure d false (stopAtTarget d .thrown s) else startMotion d .thrown s

/-- Enter a closed state and begin a throw; both deadlines are dropped. -/
def throwInto (st : DoorState) (d : DoorId) (s : State) : State :=
  beginThrow d (s.setDoor d { s.doors.get d with state := st, releaseDl := none, heldOpenDl := none })

/-- A throw into RELOCKING that keeps the trip count, be it complete at once (R148). -/
def throwKeepingTrips (d : DoorId) (s : State) : State :=
  let t := throwInto .relocking d s
  t.setDoor d { t.doors.get d with trips := (s.doors.get d).trips }

/-- The door acts on the cancellation of its grant in RELEASING or RELEASED (R148). -/
def doorCancelled (d : DoorId) (s : State) : State :=
  let x := s.doors.get d
  match x.state, x.motion with
  | .releasing, .cooling _ t => s.setDoor d { x with state := .relocking, bolt := .thrown, motion := .cooling .thrown t }
  | .releasing, _ => throwKeepingTrips d s
  | .released, _ => throwKeepingTrips d s
  | _, _ => s

/-- Cancel a door's grant in whatever stage it is; past its waiting stages the door throws its bolt again
(R129, R134, R148). -/
def cancelGrant (d : DoorId) (r : Reason) (s : State) : State :=
  if s.grantMoving d then doorCancelled d (dropGrant d r s) else dropGrant d r s

/-- The withdraw of a releasing or released grant has failed: the record is removed and GRANT_FAILED is
raised with the first holder's badge (R134, R140). -/
def failGrant (d : DoorId) (s : State) : State :=
  match s.grants.get d with
  | some g => if g.stage.waits then s else raiseDoor .grantFailed d (some (.badge g.firstBadge)) (s.setGrant d none)
  | none => s

/-- The door passes into an overlay state (R140). -/
def enterOverlay (st : DoorState) (d : DoorId) (s : State) : State :=
  failGrant d (s.setDoor d { s.doors.get d with state := st, motion := .idle, releaseDl := none, heldOpenDl := none })

/-- A band that hides the door: UNKNOWN, or a line-fault band of the DOOR class (R140). -/
def hidesDoor (b : Band) : Bool := b = .unknown || LineClass.faultBand .door b

/-- The overlay that stands over the automatic states, if any (R140). -/
def overlayOf (b : Band) (x : Door) : Option DoorState :=
  if hidesDoor b then some .lineFault
  else if x.latch then some .driverLatched
  else if x.mode = .manual then some .manual
  else none

/-- Re-derive a door from its line (R141). Before READY the line's band is UNKNOWN to the door, which stays in LINE_FAULT (R161;
DEDUCED, notes/assumptions/25.md). -/
def rederive (d : DoorId) (s : State) : State :=
  let b := s.doorBand d
  let x : Door := { s.doors.get d with motion := .idle, releaseDl := none, heldOpenDl := none }
  match overlayOf b x with
  | some st =>
    s.setDoor d
      (match b with
        | .bolted => { x with state := st, bolt := .thrown, egress := false }
        | .unbolted => { x with state := st, bolt := .thrown }
        | .egress => if x.position = some .opened then { x with state := st } else { x with state := st, bolt := .thrown, egress := true }
        | _ => { x with state := st })
  | none =>
    match b with
    | .bolted => enterSecure d true (s.setDoor d x)
    | .unbolted => throwInto .relocking d (s.setDoor d x)
    | .egress =>
      if x.position = some .opened then enterOpen d (s.setDoor d x)
      else s.setDoor d { x with state := .relocking, bolt := .thrown, egress := true }
    | _ => enterOpen d (s.setDoor d x)

/-- A door named by DOOR_DRIVE begins a motion in MANUAL; a target already shown completes it at once with
DOOR_DRIVE_DONE (R142, R156). -/
def manualMotion (d : DoorId) (target : Bolt) (s : State) : State :=
  if target.reachedAt (s.doorBand d) then
    raiseDoor .doorDriveDone d (some (.named (.bolt target))) (stopAtTarget d target s)
  else startMotion d target s

end Sys2Proof.Machine
end

