-- ==== Sys2Proof/Machine/Lookup.lean ====
section
/-! DEFINITION. Lookup: finding a credential by its badge (R113), the conflict of a lookup with a running row
commit (R113), and the tests of steps 3 to 8 of the entry chain that read the found record (R124,
R125). -/

namespace Sys2Proof.Machine

/-- A badge number that can match a slot: 0 and 4 294 967 295 match none (R113). -/
def badgeMatches (badge : Nat) : Bool := badge ≠ 0 && badge < Config.badBadge

/-- The slot whose stored badge equals a badge number, with its record (R113). -/
def Nv.findBadge (nv : Nv) (badge : Nat) : Option (SlotId × Credential) :=
  if badgeMatches badge then nv.credentials.find? (fun e => e.2.badge = badge) else none

/-- The record a holder's badge finds in the store's present content (R135). -/
def State.recordOf (s : State) (badge : Nat) : Option Credential := (s.nv.findBadge badge).map (fun e => e.2)

/-- A lookup of this badge conflicts with the running commit: the badge is held in the store by a slot of the
committing row or staged for one (R113). Badge 0 is no exception: an empty slot of the row holds it. -/
def State.conflicts (s : State) (badge : Nat) : Bool :=
  match s.stage with
  | .committing row staged touched =>
    (every 8).any (fun j =>
      (s.nv.credential (rowSlot row j)).badge = badge || (touched.get j && (staged.get j).badge = badge))
  | _ => false

/-- The record carries EMERGENCY_CREW. -/
def isCrew (c : Option Credential) : Bool :=
  match c with
  | some c => c.flags.emergencyCrew
  | none => false

/-- The record carries SOLO or EMERGENCY_CREW: it excuses its holder from the two-person rule (R126). -/
def excused (c : Option Credential) : Bool :=
  match c with
  | some c => c.flags.solo || c.flags.emergencyCrew
  | none => false

/-- Step 5 fails: the mode is AFTER_HOURS and the record does not carry the flag (R124, R135). -/
def State.outOfHours (s : State) (c : Option Credential) : Bool :=
  s.clock.mode = .afterHours && !(match c with
    | some c => c.flags.afterHours
    | none => false)

/-- Step 8 fails for a record at the strongroom of a zone (R124). -/
def State.zoneRefuses (s : State) (z : ZoneId) (c : Option Credential) : Bool :=
  (s.zones.get z).state.refusesEntry (isCrew c)

end Sys2Proof.Machine
end

