-- ==== Sys2Proof/Machine/Suppression.lean ====
section
/-! DEFINITION. Suppression: what a zone does at each event (R40 to R57), the figures of its countdown (R63 to
R76), what other blocks do at a change of its state (R135, R159), and the firing bank (R82 to R91). -/

namespace Sys2Proof.Machine

/-! ## The effects of a change of zone state on grants and doors (R59) -/

/-- A grant that a change of its zone's state cancels: an entry grant any of whose holders fails step 8
(R135). -/
def State.hazardous (s : State) (z : ZoneId) (d : DoorId) : Bool :=
  match s.grants.get d with
  | some g => g.purpose = .entry && g.holders.any (fun h => s.zoneRefuses z (s.recordOf h.badge))
  | none => false

/-- The access decision unit is handed a zone's new state (R135). -/
def cancelHazard (z : ZoneId) (s : State) : State :=
  forEach (fun d s => if (s.role d).room = some z && s.hazardous z d then cancelGrant d .zoneHazard s else s) s

/-- A door that throws its bolt when its zone enters RELEASE (R159). -/
def State.throwsAtRelease (s : State) (z : ZoneId) (d : DoorId) : Bool :=
  let x := s.doors.get d
  (s.role d).room = some z && (x.state = .relocking || x.state = .insecure) && x.motion = .idle && s.doorBand d = .unbolted

/-- A zone's change of state is handed to the other blocks (R59). -/
def handZone (z : ZoneId) (s : State) : State :=
  let s := cancelHazard z s
  if (s.zones.get z).state = .release then forEach (fun d s => if s.throwsAtRelease z d then beginThrow d s else s) s else s

/-! ## The firing queue and the pulse grant (R84 to R86) -/

/-- The ARMED actuators of a zone, in ascending number (R50). -/
def State.armedOf (s : State) (z : ZoneId) : List ActId :=
  (every 32).filter (fun a => (s.acts.get a).state = .armed && (s.acts.get a).zone = some z)

/-- Append a handed-over actuator to the firing queue (R84). -/
def queueArmed (a : ActId) (s : State) : State :=
  { s.setAct a { s.acts.get a with state := .queued, attempts := 0, nextTest := none } with
    bank := { s.bank with queue := s.bank.queue ++ [a] } }

/-- The four conditions of a pulse grant (R85). -/
def Bank.mayGrant (b : Bank) : Bool :=
  !b.queue.isEmpty && b.inFlight.length < Config.maxInFlight && b.pauseEnd.isNone && b.pulseCount < Config.pulsesPerCharge

/-- Grant a pulse to the actuator at the head of the queue where the conditions hold (R85). -/
def grantOne (s : State) : State :=
  match s.bank.queue with
  | [] => s
  | a :: rest =>
    if s.bank.mayGrant then
      let x := s.acts.get a
      { s.setAct a { x with state := .firing, attempts := x.attempts + 1, pulseEnd := some (s.now + Config.pulseMs) } with
        bank := { s.bank with queue := rest, inFlight := s.bank.inFlight ++ [a], pulseCount := s.bank.pulseCount + 1 } }
    else s

/-- The pulse grant, repeated for as long as its conditions hold: at most two pulses are in flight (R85). -/
def grantPulses (s : State) : State := grantOne (grantOne s)

/-- A recharge pause begins when the set in flight is empty while the count stands at 6 (R86). -/
def pauseTest (s : State) : State :=
  if s.bank.inFlight.isEmpty && s.bank.pulseCount = Config.pulsesPerCharge && s.bank.pauseEnd.isNone then
    { s with bank := { s.bank with pauseEnd := some (s.now + Config.pauseMs) } }
  else s

/-- The recharge pause ends: the count returns to 0 and the grant is applied (R86). -/
def endPause (s : State) : State := grantPulses { s with bank := { s.bank with pulseCount := 0, pauseEnd := none } }

/-! ## Release (R50 to R52) -/

/-- DOOR_OPEN_AT_RELEASE for a door whose state is not SECURE (R51). -/
def reportOpenDoor (d : Option DoorId) (s : State) : State :=
  match d with
  | some d =>
    let st := (s.doors.get d).state
    if st = .secure then s else raise .doorOpenAtRelease (.door d) (some (.named (.doorState st))) s
  | none => s

/-- A zone enters RELEASE_FAILED (R50, R52). -/
def failRelease (z : ZoneId) (s : State) : State :=
  handZone z (raise .releaseFailed (.zone z) none (s.setZone z { s.zones.get z with state := .releaseFailed }))

/-- A zone enters RELEASE (R50): ZONE_RELEASE, the discharge mark, the door check, the hand-over of its ARMED
actuators; with none ARMED it enters RELEASE_FAILED in the same event. -/
def enterRelease (z : ZoneId) (s : State) : State :=
  let armed := s.armedOf z
  let s := s.setZone z { s.zones.get z with
    state := .release, countdown := none, holdDl := none, outstanding := armed, fired := false, discharge := true }
  let s := raise .zoneRelease (.zone z) none s
  let s := requestMark (.discharge z) true s
  let s := reportOpenDoor (s.outerDoor z) (reportOpenDoor (s.strongroomDoor z) s)
  let s := grantPulses (armed.foldl (fun s a => queueArmed a s) s)
  let s := handZone z s
  if armed.isEmpty then failRelease z s else s

/-- A release concludes when its outstanding set is empty: SOAK where one actuator fired, else RELEASE_FAILED
(R52). -/
def concludeRelease (z : ZoneId) (s : State) : State :=
  let x := s.zones.get z
  if x.state = .release && x.outstanding.isEmpty then
    if x.fired then
      handZone z (s.setZone z { x with state := .soak, stageDl := some (s.now + (s.zoneSettings z).soak * 60000) })
    else failRelease z s
  else s

/-- The firing bank returns the result of one actuator to the zone that handed it over (R52). -/
def zoneResult (z : ZoneId) (a : ActId) (fired : Bool) (s : State) : State :=
  let x := s.zones.get z
  concludeRelease z (s.setZone z { x with outstanding := x.outstanding.filter (fun b => b ≠ a), fired := x.fired || fired })

/-! ## Countdowns (R43, R45, R47 to R49, R63 to R76) -/

/-- The effective occupancy of a zone's strongroom (R63). -/
def State.occupancy (s : State) (z : ZoneId) : Nat := (s.rooms.get z).effective

/-- The expiry of a countdown holds the release: AUTOMATIC, occupied hold on, E of 1 or more (R73). -/
def State.expiryHolds (s : State) (z : ZoneId) (kind : CountdownKind) : Bool :=
  kind = .automatic && (s.zoneSettings z).hold && 1 ≤ s.occupancy z

/-- The expiry of a countdown: HELD_OCCUPIED with a hold deadline, or RELEASE (R49, R73). -/
def takeExpiry (z : ZoneId) (s : State) : State :=
  let x := s.zones.get z
  match x.countdown with
  | none => s
  | some c =>
    if s.expiryHolds z c.kind then
      let s := s.setZone z { x with
        state := .heldOccupied, countdown := none, holdDl := some (s.now + (s.zoneSettings z).limit * 1000) }
      handZone z (raise .zoneHeldOccupied (.zone z) none s)
    else enterRelease z s

/-- A zone enters PREDISCHARGE, or goes on in it, with a countdown; at 0 ms the expiry is taken at once (R43,
R45, R48, R72). -/
def runCountdown (z : ZoneId) (c : Countdown) (detail : Named) (s : State) : State :=
  let x := s.zones.get z
  let s := s.setZone z { x with state := .predischarge, countdown := some c }
  let s := raise .zonePredischarge (.zone z) (some (.named detail)) s
  let s := if x.state = .predischarge then s else handZone z s
  if c.remaining = 0 then takeExpiry z s else s

/-- A zone enters HELD with a standing countdown (R43, R47). -/
def holdCountdown (z : ZoneId) (c : Countdown) (s : State) : State :=
  let s := s.setZone z { s.zones.get z with state := .held, countdown := some c, holdDl := none }
  handZone z (raise .zoneHeld (.zone z) none s)

/-- The remaining time of an automatic entry in ms (R65). -/
def ZoneSettings.entryMs (p : ZoneSettings) (e : Nat) : Nat := min (p.tMax * 1000) ((p.base + p.ext * e) * 1000)

/-- Cross-zoning begins an automatic countdown; a station line in ABORT holds it (R43, R65). -/
def automaticEntry (z : ZoneId) (s : State) : State :=
  let e := s.occupancy z
  let c : Countdown := ⟨.automatic, (s.zoneSettings z).entryMs e⟩
  let s := s.setZone z { s.zones.get z with peak := e, override := false }
  if s.ownBand (stationLine z) = .abort then holdCountdown z c s else runCountdown z c .automatic s

/-- A manual release (R45, R66, R67). On a countdown that is MANUAL already the remaining time stands (R67, R205), unless a SET_ZONE
that has completed meanwhile has put the new T_man below it: the rules then differ, and the new T_man is taken (DESIGN CHOICE,
notes/assumptions/30.md). -/
def manualRelease (z : ZoneId) (s : State) : State :=
  let x := s.zones.get z
  let man := (s.zoneSettings z).tMan * 1000
  match x.state with
  | .quiet | .alert => runCountdown z ⟨.manual, man⟩ .manual (s.setZone z { x with peak := 0, override := true })
  | .predischarge | .held =>
    match x.countdown with
    | some c => runCountdown z ⟨.manual, min c.remaining man⟩ .manual (s.setZone z { x with override := true })
    | none => s
  | .heldOccupied => enterRelease z s
  | .isolated => raise .releaseIgnored (.zone z) none s
  | .release | .soak | .vent | .discharged | .releaseFailed => s

/-- An abort (R47, R70). -/
def abort (z : ZoneId) (s : State) : State :=
  let x := s.zones.get z
  match x.state with
  | .predischarge =>
    match x.countdown with
    | some c => if x.override then s else holdCountdown z c s
    | none => s
  | .heldOccupied => holdCountdown z ⟨.automatic, 0⟩ s
  | .quiet | .alert | .held | .release | .soak | .vent | .discharged | .releaseFailed | .isolated => s

/-- The end of a hold: the countdown resumes with the greater of its standing time and T_resume (R48, R70). -/
def resumeCountdown (z : ZoneId) (s : State) : State :=
  let x := s.zones.get z
  match x.state, x.countdown with
  | .held, some c =>
    runCountdown z { c with remaining := max c.remaining ((s.zoneSettings z).tResume * 1000) } .resume s
  | _, _ => s

/-- A zone is handed a change of E (R68, R69, R75); outside PREDISCHARGE, HELD and HELD_OCCUPIED it is not. -/
def reportE (z : ZoneId) (s : State) : State :=
  let x := s.zones.get z
  let e := s.occupancy z
  let p := s.zoneSettings z
  match x.state, x.countdown with
  | .heldOccupied, _ => if e = 0 then enterRelease z s else s
  | .predischarge, some c | .held, some c =>
    if c.kind = .automatic && x.peak < e then
      s.setZone z { x with
        peak := e, countdown := some { c with remaining := min (p.tMax * 1000) (c.remaining + p.ext * 1000 * (e - x.peak)) } }
    else s
  | _, _ => s

/-- New settings of a zone take effect: the remaining time is reduced to the new T_max (R71). -/
def clampCountdown (z : ZoneId) (s : State) : State :=
  let x := s.zones.get z
  s.setZone z { x with
    countdown := x.countdown.map (fun c => { c with remaining := min c.remaining ((s.zoneSettings z).tMax * 1000) }) }

/-! ## Detector latches and the station line (R40 to R44) -/

/-- The detail that names a detector of a zone. -/
def detectorName (isB : Bool) : Named := if isB then .detectorB else .detectorA

/-- Set a latch; DETECTOR_LATCHED where it was clear (R40). -/
def setLatch (z : ZoneId) (isB : Bool) (s : State) : State :=
  let x := s.zones.get z
  if isB then
    if x.latchB then s else raise .detectorLatched (.zone z) (some (.named .detectorB)) (s.setZone z { x with latchB := true })
  else if x.latchA then s
  else raise .detectorLatched (.zone z) (some (.named .detectorA)) (s.setZone z { x with latchA := true })

/-- What newly set latches do to a zone in QUIET or ALERT (R42). -/
def latchMoves (z : ZoneId) (isB : Bool) (s : State) : State :=
  let x := s.zones.get z
  match x.state with
  | .quiet =>
    if x.latchA && x.latchB then automaticEntry z s
    else if x.latchA || x.latchB then
      handZone z (raise .zoneAlert (.zone z) (some (.named (detectorName isB))) (s.setZone z { x with state := .alert }))
    else s
  | .alert => if x.latchA && x.latchB then automaticEntry z s else s
  | .predischarge | .held | .heldOccupied | .release | .soak | .vent | .discharged | .releaseFailed | .isolated => s

/-- A detector has alarmed (R40, R42). -/
def detectorAlarm (z : ZoneId) (isB : Bool) (s : State) : State :=
  let x := s.zones.get z
  if (if isB then x.latchB else x.latchA) then s else latchMoves z isB (setLatch z isB s)

/-- A zone that enters QUIET re-latches each detector confirmed ALARM, and R42 applies (R42, R54, R57). Before READY no band has
reached the zone, and it re-latches nothing until then (R62; DEDUCED, notes/assumptions/25.md). Detector A is latched before detector B
(DESIGN CHOICE, notes/assumptions/32.md). -/
def relatch (z : ZoneId) (s : State) : State :=
  let a := s.ownBand (detectorALine z) = .alarm
  let b := s.ownBand (detectorBLine z) = .alarm
  let s := if a then setLatch z false s else s
  let s := if b then setLatch z true s else s
  latchMoves z (!a) s

/-- The degraded flag (R41). -/
def State.isDegraded (s : State) (z : ZoneId) : Bool :=
  LineClass.faultBand .detector (s.band (detectorALine z)) || LineClass.faultBand .detector (s.band (detectorBLine z))

/-- A band change on a detector line (R40, R41). -/
def detectorChange (z : ZoneId) (isB : Bool) (b : Band) (s : State) : State :=
  let s := s.setZone z { s.zones.get z with degraded := s.isDegraded z }
  if b = .alarm then detectorAlarm z isB s else s

/-- A band change on a station line (R44). -/
def stationChange (z : ZoneId) (b : Band) (s : State) : State :=
  if b = .manual then manualRelease z s
  else if b = .abort then abort z s
  else if b = .normal || LineClass.faultBand .station b then resumeCountdown z s
  else s

/-! ## Soak, vent, reset and isolation (R54 to R57) -/

/-- Soak ends (R55). -/
def enterVent (z : ZoneId) (s : State) : State :=
  handZone z (s.setZone z { s.zones.get z with state := .vent, stageDl := some (s.now + (s.zoneSettings z).vent * 60000) })

/-- Vent ends (R55). -/
def enterDischarged (z : ZoneId) (s : State) : State :=
  handZone z (raise .zoneVentEnd (.zone z) none (s.setZone z { s.zones.get z with state := .discharged, stageDl := none }))

/-- A zone returns to QUIET by a reset or a de-isolation: ZONE_QUIET, the hand-over, and the re-latching (R54,
R57). -/
def enterQuiet (z : ZoneId) (x : Zone) (s : State) : State :=
  let s := raise .zoneQuiet (.zone z) none (s.setZone z { x with state := .quiet, latchA := false, latchB := false })
  relatch z (handZone z s)

/-- ZONE_RESET of a zone in ALERT (R54). -/
def resetAlert (z : ZoneId) (s : State) : State := enterQuiet z (s.zones.get z) s

/-- ZONE_RESET of a zone in DISCHARGED or RELEASE_FAILED (R53, R54). -/
def resetDischarged (z : ZoneId) (s : State) : State :=
  enterQuiet z { s.zones.get z with discharge := false, override := false } (requestMark (.discharge z) false s)

/-- ZONE_ISOLATE of a zone in QUIET or ALERT (R56). -/
def isolate (z : ZoneId) (s : State) : State :=
  let s := s.setZone z { s.zones.get z with state := .isolated, isolate := true }
  handZone z (raise .zoneIsolated (.zone z) none (requestMark (.isolate z) true s))

/-- ZONE_DEISOLATE of an ISOLATED zone (R57). -/
def deisolate (z : ZoneId) (s : State) : State :=
  enterQuiet z { s.zones.get z with isolate := false, override := false } (requestMark (.isolate z) false s)

/-! ## Continuity tests and pulse results (R82, R83, R87, R88) -/

/-- One continuity test (R82, R83). -/
def testActuator (a : ActId) (r : TestResult) (s : State) : State :=
  let x := s.acts.get a
  let s := s.setAct a { x with lastTest := some r, nextTest := some (s.now + Config.testIntervalMs), fault := r ≠ .clean }
  if r = .clean then
    if x.fault then raise .actuatorRestored (.actuator a) none s else s
  else if x.fault && x.lastTest = some r then s
  else raise .actuatorFault (.actuator a) (some (.named (.testResult (some r)))) s

/-- A test of the actuator is due and may be made (R82). -/
def State.testDue (s : State) (a : ActId) : Bool :=
  (s.acts.get a).state = .armed && due s (s.acts.get a).nextTest && !s.testsSuspended

/-- Suspension ends: every ARMED actuator whose test is due is tested (R82). R82 gives no order: ascending number (DESIGN CHOICE,
notes/assumptions/9.md). -/
def resumeTests (coils : Vector TestResult 32) (s : State) : State :=
  if s.testsSuspended then s else forEach (fun a s => if s.testDue a then testActuator a (coils.get a) s else s) s

/-- An actuator concludes: it keeps the concluded state, takes the assignment the store now holds, and its
result goes to the zone that handed it over (R52, R81). -/
def concludeActuator (a : ActId) (st : ActState) (s : State) : State :=
  let x := s.acts.get a
  let s := s.setAct a { x with state := st, zone := s.nv.assignments.get a }
  match x.zone with
  | some z => zoneResult z a (st = .fired) s
  | none => s

/-- A pulse ends with coil current (R87). -/
def pulseFired (a : ActId) (s : State) : State :=
  let x := s.acts.get a
  let s := requestMark (.spent a) true (s.setAct a { x with spent := true })
  concludeActuator a .fired (raise .actuatorFired (.actuator a) (some (.count x.attempts)) s)

/-- A pulse ends without coil current (R88). -/
def pulseMissed (a : ActId) (s : State) : State :=
  let x := s.acts.get a
  if x.attempts < Config.maxAttempts then
    { s.setAct a { x with state := .queued } with bank := { s.bank with queue := s.bank.queue ++ [a] } }
  else concludeActuator a .failed (raise .actuatorFailed (.actuator a) (some (.named (.testResult x.lastTest))) s)

/-- The end of a pulse (R82, R86 to R88): the actuator leaves the set in flight, its attempt is judged, and the
recharge-pause test, the pulse grant and the end of suspension follow. -/
def endPulse (a : ActId) (current : Bool) (coils : Vector TestResult 32) (s : State) : State :=
  let s := { s.setAct a { s.acts.get a with pulseEnd := none } with
    bank := { s.bank with inFlight := s.bank.inFlight.filter (fun b => b ≠ a) } }
  let s := if current then pulseFired a s else pulseMissed a s
  resumeTests coils (grantPulses (pauseTest s))

/-- ACTUATOR_REARM of a FIRED or FAILED actuator (R91). -/
def rearm (a : ActId) (s : State) : State :=
  let x := s.acts.get a
  let armed := x.zone.isSome
  let s := if x.state = .fired then requestMark (.spent a) false s else s
  s.setAct a { x with
    state := if armed then .armed else .unassigned, attempts := 0, fault := false, lastTest := none,
    nextTest := if armed then some s.now else none, spent := if x.state = .fired then false else x.spent }

/-- A new assignment takes effect (R80, R81): a QUEUED or FIRING actuator takes it when it concludes; a FIRED
or FAILED one keeps its state and changes its zone (DEDUCED, notes/assumptions/12.md). -/
def assign (a : ActId) (z : Option ZoneId) (s : State) : State :=
  let x := s.acts.get a
  match x.state with
  | .queued | .firing => s
  | .fired | .failed => s.setAct a { x with zone := z }
  | .unassigned | .armed =>
    if x.zone = z then s
    else
      match z with
      | none => s.setAct a { x with state := .unassigned, zone := none, fault := false, lastTest := none, nextTest := none }
      | some _ => s.setAct a { x with state := .armed, zone := z, fault := false, attempts := 0, nextTest := some s.now }

/-- An assignment of actuator `b` to zone `z` waits in the store or is being written (R80, R81). -/
def Store.assigns (z : ZoneId) (b : ActId) (st : Store) : Bool :=
  st.accepted.any (fun op =>
    match op with
    | .settings (.actuator c p) _ => c = b && p = some z
    | _ => false)

/-- The actuator counts against the four of the zone (R79): its record names the zone, which that of an UNASSIGNED one never does, or
an assignment to it has been accepted that the record has not taken, waiting in the store or stored while the actuator is QUEUED or
FIRING (R80, R81; that these count is DEDUCED, notes/assumptions/26.md). -/
def State.heldFor (s : State) (z : ZoneId) (b : ActId) : Bool :=
  (s.acts.get b).zone = some z || s.nv.assignments.get b = some z || s.store.assigns z b

/-- The zone already holds four assigned actuators other than this one (R79, R80). -/
def State.zoneFull (s : State) (z : ZoneId) (a : ActId) : Bool :=
  Config.actuatorsPerZone ≤ ((every 32).filter (fun b => b ≠ a && s.heldFor z b)).length

end Sys2Proof.Machine
end

