-- ==== Sys2Proof/Machine/Occupancy.lean ====
section
/-! DEFINITION. Occupancy: the lone-worker check (R105 to R109), moving slots between places (R97), the marks
(R103, R104), the passages at the doors (R98 to R102), and the vestibule's part in them (R166, R169, R170,
R173, R174). -/

namespace Sys2Proof.Machine

/-! ## The lone-worker check -/

/-- The lone-worker condition (R106). -/
def State.loneCondition (s : State) (v : RoomId) : Bool :=
  s.clock.mode = .afterHours && (s.rooms.get v).listed.length = 1

/-- RUNNING with a full interval (R105). -/
def startInterval (v : RoomId) (s : State) : State :=
  s.setRoom v { s.rooms.get v with lone := .running (s.now + s.loneIntervalMs v) }

/-- Re-evaluate the lone-worker condition (R106). -/
def evalLone (v : RoomId) (s : State) : State :=
  if s.loneCondition v then
    match (s.rooms.get v).lone with
    | .off => startInterval v s
    | .running _ => s
    | .prompt _ => s
  else s.setRoom v { s.rooms.get v with lone := .off }

/-- A check-in or an interval restart reaches a strongroom (R108). -/
def shortPress (v : RoomId) (s : State) : State :=
  match (s.rooms.get v).lone with
  | .off => s
  | .running _ => startInterval v s
  | .prompt _ => startInterval v s

/-- The badge of the one listed entry, as the lone-worker notices carry it (R107, R109). -/
def Room.firstBadge (r : Room) : Nat :=
  match r.listed with
  | [] => 0
  | e :: _ => e.badge

/-- What follows a change of strongroom records within one event (R96): for each strongroom one report of E
where it changed, and the lone-worker re-evaluation where the listed count changed. -/
def settle (before : Vector Room 12) (s : State) : State :=
  forEach (fun v s =>
    let s := if (before.get v).effective ≠ (s.rooms.get v).effective then reportE v s else s
    if (before.get v).listed.length ≠ (s.rooms.get v).listed.length then evalLone v s else s) s

/-- A change of strongroom records with what follows it (R96). -/
def settled (f : State → State) (s : State) : State := settle s.rooms (f s)

/-- Set a strongroom's evidence mark (R103). -/
def setEvidence (v : RoomId) (s : State) : State :=
  settled (fun s => s.setRoom v { s.rooms.get v with evidence := true }) s

/-- The interval deadline of a strongroom in RUNNING is reached (R107). -/
def startPrompt (v : RoomId) (s : State) : State :=
  let r := s.rooms.get v
  raise .loneWorkerPrompt (.strongroom v) (some (.badge r.firstBadge))
    (s.setRoom v { r with lone := .prompt (s.now + s.loneWindowMs v) })

/-- The window deadline of a strongroom in PROMPT is reached (R109). -/
def takeOverdue (v : RoomId) (s : State) : State :=
  let s := raise .loneWorkerOverdue (.strongroom v) (some (.badge (s.rooms.get v).firstBadge)) s
  startInterval v (setEvidence v s)

/-! ## Moving a slot (R97) -/

/-- A strongroom's record without a slot's entry. -/
def Room.without (slot : SlotId) (r : Room) : Room := { r with listed := r.listed.filter (fun e => e.slot ≠ slot) }

/-- The first step of a move: take the slot out of the place its location names (R97). -/
def takeOut (slot : SlotId) (s : State) : State :=
  match s.location slot with
  | .outside => s
  | .inStrongroom w => s.setRoom w ((s.rooms.get w).without slot)
  | .inVestibule w => vestRemove w slot s

/-- LOCATION_CORRECTED where the location does not name the expected place: the object is the strongroom the
slot was taken from, or the one being entered (R97); for a slot taken from a vestibule it is the vestibule's strongroom (DESIGN
CHOICE, notes/assumptions/28.md). -/
def reportCorrection (found expected : Location) (entering : RoomId) (badge : Nat) (s : State) : State :=
  if found = expected then s
  else
    match found with
    | .outside => raise .locationCorrected (.strongroom entering) (some (.badge badge)) s
    | .inStrongroom w => raise .locationCorrected (.strongroom w) (some (.badge badge)) s
    | .inVestibule w => raise .locationCorrected (.strongroom w) (some (.badge badge)) s

/-- Take a slot out of its place and set its new location; the caller puts it in its list (R97). -/
def moveTo (slot : SlotId) (badge : Nat) (expected target : Location) (entering : RoomId) (s : State) : State :=
  let found := s.location slot
  reportCorrection found expected entering badge ((takeOut slot s).setLocation slot target)

/-- List one holder or occupant in a strongroom, or the overflow case (R98, R99). -/
def listOne (v : RoomId) (slot : SlotId) (badge : Nat) (expected : Location) (via : Bool) (s : State) : State :=
  let found := s.location slot
  let s := reportCorrection found expected v badge (takeOut slot s)
  let r := s.rooms.get v
  if r.listed.length < Config.maxListed then
    let s := s.setRoom v { r with listed := r.listed ++ [⟨slot, badge, s.clockTime, via⟩] }
    raise .entry (.strongroom v) (some (.badge badge)) (s.setLocation slot (.inStrongroom v))
  else
    let s := s.setRoom v { r with unknown := true }
    raise .strongroomOverflow (.strongroom v) (some (.badge badge)) (s.setLocation slot .outside)

/-! ## Passages at a STRONGROOM door (R98 to R101) -/

/-- An ENTRY passage at a single door lists the grant's holders (R98). -/
def entrySingle (v : RoomId) (holders : List Holder) (s : State) : State :=
  holders.foldl (fun s h => listOne v h.slot h.badge .outside false s) s

/-- The transfer: every occupant is listed in arrival order and the vestibule is emptied (R99, R169). -/
def transfer (v : RoomId) (s : State) : State :=
  let gone := (s.vests.get v).occupants
  gone.foldl (fun s o => listOne v o.slot o.badge (.inVestibule v) true s) (s.setVest v Vestibule.empty)

/-- An EXIT passage takes one presenter out of the strongroom, to OUTSIDE or into the vestibule (R100, R170). -/
def exitOne (v : RoomId) (h : Holder) (s : State) : State :=
  let expected := if s.location h.slot = .outside then .outside else .inStrongroom v
  let s :=
    if s.hasVestibule v then vestAppend v h.slot h.badge .outbound (moveTo h.slot h.badge expected (.inVestibule v) v s)
    else moveTo h.slot h.badge expected .outside v s
  raise .exit (.strongroom v) (some (.badge h.badge)) s

/-- An entry joins the assumed-out ring as the newest; beyond eight the oldest is discarded (R94). -/
def joinRing (x : AssumedOut) (ring : List AssumedOut) : List AssumedOut :=
  if ring.length < Config.maxAssumedOut then ring ++ [x] else ring.drop 1 ++ [x]

/-- An EGRESS passage removes the oldest listed entry into the assumed-out record (R101). -/
def egressStrongroom (v : RoomId) (s : State) : State :=
  let r := s.rooms.get v
  match r.listed with
  | [] => s
  | e :: rest =>
    let out : AssumedOut := ⟨e.slot, e.badge, e.time, s.clockTime⟩
    let s := s.setRoom v { r with listed := rest, assumedOut := joinRing out r.assumedOut }
    raise .assumedOut (.strongroom v) (some (.badge e.badge)) (s.setLocation e.slot .outside)

/-! ## Passages at a VESTIBULE_OUTER door (R102, R166, R173, R174) -/

/-- The inbound passage (R166). -/
def inboundOne (v : RoomId) (h : Holder) (s : State) : State :=
  let s := vestAppend v h.slot h.badge .inbound (moveTo h.slot h.badge .outside (.inVestibule v) v s)
  raise .vestibuleIn (.strongroom v) (some (.badge h.badge)) s

/-- The outbound passage: the chamber is taken as emptied, and a holder that was no occupant is also set
OUTSIDE (R173). -/
def outbound (v : RoomId) (holders : List Holder) (s : State) : State :=
  let s := emptyVestibule v .vestibuleOut s
  holders.foldl (fun s h => moveTo h.slot h.badge .outside .outside v s) s

/-- An EGRESS passage at the outer door removes the oldest occupant (R174). -/
def egressOuter (v : RoomId) (s : State) : State :=
  match (s.vests.get v).occupants with
  | [] => s
  | o :: _ =>
    let s := vestRemove v o.slot (s.setLocation o.slot .outside)
    raise .vestibuleEgress (.strongroom v) (some (.badge o.badge)) s

/-! ## The reports of the door channel unit (6.2) -/

/-- What a grant's passage does to the strongroom and vestibule records, by the door's role (R98 to R100, R166,
R169, R170, R173). -/
def movePassage (d : DoorId) (g : Grant) (s : State) : State :=
  match s.role d, g.purpose with
  | .strongroom v, .entry => if s.hasVestibule v then transfer v s else entrySingle v g.holders s
  | .strongroom v, .exit => g.holders.foldl (fun s h => exitOne v h s) s
  | .vestibuleOuter v, .entry => g.holders.foldl (fun s h => inboundOne v h s) s
  | .vestibuleOuter v, .exit => outbound v g.holders s
  | .perimeter, _ => s
  | .unused, _ => s

/-- A passage under a grant: the grant record ends, and the passage is taken (R134). -/
def passage (d : DoorId) (s : State) : State :=
  match s.grants.get d with
  | some g => settled (movePassage d g) (s.setGrant d none)
  | none => s

/-- An EGRESS passage at a door (R101, R174). -/
def egressPassage (d : DoorId) (s : State) : State :=
  match s.role d with
  | .strongroom v => settled (egressStrongroom v) s
  | .vestibuleOuter v => egressOuter v s
  | .perimeter => s
  | .unused => s

/-! ## OCCUPANT_CLEAR and VESTIBULE_FLUSH (R104, R176) -/

/-- The slot is in a strongroom's listed list. -/
def Room.lists (slot : SlotId) (r : Room) : Bool := r.listed.any (fun e => e.slot = slot)

/-- The badge of a slot's entry. -/
def Room.badgeOf (slot : SlotId) (r : Room) : Nat :=
  match r.listed.find? (fun e => e.slot = slot) with
  | some e => e.badge
  | none => 0

/-- OCCUPANT_CLEAR of a listed slot (R104). -/
def clearSlot (v : RoomId) (slot : SlotId) (s : State) : State :=
  settled (fun s =>
    let r := s.rooms.get v
    raise .occupantCleared (.strongroom v) (some (.badge (r.badgeOf slot)))
      ((s.setRoom v (r.without slot)).setLocation slot .outside)) s

/-- OCCUPANT_CLEAR of the evidence mark (R104). -/
def clearEvidence (v : RoomId) (s : State) : State :=
  if (s.rooms.get v).evidence then
    settled (fun s =>
      raise .occupantCleared (.strongroom v) (some (.named .evidence)) (s.setRoom v { s.rooms.get v with evidence := false })) s
  else s

/-- OCCUPANT_CLEAR of the unknown mark (R104). -/
def clearUnknown (v : RoomId) (s : State) : State :=
  if (s.rooms.get v).unknown then
    settled (fun s =>
      raise .occupantCleared (.strongroom v) (some (.named .unknown)) (s.setRoom v { s.rooms.get v with unknown := false })) s
  else s

/-- A VESTIBULE_FLUSH is refused: no vestibule, or a door of it holds a grant past its waiting stages (R176). -/
def State.flushRefused (s : State) (v : RoomId) : Bool :=
  match s.outerDoor v with
  | none => true
  | some o =>
    s.grantMoving o || (match s.strongroomDoor v with
      | some i => s.grantMoving i
      | none => false)

end Sys2Proof.Machine
end

