-- ==== Sys2Proof/Machine/Doors.lean ====
section
/-! DEFINITION. Doors: what a door does at each band change of its line, at trips, timeouts and deadlines, and
at the door requests (R140 to R159). -/

namespace Sys2Proof.Machine

/-- Replace a door record by a function of it. -/
def modDoor (d : DoorId) (f : Door → Door) (s : State) : State := s.setDoor d (f (s.doors.get d))

/-- The alarm-standing flag is set (R151). -/
def setAlarm (d : DoorId) (s : State) : State := modDoor d (fun x => { x with alarm := true }) s

/-- Stop a motion without reaching its target: the bolt command and the trip count are kept (R142). -/
def stopMotion (d : DoorId) (s : State) : State := modDoor d (fun x => { x with motion := .idle }) s

/-- The passage of a released grant: the door enters OPEN and the report is made (R147). -/
def openPassage (d : DoorId) (s : State) : State := passage d (enterOpen d s)

/-- A door that a withdraw has just made RELEASED makes its passage where the line shows OPEN (R145). -/
def passIfOpen (d : DoorId) (s : State) : State :=
  if (s.doors.get d).state = .released && s.doorBand d = .opened then openPassage d s else s

/-- The line confirms the end of a withdraw: RELEASED, and the passage where it shows OPEN (R145). -/
def completeRelease (d : DoorId) (s : State) : State := passIfOpen d (enterReleased d (stopAtTarget d .withdrawn s))

/-- A grant is released to its door: stage RELEASING, and the door begins its withdraw (R128, R134, R145). -/
def releaseDoor (d : DoorId) (g : Grant) (s : State) : State :=
  passIfOpen d (startRelease d (s.setGrant d (some { g with stage := .releasing, deadline := none, recheck := none })))

/-! ## Openings without a grant (R152, R153) -/

/-- An egress passage's notice and report (R152). -/
def takeEgress (d : DoorId) (s : State) : State :=
  egressPassage d (raiseDoor .doorEgress d none (modDoor d (fun x => { x with egress := false }) s))

/-- DOOR_FORCED with the state before the opening (R152). -/
def takeForced (d : DoorId) (before : DoorState) (s : State) : State :=
  setAlarm d (raiseDoor .doorForced d (some (.named (.doorState before))) s)

/-- An opening in SECURE, RELOCKING or INSECURE (R152). -/
def openUngranted (d : DoorId) (s : State) : State :=
  let x := s.doors.get d
  let s := enterOpen d s
  if x.egress then takeEgress d s else takeForced d x.state s

/-- An opening in DRIVER_LATCHED or MANUAL (R153). -/
def openOverlay (d : DoorId) (s : State) : State :=
  let x := s.doors.get d
  if x.egress then takeEgress d s
  else if x.state = .driverLatched then takeForced d .driverLatched s
  else raiseDoor .doorOpened d none s

/-! ## Band changes by state -/

/-- A throw is complete, or the bolt is found thrown: SECURE; a motion under way returns the trip count to 0
(R142, R150). -/
def throwDone (d : DoorId) (s : State) : State :=
  if (s.doors.get d).motion = .idle then enterSecure d false s else enterSecure d false (stopAtTarget d .thrown s)

/-- A band change in SECURE (R152). -/
def bandSecure (d : DoorId) (b : Band) (s : State) : State :=
  match b with
  | .egress => modDoor d (fun x => { x with egress := true }) s
  | .bolted => modDoor d (fun x => { x with egress := false }) s
  | .unbolted =>
    if (s.doors.get d).egress then throwInto .relocking d s
    else throwInto .insecure d (setAlarm d (raiseDoor .doorInsecure d none s))
  | .opened => openUngranted d s
  | _ => s

/-- A band change in RELEASING (R145). -/
def bandReleasing (d : DoorId) (b : Band) (s : State) : State :=
  if Bolt.reachedAt .withdrawn b then completeRelease d s else s

/-- The bolt has returned in RELEASED (R146). -/
def boltReturned (d : DoorId) (s : State) : State :=
  let s := setAlarm d (raiseDoor .doorFault d (some (.named .boltReturned)) s)
  enterSecure d false (failGrant d s)

/-- A band change in RELEASED (R146). -/
def bandReleased (d : DoorId) (b : Band) (s : State) : State :=
  match b with
  | .opened => openPassage d s
  | .bolted => boltReturned d s
  | _ => s

/-- A band change in OPEN (R149). -/
def bandOpen (d : DoorId) (b : Band) (s : State) : State :=
  match b with
  | .unbolted => throwInto .relocking d s
  | .bolted => enterSecure d false s
  | _ => s

/-- A band change in RELOCKING or INSECURE (R150). -/
def bandThrowing (d : DoorId) (b : Band) (s : State) : State :=
  match b with
  | .bolted => throwDone d s
  | .unbolted => if (s.doors.get d).motion = .idle then beginThrow d s else s
  | .egress => modDoor d (fun x => { x with egress := true }) (stopMotion d s)
  | .opened => openUngranted d (stopMotion d s)
  | _ => s

/-- A motion of a door in MANUAL completes (R142). -/
def manualDone (d : DoorId) (b : Band) (s : State) : State :=
  let x := s.doors.get d
  let target : Option Bolt :=
    match x.motion with
    | .idle => none
    | .moving t _ => some t
    | .cooling t _ => some t
  match target with
  | some t =>
    if x.state = .manual && t.reachedAt b then raiseDoor .doorDriveDone d (some (.named (.bolt t))) (stopAtTarget d t s) else s
  | none => s

/-- A band change in DRIVER_LATCHED or MANUAL (R142, R153). Where OPEN completes a manual withdraw, DOOR_DRIVE_DONE is raised before
DOOR_OPENED or DOOR_EGRESS, which R142 and R153 do not order (DESIGN CHOICE, notes/assumptions/32.md). -/
def bandOverlay (d : DoorId) (b : Band) (s : State) : State :=
  let s := manualDone d b s
  let wasOpen := (s.doors.get d).position = some .opened
  match b with
  | .egress => if wasOpen then s else modDoor d (fun x => { x with egress := true }) s
  | .bolted => modDoor d (fun x => { x with egress := false }) s
  | .opened => if wasOpen then s else openOverlay d s
  | _ => s

/-- The line confirms a fault band (R154). -/
def lineFaulted (d : DoorId) (s : State) : State :=
  enterOverlay .lineFault d (modDoor d (fun x => { x with egress := false }) s)

/-- A band change of an UNUSED door: the fields alone (R138). -/
def bandUnused (d : DoorId) (b : Band) (s : State) : State :=
  match b with
  | .egress => modDoor d (fun x => { x with egress := true }) s
  | .unbolted => s
  | _ => modDoor d (fun x => { x with egress := false }) s

/-- What a band change does to a door: a fault band and the return from one or from UNKNOWN act in every state, any other change
by the door's state (R140, R141, R145, R146, R149, R150, R152 to R154). A door whose line hid it has stood in LINE_FAULT, whose
entry has failed a moving grant already (R140); `failGrant` holds to that in every state. -/
def bandActs (d : DoorId) (b previous : Band) (s : State) : State :=
  if s.role d = .unused then bandUnused d b s
  else if LineClass.faultBand .door b then lineFaulted d s
  else if hidesDoor previous then rederive d (failGrant d s)
  else
    match (s.doors.get d).state with
    | .lineFault => rederive d s
    | .secure => bandSecure d b s
    | .releasing => bandReleasing d b s
    | .released => bandReleased d b s
    | .opened => bandOpen d b s
    | .relocking | .insecure => bandThrowing d b s
    | .driverLatched | .manual => bandOverlay d b s

/-- A door takes a band change of its line; the position field follows the band (R138). -/
def doorChange (d : DoorId) (b previous : Band) (s : State) : State :=
  modDoor d (fun x => { x with position := Position.after x.position b }) (bandActs d b previous s)

/-! ## Trips, cool-downs and timeouts (R143, R144) -/

/-- The fifth trip latches the drive off (R143). -/
def latchDrive (d : DoorId) (target : Bolt) (s : State) : State :=
  let s := modDoor d (fun x => { x with latch := true, alarm := true, motion := .idle }) s
  enterOverlay .driverLatched d (raiseDoor .driverLatched d (some (.named (.bolt target))) s)

/-- An overcurrent trip; it is discarded unless a motion is MOVING (R143). -/
def takeTrip (d : DoorId) (s : State) : State :=
  let x := s.doors.get d
  match x.motion with
  | .moving t _ =>
    let s := s.setDoor d { x with trips := x.trips + 1, motion := .cooling t (s.now + Config.coolDownMs) }
    if x.trips + 1 < Config.tripLimit then s else latchDrive d t s
  | _ => s

/-- A motion begins again at the end of its cool-down (R142, R143). -/
def retryMotion (d : DoorId) (target : Bolt) (s : State) : State :=
  match (s.doors.get d).state, target with
  | .manual, _ => manualMotion d target s
  | _, .thrown => beginThrow d s
  | _, .withdrawn => passIfOpen d (beginWithdraw d s)

/-- The motion timeout (R144). -/
def takeTimeout (d : DoorId) (target : Bolt) (s : State) : State :=
  let st := (s.doors.get d).state
  let detail : Named := if target = .withdrawn then .withdrawTimeout else .throwTimeout
  let s := setAlarm d (raiseDoor .doorFault d (some (.named detail)) (stopMotion d s))
  match st, target with
  | .manual, _ => s
  | _, .withdrawn => throwInto .relocking d (failGrant d s)
  | _, .thrown => modDoor d (fun x => { x with state := .insecure }) s

/-- The release deadline passes unopened (R146). -/
def expireRelease (d : DoorId) (s : State) : State :=
  let s :=
    match s.grants.get d with
    | some g => raiseDoor .grantExpired d (some (.badge g.firstBadge)) (s.setGrant d none)
    | none => s
  throwInto .relocking d s

/-- The held-open deadline (R149). -/
def takeHeldOpen (d : DoorId) (s : State) : State :=
  setAlarm d (raiseDoor .doorHeldOpen d none (modDoor d (fun x => { x with heldOpenDl := none }) s))

/-! ## Door requests (R155 to R158) -/

/-- DOOR_MODE MANUAL takes effect: an automatic state passes into MANUAL, a fault or a latch stands over it
(R140, R155). -/
def setManual (d : DoorId) (s : State) : State :=
  let s := modDoor d (fun x => { x with mode := .manual }) s
  if (s.doors.get d).state.overlay then s else enterOverlay .manual d s

/-- DOOR_MODE AUTOMATIC takes effect (R155). -/
def setAutomatic (d : DoorId) (s : State) : State := rederive d (modDoor d (fun x => { x with mode := .automatic }) s)

/-- A manual withdraw is refused for its zone (R156). -/
def State.driveHazard (s : State) (d : DoorId) : Bool :=
  match (s.role d).room with
  | some z => (s.zones.get z).state.refusesAll
  | none => false

/-- The other door of the vestibule a door belongs to (R156, R164). -/
def State.otherDoor (s : State) (d : DoorId) : Option DoorId :=
  match s.role d with
  | .strongroom v => s.outerDoor v
  | .vestibuleOuter v => s.strongroomDoor v
  | .perimeter => none
  | .unused => none

/-- A manual withdraw is refused for the interlock (R156, R164). A VESTIBULE_OUTER door whose strongroom has lost its STRONGROOM
door has no other door to test, and passes (DESIGN CHOICE, notes/assumptions/29.md). -/
def State.driveInterlock (s : State) (d : DoorId) : Bool :=
  match s.otherDoor d with
  | some e => !s.doorShut e
  | none => false

/-- DOOR_SERVICE takes effect (R157). -/
def serviceDoor (d : DoorId) (s : State) : State := rederive d (modDoor d (fun x => { x with latch := false, trips := 0 }) s)

/-- The vestibule record when an outer door is configured or removed (R162): empty. A slot left in it by a
passage during the write is set OUTSIDE, and its removal is not handed to the access decision unit (R163 names no such removal;
DESIGN CHOICE, notes/assumptions/15.md). -/
def resetVestibule (r : Role) (s : State) : State :=
  match r with
  | .vestibuleOuter v =>
    let gone := (s.vests.get v).occupants
    gone.foldl (fun s o => s.setLocation o.slot .outside) (s.setVest v Vestibule.empty)
  | _ => s

/-- The door takes the fixed values of an UNUSED door (R138, R158). -/
def makeUnused (d : DoorId) (s : State) : State :=
  modDoor d (fun x => { x with
    state := .secure, mode := .automatic, bolt := .thrown, motion := .idle, releaseDl := none, heldOpenDl := none }) s

/-- A SET_DOOR takes effect (R158): with a changed role or strongroom its grant is cancelled first, then the
door takes its new role. A grant made before the write begins, while the accepted SET_DOOR waits, is cancelled too (DESIGN CHOICE,
notes/assumptions/34.md). -/
def applyDoor (d : DoorId) (p : DoorSettings) (s : State) : State :=
  let old := s.role d
  if old = p.role then { s with nv := s.nv.writeSettings (.door d p) }
  else
    let s := resetVestibule old (cancelGrant d .doorUnavailable s)
    let s := resetVestibule p.role { s with nv := s.nv.writeSettings (.door d p) }
    if p.role = .unused then makeUnused d s else rederive d s

/-- The interlock case of a SET_DOOR: the door becomes a VESTIBULE_OUTER door with its bolt withdrawn while the
STRONGROOM door is not shut (R158). -/
def State.outerUnsafe (s : State) (d : DoorId) (r : Role) : Bool :=
  match r with
  | .vestibuleOuter v =>
    s.role d ≠ r && (s.doors.get d).bolt = .withdrawn && (match s.strongroomDoor v with
      | some i => !s.doorShut i
      | none => true)
  | _ => false

/-- The vestibule of a role's strongroom has occupants. -/
def State.occupiedOuter (s : State) (r : Role) : Bool :=
  match r with
  | .vestibuleOuter v => !(s.vests.get v).occupants.isEmpty
  | _ => false

/-- SET_DOOR is refused with BAD_STATE (R158). -/
def State.doorSettingsBlocked (s : State) (d : DoorId) (p : DoorSettings) : Bool :=
  let x := s.doors.get d
  (x.state ≠ .secure && x.state ≠ .manual) || (s.grants.get d).isSome ||
  (s.role d ≠ p.role && (s.occupiedOuter (s.role d) || s.occupiedOuter p.role)) || s.outerUnsafe d p.role

end Sys2Proof.Machine
end

