-- ==== Sys2Proof/Machine/Loops.lean ====
section
/-! DEFINITION. Loops: the entry freeze (R121, R135), the press states of a staff loop, and the meaning of a
press (R22 to R36). -/

namespace Sys2Proof.Machine

/-! ## The entry freeze -/

/-- A grant that the freeze cancels: an entry grant in a stage before RELEASED (R135). -/
def Grant.freezes (g : Grant) : Bool := g.purpose = .entry && g.stage ≠ .released

/-- The freeze overlay passes to set: entry grants before RELEASED are cancelled with FROZEN (R121, R135). -/
def setFreeze (s : State) : State :=
  if s.freeze then s
  else
    forEach (fun d s =>
      match s.grants.get d with
      | some g => if g.freezes then cancelGrant d .frozen s else s
      | none => s) { s with freeze := true }

/-- A duress sets the overlay; ENTRY_FREEZE where it was clear (R35). -/
def entryFreeze (k : LoopId) (st : StationNo) (s : State) : State :=
  if s.freeze then s else raise .entryFreeze (.loop k) (some (.station st)) (setFreeze s)

/-! ## Presses -/

/-- What a confirmed STAFF band means to a loop (R22). -/
inductive LoopSignal where
  | rest
  | pressed (st : StationNo)
  | faulted
  | nothing
  deriving DecidableEq, Repr

/-- The decoding of a band; UNCLASSIFIED is station 0 (R22). -/
def loopSignal : Band → LoopSignal
  | .normal => .rest
  | .station k => .pressed ⟨k.val + 1, by omega⟩
  | .unclassified => .pressed 0
  | .short => .faulted
  | .opened => .faulted
  | _ => .nothing

/-- The station a loop reports, 0 where it holds none. -/
def Loop.heldStation (x : Loop) : StationNo := x.station.getD 0

/-- A press is under way. -/
def LoopState.inPress : LoopState → Bool
  | .pressed | .duress | .unresolved | .unresolvedDuress => true
  | .idle | .stuck | .fault => false

/-- The press has not reached its duress deadline. -/
def LoopState.beforeDuress : LoopState → Bool
  | .pressed | .unresolved => true
  | _ => false

/-- A notice of a loop with its station. -/
def raiseLoop (k : NoticeKind) (l : LoopId) (st : StationNo) (s : State) : State := raise k (.loop l) (some (.station st)) s

/-- The evidence rule: a call, check-in or duress from a strongroom that lists nobody (R34). -/
def stationEvidence (place : Option RoomId) (s : State) : State :=
  match place with
  | some v => if (s.rooms.get v).listed.isEmpty then setEvidence v s else s
  | none => s

/-- A short press found in PROMPT is a check-in (R33). -/
def State.pressIsCheckIn (s : State) (place : Option RoomId) : Bool :=
  match place with
  | some v => (s.rooms.get v).buzzer
  | none => false

/-- The lone-worker timer is handed a short press (R33, R108). -/
def pressTimer (place : Option RoomId) (s : State) : State :=
  match place with
  | some v => shortPress v s
  | none => s

/-- The meaning of a short press (R33, R34); at station 0 it is a STATION_CALL alone (R27). -/
def shortMeaning (k : LoopId) (st : StationNo) (s : State) : State :=
  let place := (s.loopSettings k).place st
  let kind : NoticeKind := if s.pressIsCheckIn place then .checkIn else .stationCall
  stationEvidence place (pressTimer place (raiseLoop kind k st s))

/-- The end of a press at a confirmation time (R27, R28). -/
def endPress (k : LoopId) (t : Nat) (s : State) : State :=
  let x := s.loops.get k
  let st := x.heldStation
  match x.state with
  | .pressed | .unresolved =>
    if t - x.pressAt.getD t < (s.loopSettings k).tErr then raiseLoop .stationBounce k st s else shortMeaning k st s
  | .duress | .unresolvedDuress => raiseLoop .duressRelease k st s
  | .idle | .stuck | .fault => s

/-- The beginning of a press: station 0 is UNRESOLVED (R24, R29, R30). -/
def beginPress (k : LoopId) (st : StationNo) (t : Nat) (s : State) : State :=
  let p := s.loopSettings k
  s.setLoop k
    { state := if st = 0 then .unresolved else .pressed, station := some st, pressAt := some t,
      duressDl := some (t + p.tDuress), stuckDl := some (t + p.stuckMs) }

/-- A loop returns to IDLE, with no press-confirmation time (R26 to R28, R31). R26 says so for STUCK; for a release the rules
clear only the deadlines (DESIGN CHOICE, notes/assumptions/24.md). -/
def idleLoop (k : LoopId) (s : State) : State := s.setLoop k Loop.start

/-- A loop enters FAULT with station none and its deadlines cleared (R31), and with no press-confirmation time (DESIGN CHOICE,
notes/assumptions/24.md). -/
def faultLoop (k : LoopId) (s : State) : State := s.setLoop k { Loop.start with state := .fault }

/-- The duress deadline (R25, R34, R35). -/
def takeDuress (k : LoopId) (s : State) : State :=
  let x := s.loops.get k
  let st := x.heldStation
  if x.state.beforeDuress then
    let s := s.setLoop k { x with state := if x.state = .pressed then .duress else .unresolvedDuress, duressDl := none }
    let s := stationEvidence ((s.loopSettings k).place st) (raiseLoop .duress k st s)
    if (s.loopSettings k).freeze then entryFreeze k st s else s
  else s

/-- The stuck deadline (R26). -/
def takeStuck (k : LoopId) (s : State) : State :=
  let x := s.loops.get k
  if x.state.inPress then
    raiseLoop .stationStuck k x.heldStation (s.setLoop k { x with state := .stuck, duressDl := none, stuckDl := none })
  else s

/-- A deadline lies at or before a time. -/
def dueBy (t : Nat) (deadline : Option Nat) : Bool :=
  match deadline with
  | some x => x ≤ t
  | none => false

/-- Take a deadline that lies at or before a time, as of its own time (R32). -/
def takeBy (t : Nat) (deadline : Option Nat) (f : State → State) (s : State) : State :=
  match deadline with
  | some dl => if dl ≤ t then asOf dl f s else s
  | none => s

/-- The deadlines at or before a band change's confirmation time are taken first, each as of its own time (R32). -/
def deadlinesFirst (k : LoopId) (t : Nat) (s : State) : State :=
  let s := takeBy t (s.loops.get k).duressDl (takeDuress k) s
  takeBy t (s.loops.get k).stuckDl (takeStuck k) s

/-- A loop takes a band change in the state it has reached (R24, R26 to R31). -/
def loopTakes (k : LoopId) (sig : LoopSignal) (t : Nat) (s : State) : State :=
  let x := s.loops.get k
  match x.state, sig with
  | .idle, .pressed st => beginPress k st t s
  | .idle, .faulted => faultLoop k s
  | .idle, _ => s
  | .stuck, .rest => raiseLoop .stationRecovered k x.heldStation (idleLoop k s)
  | .stuck, _ => s
  | .fault, .rest => idleLoop k s
  | .fault, _ => s
  | _, .rest => endPress k t s |> idleLoop k
  | _, .faulted => faultLoop k s
  | _, .pressed st => if x.station = some st then s else beginPress k st t (endPress k t s)
  | _, .nothing => s

/-- A band change on a loop's line with its confirmation time (R24 to R32). -/
def loopChange (k : LoopId) (b : Band) (t : Nat) (s : State) : State := loopTakes k (loopSignal b) t (deadlinesFirst k t s)

/-- A recomputed deadline lies in the past (R36). -/
def past (now : Nat) (deadline : Option Nat) : Bool :=
  match deadline with
  | some t => t < now
  | none => false

/-- A SET_LOOP takes effect: the deadlines of a press under way are recomputed, and those that lie in the past
are taken at once (R36). R36 speaks of a press that begins while the write is in progress; one that begins before, while the accepted
SET_LOOP still waits in the store, is treated alike (DESIGN CHOICE, notes/assumptions/34.md). -/
def applyLoop (k : LoopId) (p : LoopSettings) (s : State) : State :=
  let s := { s with nv := s.nv.writeSettings (.loop k p) }
  let x := s.loops.get k
  if x.state.inPress then
    let t := x.pressAt.getD 0
    let s := s.setLoop k { x with
      duressDl := if x.state.beforeDuress then some (t + p.tDuress) else none, stuckDl := some (t + p.stuckMs) }
    let s := if past s.now (s.loops.get k).duressDl then takeDuress k s else s
    if past s.now (s.loops.get k).stuckDl then takeStuck k s else s
  else s

end Sys2Proof.Machine
end

