-- ==== Sys2Proof/Machine/Supervisor.lean ====
section
/-! DEFINITION. Supervisor: conversion codes (R3, R4), classification and confirmation of a line (R8 to R11),
the converter arbiter (R13 to R15), and READY (R18, R19). -/

namespace Sys2Proof.Machine

/-! ## Codes (R3, R4) -/

/-- The converter code of a line of a resistance; `none` is an open circuit (R3). -/
def codeOf (ohms : Option Nat) : Nat :=
  match ohms with
  | none => Config.maxCode
  | some r => min Config.maxCode ((2 * Config.maxCode * r + (r + Config.seriesOhms)) / (2 * (r + Config.seriesOhms)))

/-- The resistance estimate reported for a code (R4). -/
def estimateOf (c : Nat) : Nat :=
  if Config.maxCode ≤ c then Config.maxEstimate
  else min Config.maxEstimate ((2 * Config.seriesOhms * c + (Config.maxCode - c)) / (2 * (Config.maxCode - c)))

/-! ## Classification (R8 to R10) -/

/-- The code lies in the band's range widened by `h` codes on each side (R8). -/
def BandRange.within (h code : Nat) (b : BandRange) : Bool := b.low - h ≤ code && code ≤ b.high + h

/-- The current table holds a band of this name, and the name is a band name (R8). -/
def ClassParams.hasBand (p : ClassParams) (b : Band) : Bool := p.bands.any (fun r => r.band = b)

/-- The stay test (R8): the code lies inside a widened range of the confirmed band. -/
def ClassParams.stays (p : ClassParams) (confirmed : Band) (code : Nat) : Bool :=
  p.bands.any (fun r => r.band = confirmed && r.within p.hysteresis code)

/-- Classification by the plain ranges (R9). -/
def ClassParams.classify (p : ClassParams) (code : Nat) : Band :=
  match p.bands.find? (fun r => r.within 0 code) with
  | some r => r.band
  | none => .unclassified

/-- What a conversion makes of a line record before confirmation: the stay test, else the candidate (R8, R9). -/
def LineRecord.judge (p : ClassParams) (code : Nat) (x : LineRecord) : LineRecord :=
  if p.stays x.confirmed code then { x with candidate := none, count := 0 }
  else
    let b := p.classify code
    if b = x.confirmed then { x with candidate := none, count := 0 }
    else if x.candidate = some b then { x with count := x.count + 1 }
    else { x with candidate := some b, count := 1 }

/-- The band a conversion confirms, if the candidate's count has reached N (R10). -/
def LineRecord.reached (p : ClassParams) (x : LineRecord) : Option Band :=
  match x.candidate with
  | some b => if p.confirm ≤ x.count then some b else none
  | none => none

/-- A line record after a conversion (R3, R8 to R10). -/
def LineRecord.convert (p : ClassParams) (code stamp : Nat) (x : LineRecord) : LineRecord :=
  let y := { x with lastCode := some code, lastTime := some stamp }.judge p code
  match y.reached p with
  | some b => { y with confirmed := b, candidate := none, count := 0 }
  | none => y

/-! ## Fast-follow (R15) -/

/-- The fast-follow due time of a loop after a conversion of its line: `before` and `after` are the line's
records, `cur` its present due time (R15). -/
def followAfter (p : ClassParams) (before after : LineRecord) (code stamp : Nat) (cur : Option Nat) : Option Nat :=
  let confirmedNow := before.confirmed ≠ after.confirmed
  let leaves :=
    (confirmedNow && (after.confirmed = .normal || after.confirmed = .short || after.confirmed = .opened)) ||
    (before.confirmed = .normal && p.stays .normal code)
  let enters := before.confirmed = .normal && p.hasBand .normal && !p.stays .normal code
  if leaves then none else if cur.isSome || enters then some (stamp + Config.fastFollowMs) else none

/-- A loop's line is in the fast-follow set. -/
def Supervisor.following (x : Supervisor) (l : LineId) : Bool :=
  match loopOfLine l with
  | some k => (x.fastFollow.get k).isSome
  | none => false

/-! ## The arbiter (R13, R14) -/

/-- The better of two due loops: the earlier due time, ties to the lower number (R13). -/
def earlierDue (now : Nat) (x : Supervisor) (best : Option LoopId) (k : LoopId) : Option LoopId :=
  match x.fastFollow.get k with
  | none => best
  | some t =>
    if now < t then best
    else
      match best with
      | none => some k
      | some j =>
        match x.fastFollow.get j with
        | some u => if t < u then some k else best
        | none => some k

/-- The due fast-follow loop the arbiter takes (R13). -/
def Supervisor.dueLoop (now : Nat) (x : Supervisor) : Option LoopId := (every 8).foldl (earlierDue now x) none

/-- The line after a line in scan order (R14). -/
def nextLine (l : LineId) : LineId := ⟨(l.val + 1) % 64, Nat.mod_lt _ (by decide)⟩

/-- The pointer moved past lines in fast-follow; at most the eight staff lines are skipped (R14). -/
def skipFollowed (x : Supervisor) : Nat → LineId → LineId
  | 0, l => l
  | n + 1, l => if x.following l then skipFollowed x n (nextLine l) else l

/-- The next slot is granted (R13, R14). -/
def Supervisor.grant (now : Nat) (x : Supervisor) : Supervisor :=
  match x.dueLoop now with
  | some k => { x with converting := ⟨loopLine k, .fastFollow⟩ }
  | none =>
    match x.pending with
    | some m => { x with converting := ⟨m.line, .measurement m.owed⟩, pending := none }
    | none =>
      let l := skipFollowed x 8 x.pointer
      { x with converting := ⟨l, .scan⟩, pointer := l }

/-- The pointer after a conversion (R14). -/
def Supervisor.advance (x : Supervisor) : Supervisor :=
  match x.converting.grantor with
  | .scan => { x with pointer := nextLine x.pointer }
  | .fastFollow => x
  | .measurement _ => x

/-- The conversion that has just ended completes a full scan: the pointer moves from 63 to 0 (R14). -/
def Supervisor.endsScan (x : Supervisor) : Bool :=
  match x.converting.grantor with
  | .scan => x.pointer.val = 63
  | .fastFollow => false
  | .measurement _ => false

/-! ## Band changes (R10, R11, R19) -/

/-- The line belongs to an UNUSED door (R1, R11). -/
def State.lineUnused (s : State) (l : LineId) : Bool :=
  match lineOwner l with
  | .door d => s.role d = .unused
  | _ => false

/-- A band change is handed to the owner of the line (R1, R10). -/
def handOwner (l : LineId) (b previous : Band) (time : Nat) (s : State) : State :=
  match lineOwner l with
  | .detector z isB => detectorChange z isB b s
  | .door d => doorChange d b previous s
  | .loop k => loopChange k b time s
  | .station z => stationChange z b s

/-- LINE_FAULT and LINE_RESTORED (R11). -/
def raiseLine (l : LineId) (b previous : Band) (s : State) : State :=
  let c := lineClass l
  if s.lineUnused l then s
  else if c.faultBand b then raise .lineFault (.line l) (some (.band b)) s
  else if c.faultBand previous then raise .lineRestored (.line l) (some (.band b)) s
  else s

/-- A confirmed change takes effect outside the line supervisor (R10, R11). -/
def bandChange (l : LineId) (b previous : Band) (time : Nat) (s : State) : State :=
  raiseLine l b previous (handOwner l b previous time s)

/-- READY: every line confirmed during settling is handed over (R19). -/
def becomeReady (s : State) : State :=
  forEach (fun l s =>
    let x := s.lines.get l
    match x.heldAt with
    | some t => bandChange l x.confirmed .unknown t (s.setLine l { x with heldAt := none })
    | none => s) { s with sup := { s.sup with ready := true } }

/-- The end of a full scan; the third makes the part READY (R18, R19). -/
def endScan (s : State) : State :=
  if s.sup.ready then s
  else
    let n := s.sup.fullScans + 1
    let s := { s with sup := { s.sup with fullScans := n } }
    if n = Config.settlingScans then becomeReady s else s

/-- The line record, the fast-follow set and the owner after a conversion of a line (R3, R8 to R11, R15, R18). -/
def takeCode (l : LineId) (code : Nat) (s : State) : State :=
  let p := s.classParams (lineClass l)
  let x := s.lines.get l
  let y := x.convert p code s.now
  let changed := x.confirmed ≠ y.confirmed
  let s := s.setLine l (if changed && !s.sup.ready then { y with heldAt := some s.now } else y)
  let s :=
    match loopOfLine l with
    | some k =>
      { s with sup := { s.sup with fastFollow := put s.sup.fastFollow k (followAfter p x y code s.now (s.sup.fastFollow.get k)) } }
    | none => s
  if changed && s.sup.ready then bandChange l y.confirmed x.confirmed s.now s else s

/-- The reply of a MEASURE_LINE whose conversion has ended (R16, R20). -/
def answerMeasure (cv : Conversion) (code : Nat) (s : State) : State :=
  match cv.grantor with
  | .measurement owed => answerOwed owed .ok (.measured cv.line code (estimateOf code) (s.band cv.line)) s
  | .fastFollow => s
  | .scan => s

/-- The end of the conversion under way, and the grant of the next slot (R3, R13). -/
def endConversion (ohms : Option Nat) (s : State) : State :=
  let cv := s.sup.converting
  let ends := s.sup.endsScan
  let code := codeOf ohms
  let s := answerMeasure cv code (takeCode cv.line code s.tick)
  let s := { s with sup := s.sup.advance }
  let s := if ends then endScan s else s
  { s with sup := s.sup.grant s.now }

/-- A new class parameter set takes effect: every line of the class loses its candidate (R12). -/
def applyClass (c : LineClass) (p : ClassParams) (s : State) : State :=
  let s := { s with nv := s.nv.writeSettings (.cls c p) }
  forEach (fun l s => if lineClass l = c then s.setLine l { s.lines.get l with candidate := none, count := 0 } else s) s

end Sys2Proof.Machine
end

