-- ==== Sys2Proof/Machine/Access.lean ====
section
/-! DEFINITION. Access: the entry, perimeter and exit chains (R123 to R128, R136, R137, R165, R167, R170, R172),
the re-check (R133, R168), and the changes that reach grants (R132, R135). A chain's reply is owed unless a
BREAK has discarded it (R189). -/

namespace Sys2Proof.Machine

/-! ## Steps 2 to 11 -/

/-- The kinds of entry presentation (R123). -/
inductive EntryKind where
  | single (t : RoomId)
  | inner (t : RoomId)
  | outer (t : RoomId)
  | perimeter
  deriving DecidableEq, Repr

/-- The kind of an entry presentation at a door, by its role; an UNUSED door has none (R123). -/
def State.entryKind (s : State) (d : DoorId) : Option EntryKind :=
  match s.role d with
  | .strongroom t => some (if s.hasVestibule t then .inner t else .single t)
  | .vestibuleOuter t => some (.outer t)
  | .perimeter => some .perimeter
  | .unused => none

/-- Step 4 fails: the window set is not empty, and the clock is invalid or no window of the set is active (R123). -/
def State.outsideWindows (s : State) (c : Credential) : Bool :=
  c.windows ≠ 0 && !(s.clock.valid && (every 16).any (fun w => c.windows.getLsbD w.val && s.clock.windows.get w))

/-- The record carries the privilege that step 6 asks for (R123, R125). -/
def EntryKind.privileged (k : EntryKind) (c : Credential) : Bool :=
  match k with
  | .single t => c.privileges.getLsbD t.val
  | .inner t => c.privileges.getLsbD t.val
  | .outer t => c.privileges.getLsbD t.val
  | .perimeter => c.flags.perimeter

/-- Step 8 fails (R124). -/
def State.step8Fails (s : State) (k : EntryKind) (c : Credential) : Bool :=
  match k with
  | .single t => s.zoneRefuses t (some c)
  | .inner t => s.zoneRefuses t (some c)
  | .outer t => s.zoneRefuses t (some c)
  | .perimeter => false

/-- The slot is in a vestibule's occupant list. -/
def Vestibule.has (slot : SlotId) (x : Vestibule) : Bool := x.occupants.any (fun o => o.slot = slot)

/-- Step 9 fails (R124, R165, R167). -/
def State.step9Fails (s : State) (k : EntryKind) (slot : SlotId) : Bool :=
  match k with
  | .single _ => s.location slot ≠ .outside
  | .outer _ => s.location slot ≠ .outside
  | .inner t => !(s.vests.get t).has slot
  | .perimeter => false

/-- Step 10 fails for a number of holders (R124). -/
def State.step10Fails (s : State) (k : EntryKind) (holders : Nat) : Bool :=
  match k with
  | .single t => Config.maxListed < (s.rooms.get t).listed.length + holders
  | .outer t => Config.maxListed < (s.rooms.get t).listed.length + ((s.vests.get t).occupants.length + holders)
  | .inner t => Config.maxListed < (s.rooms.get t).listed.length + (s.vests.get t).occupants.length
  | .perimeter => false

/-- The door is SECURE and not in MANUAL mode (R124). -/
def State.doorFree (s : State) (d : DoorId) : Bool :=
  (s.doors.get d).state = .secure && (s.doors.get d).mode = .automatic

/-- The door holds a grant record in a stage other than AWAIT_PARTNER (R124). -/
def State.doorTaken (s : State) (d : DoorId) : Bool :=
  match s.grants.get d with
  | some g => g.stage ≠ .awaitPartner
  | none => false

/-- The first of steps 3 to 11 that fails for a found record (R123 to R125). `own` says that the door's grant
record is the holder's own and is disregarded at step 11 (R127, R133). -/
def State.failingStep (s : State) (d : DoorId) (k : EntryKind) (own : Bool) (holders : Nat) (slot : SlotId) (c : Credential) :
    Option Reason :=
  if c.state = .suspended then some .suspended
  else if s.outsideWindows c then some .outsideWindow
  else if s.outOfHours (some c) then some .outOfHours
  else if !k.privileged c then some .noPrivilege
  else if s.freeze && !c.flags.emergencyCrew then some .frozen
  else if s.step8Fails k c then some .zoneHazard
  else if s.step9Fails k slot then some .passback
  else if s.step10Fails k holders then some .strongroomFull
  else if !own && s.doorTaken d then some .doorBusy
  else if !s.doorFree d then some .doorUnavailable
  else none

/-- What steps 2 to 11 give for a badge. -/
inductive Verdict where
  | deferred
  | denied (r : Reason)
  | passed (slot : SlotId) (c : Credential)
  deriving DecidableEq, Repr

/-- Steps 2 to 11 for a badge (R113, R123 to R125). -/
def State.judge (s : State) (d : DoorId) (k : EntryKind) (own : Bool) (holders : Nat) (badge : Nat) : Verdict :=
  if s.conflicts badge then .deferred
  else
    match s.nv.findBadge badge with
    | none => .denied .unknownBadge
    | some (slot, c) =>
      match s.failingStep d k own holders slot c with
      | some r => .denied r
      | none => .passed slot c

/-! ## Replies and waiting -/

/-- DENIED with a reason. -/
def deny (owed : Bool) (r : Reason) (s : State) : State := answerOwed owed .denied (.reason r) s

/-- PENDING with a stage and the presenter's slot (R126, R128). -/
def answerPending (owed : Bool) (st : GrantStage) (slot : SlotId) (s : State) : State :=
  answerOwed owed .pending (.waiting st slot) s

/-- OK with an outcome and the presenter's slot (R128, R136). -/
def answerOutcome (owed : Bool) (o : Outcome) (slot : SlotId) (s : State) : State := answerOwed owed .ok (.outcome o slot) s

/-- A PRESENT waits for the running commit (R119). -/
def deferPresent (w : WaitingPresent) (s : State) : State := { s with waitPresents := s.waitPresents ++ [w] }

/-! ## Steps 12 and 13 -/

/-- The state of a door is SECURE; a door that is not configured is not (R164). -/
def State.isSecure (s : State) (d : Option DoorId) : Bool :=
  match d with
  | some d => (s.doors.get d).state = .secure
  | none => false

/-- The vestibule checks of an entry presentation or re-check (R165, R167, R168). -/
def State.vestibuleFails (s : State) (k : EntryKind) : Option Reason :=
  match k with
  | .outer t =>
    if (s.vests.get t).direction = .outbound then some .direction
    else if Config.maxOccupants < (s.vests.get t).occupants.length + 1 then some .vestibuleFull
    else if !s.isSecure (s.strongroomDoor t) then some .interlock
    else none
  | .inner t =>
    if (s.vests.get t).direction ≠ .inbound then some .direction
    else if !s.isSecure (s.outerDoor t) then some .interlock
    else none
  | .single _ => none
  | .perimeter => none

/-- The presenter needs a partner where the door holds no pending pair (R126, R167). -/
def State.needsPartner (s : State) (k : EntryKind) (c : Credential) : Bool :=
  match k with
  | .single t => s.clock.mode = .afterHours && (s.rooms.get t).listed.isEmpty && !excused (some c)
  | .inner _ => s.clock.mode = .afterHours && !excused (some c)
  | .outer _ => false
  | .perimeter => false

/-- Step 13: the grant mode (R128). The reply carries the presenter's slot. -/
def grantMode (d : DoorId) (holders : List Holder) (reader : Reader) (slot : SlotId) (owed : Bool) (s : State) : State :=
  let p := s.doorSettings d
  let g : Grant := ⟨holders, .entry, reader, .releasing, none, none⟩
  match p.grantMode, s.hostPresent with
  | .auto, _ => answerOutcome owed .granted slot (releaseDoor d g s)
  | .delayed, false => answerOutcome owed .granted slot (releaseDoor d g s)
  | .delayed, true =>
    answerPending owed .awaitDelay slot
      (s.setGrant d (some { g with stage := .awaitDelay, deadline := some (s.now + p.delayHold * 1000) }))
  | .confirm, true =>
    answerPending owed .awaitConfirm slot
      (s.setGrant d (some { g with stage := .awaitConfirm, deadline := some (s.now + p.confirmTimeout * 1000) }))
  | .confirm, false => deny owed .hostAbsent (cancelGrant d .hostAbsent s)

/-- A grant record begins to wait for a partner (R126, R167). -/
def awaitPartner (d : DoorId) (h : Holder) (s : State) : State :=
  s.setGrant d (some ⟨[h], .entry, .outside, .awaitPartner, some (s.now + (s.doorSettings d).pairWindow * 1000), none⟩)

/-- Step 12 where the door holds no pending pair, then step 13 (R126, R165, R167). -/
def step12 (d : DoorId) (k : EntryKind) (reader : Reader) (h : Holder) (c : Credential) (owed : Bool) (s : State) : State :=
  match s.vestibuleFails k with
  | some r => deny owed r s
  | none =>
    if s.needsPartner k c then answerPending owed .awaitPartner h.slot (awaitPartner d h s)
    else grantMode d [h] reader h.slot owed s

/-- The pair a presentation of a badge would complete at a door (R126, R127). -/
def State.pendingPair (s : State) (d : DoorId) : Option Holder :=
  match s.grants.get d with
  | some g => g.pair
  | none => none

/-- The number of holders that step 10 counts for a presentation of a badge (R124). -/
def State.presentHolders (s : State) (d : DoorId) (badge : Nat) : Nat :=
  match s.pendingPair d with
  | some h => if h.badge = badge then 1 else 2
  | none => 1

/-- Pair completion: the first holder is judged again (R127). -/
def completePair (w : WaitingPresent) (k : EntryKind) (first : Holder) (h : Holder) (c : Credential) (s : State) : State :=
  match s.judge w.door k true 2 first.badge with
  | .deferred => deferPresent w s
  | .denied r => step12 w.door k w.reader h c w.owed (cancelGrant w.door r s)
  | .passed _ _ =>
    let s := raise .grantOutcome (.door w.door) (some (.badge first.badge)) s
    grantMode w.door [first, h] .outside h.slot w.owed s

/-- Step 12 of a presenter that has passed steps 2 to 11 (R126, R165, R167). -/
def presenterPassed (w : WaitingPresent) (k : EntryKind) (slot : SlotId) (c : Credential) (s : State) : State :=
  let h : Holder := ⟨slot, w.badge⟩
  match s.vestibuleFails k, s.pendingPair w.door with
  | some r, _ => deny w.owed r s
  | none, some first =>
    if first.badge = w.badge then answerPending w.owed .awaitPartner slot s else completePair w k first h c s
  | none, none => step12 w.door k w.reader h c w.owed s

/-- The entry and perimeter chains (R123 to R128). -/
def entryChain (w : WaitingPresent) (k : EntryKind) (s : State) : State :=
  match s.judge w.door k false (s.presentHolders w.door w.badge) w.badge with
  | .deferred => deferPresent w s
  | .denied r => deny w.owed r s
  | .passed slot c => presenterPassed w k slot c s

/-! ## The exit chains (R136, R137, R170, R172) -/

/-- The door is taken for an exit: an exit grant, or an entry grant past its waiting stages (R137). -/
def State.exitBusy (s : State) (d : DoorId) : Bool :=
  match s.grants.get d with
  | some g => g.purpose = .exit || !g.stage.waits
  | none => false

/-- The vestibule's refusals of an exit at the inner door (R170). -/
def State.exitVestibuleFails (s : State) (v : RoomId) : Option Reason :=
  if !s.hasVestibule v then none
  else if (s.vests.get v).direction = .inbound then some .direction
  else if Config.maxOccupants ≤ (s.vests.get v).occupants.length then some .vestibuleFull
  else if !s.isSecure (s.outerDoor v) then some .interlock
  else none

/-- The door's condition lets an exit pass (R136, R172). -/
def State.exitDoorFit (s : State) (d : DoorId) : Bool :=
  let x := s.doors.get d
  x.state = .secure || x.state = .driverLatched || x.state = .lineFault || x.mode = .manual

/-- The first step after the lookup that refuses an exit at the inner or single door (R136, R170). -/
def State.exitFails (s : State) (d : DoorId) (v : RoomId) : Option Reason :=
  if s.exitBusy d then some .doorBusy
  else
    match s.exitVestibuleFails v with
    | some r => some r
    | none => if s.exitDoorFit d then none else some .doorUnavailable

/-- The first step after the lookup that refuses an exit at the outer door (R172). -/
def State.outerExitFails (s : State) (d : DoorId) (v : RoomId) : Option Reason :=
  if s.exitBusy d then some .doorBusy
  else if !s.isSecure (s.strongroomDoor v) then some .interlock
  else if s.exitDoorFit d then none
  else some .doorUnavailable

/-- An exit passes: a waiting entry grant is cancelled, an unlisted presenter is reported, and the door is
released where it is SECURE (R136, R137, R172). That GRANT_CANCELLED is raised before EXIT_UNLISTED no rule says (DESIGN CHOICE,
notes/assumptions/32.md). -/
def passExit (w : WaitingPresent) (h : Holder) (listed : Bool) (s : State) : State :=
  let s := cancelGrant w.door .doorBusy s
  let s := if listed then s else raise .exitUnlisted (.door w.door) (some (.badge w.badge)) s
  if s.doorFree w.door then
    answerOutcome w.owed .granted h.slot (releaseDoor w.door ⟨[h], .exit, .inside, .releasing, none, none⟩ s)
  else answerOutcome w.owed .grantedNoRelease h.slot s

/-- The exit chain at a STRONGROOM door (R136, R137, R170). -/
def exitChain (w : WaitingPresent) (v : RoomId) (s : State) : State :=
  if s.conflicts w.badge then deferPresent w s
  else
    match s.nv.findBadge w.badge with
    | none => deny w.owed .unknownBadge s
    | some (slot, _) =>
      match s.exitFails w.door v with
      | some r => deny w.owed r s
      | none => passExit w ⟨slot, w.badge⟩ (s.location slot = .inStrongroom v) s

/-- The outer exit chain (R172). -/
def outerExitChain (w : WaitingPresent) (v : RoomId) (s : State) : State :=
  if s.conflicts w.badge then deferPresent w s
  else
    match s.nv.findBadge w.badge with
    | none => deny w.owed .unknownBadge s
    | some (slot, _) =>
      match s.outerExitFails w.door v with
      | some r => deny w.owed r s
      | none => passExit w ⟨slot, w.badge⟩ ((s.vests.get v).has slot) s

/-- A presentation is evaluated from its first step (R119, R123). -/
def presentChain (w : WaitingPresent) (s : State) : State :=
  if !s.sup.ready then answerOwed w.owed .notReady .none s
  else
    match s.role w.door, w.reader, s.entryKind w.door with
    | .strongroom v, .inside, _ => exitChain w v s
    | .vestibuleOuter v, .inside, _ => outerExitChain w v s
    | _, _, some k => entryChain w k s
    | _, _, none => deny w.owed .doorUnavailable s

/-! ## The re-check (R133, R168) -/

/-- Steps 2 to 11 for every holder of a grant, in holder order (R133). -/
def State.judgeHolders (s : State) (d : DoorId) (k : EntryKind) (n : Nat) : List Holder → Option Verdict
  | [] => none
  | h :: rest =>
    match s.judge d k true n h.badge with
    | .passed _ _ => s.judgeHolders d k n rest
    | v => some v

/-- The verdict of a re-check: `none` where every holder and the vestibule checks pass (R133, R168). -/
def State.recheckVerdict (s : State) (d : DoorId) (g : Grant) : Option Verdict :=
  match s.entryKind d with
  | none => some (.denied .doorUnavailable)
  | some k =>
    match s.judgeHolders d k g.holders.length g.holders with
    | some v => some v
    | none => (s.vestibuleFails k).map .denied

/-- Make the re-check of a grant whose record says that it is owed one: release, cancel, or wait on (R119,
R130, R131, R133). A cancellation answers a CONFIRM that waits with it (R119). -/
def makeRecheck (d : DoorId) (s : State) : State :=
  match s.grants.get d with
  | none => s
  | some g =>
    match g.recheck with
    | none => s
    | some r =>
      match s.recheckVerdict d g with
      | some .deferred => s
      | some (.denied why) => cancelGrant d why s
      | some (.passed _ _) => s
      | none =>
        answerOwed r.owed .ok .none (raise .grantOutcome (.door d) (some (.badge g.firstBadge)) (releaseDoor d g s))

/-- A grant leaves its waiting stage by the re-check: its deadline no longer runs (R119, R130 to R132). A CONFIRM that finds a
re-check waiting already, after a BREAK, takes over the one re-check and its reply (DESIGN CHOICE, notes/assumptions/8.md). -/
def startRecheck (d : DoorId) (owed : Bool) (s : State) : State :=
  match s.grants.get d with
  | some g => makeRecheck d (s.setGrant d (some { g with deadline := none, recheck := some ⟨owed⟩ }))
  | none => s

/-- The pair window lapses (R131). -/
def lapsePair (d : DoorId) (s : State) : State :=
  match s.grants.get d with
  | some g => raise .grantExpired (.door d) (some (.badge g.firstBadge)) (s.setGrant d none)
  | none => s

/-! ## Host absence and mode changes (R132, R135) -/

/-- What host absence does to the grant of one door (R132). -/
def absenceActs (d : DoorId) (s : State) : State :=
  match s.grants.get d with
  | some g =>
    if g.stage = .awaitConfirm then cancelGrant d .hostAbsent s
    else if g.stage = .awaitDelay && g.recheck.isNone then startRecheck d false s
    else s
  | none => s

/-- The host becomes absent (R122, R132). -/
def hostAbsent (s : State) : State :=
  forEach absenceActs { s with hostPresent := false, link := { s.link with presenceDl := none } }

/-- A grant with one holder who needs a partner (R135, R168). -/
def State.loneHolder (s : State) (d : DoorId) (g : Grant) : Bool :=
  match s.entryKind d, g.holders with
  | some (.single t), [h] => (s.rooms.get t).listed.isEmpty && !excused (s.recordOf h.badge)
  | some (.inner _), [h] => !excused (s.recordOf h.badge)
  | _, _ => false

/-- A grant that a change of mode to AFTER_HOURS cancels (R135, R168). -/
def State.modeCancels (s : State) (d : DoorId) : Bool :=
  match s.grants.get d with
  | some g =>
    g.purpose = .entry && g.stage ≠ .released &&
      (g.holders.any (fun h => s.outOfHours (s.recordOf h.badge)) || s.loneHolder d g)
  | none => false

/-- The access decision unit is handed a change of mode to AFTER_HOURS (R135). -/
def cancelOutOfHours (s : State) : State :=
  forEach (fun d s => if s.modeCancels d then cancelGrant d .outOfHours s else s) s

end Sys2Proof.Machine
end

