-- ==== Sys2Proof/Machine/Clock.lean ====
section
/-! DEFINITION. Clock: the windows and the mode of the week clock (R181 to R185). -/

namespace Sys2Proof.Machine

/-- The previous day, with Sunday before Monday (R181). -/
def previousDay (d : Nat) : Nat := if d = 0 then 6 else d - 1

/-- A window is active at a minute-of-week by its record (R181). -/
def WindowSettings.activeAt (p : WindowSettings) (minuteOfWeek : Nat) : Bool :=
  let d := minuteOfWeek / Config.minutesPerDay
  let m := minuteOfWeek % Config.minutesPerDay
  if p.start < p.stop then p.days.getLsbD d && p.start ≤ m && m < p.stop
  else (p.days.getLsbD d && p.start ≤ m) || (p.days.getLsbD (previousDay d) && m < p.stop)

/-- The state that evaluation gives a window: inactive while the clock is INVALID (R181, R182). -/
def State.windowNow (s : State) (w : WindowId) : Bool :=
  s.clock.valid && (s.windowSettings w).activeAt s.clock.minute

/-- Evaluate one window; WINDOW_EDGE where its state has changed and its record reports edges (R182). -/
def evalWindow (w : WindowId) (s : State) : State :=
  let before := s.clock.windows.get w
  let after := s.windowNow w
  let s := { s with clock := { s.clock with windows := put s.clock.windows w after } }
  if before ≠ after && (s.windowSettings w).report then
    raise .windowEdge (.window w) (some (.named (if after then .windowActive else .windowInactive))) s
  else s

/-- Evaluate the sixteen windows, in ascending number (R182). -/
def evalWindows (s : State) : State := forEach evalWindow s

/-- The mode that the override, the clock and W0 give (R183). -/
def WeekClock.derivedMode (c : WeekClock) : Mode :=
  match c.override with
  | .forceDay => .day
  | .forceAfterHours => .afterHours
  | .auto => if c.valid && c.windows.get 0 then .day else .afterHours

/-- Re-derive the mode; a change is raised and handed to the access decision unit and the occupancy table (R106,
R135, R183). -/
def deriveMode (s : State) : State :=
  let m := s.clock.derivedMode
  if m = s.clock.mode then s
  else
    let s := raise .modeChange .none (some (.named (.mode m))) { s with clock := { s.clock with mode := m } }
    let s := if m = .afterHours then cancelOutOfHours s else s
    forEach evalLone s

/-- A minute boundary; it evaluates nothing while the clock is INVALID (R179). -/
def takeBoundary (s : State) : State :=
  let s := { s with clock := { s.clock with boundaryDue := false } }
  if s.clock.valid then deriveMode (evalWindows s) else s

/-- The time is set (R185). A boundary of the old time no longer occurs. -/
def setTime (minute second : Nat) (s : State) : State :=
  let c := { s.clock with minute := minute, second := second, ms := 0, valid := true, boundaryDue := false }
  deriveMode (evalWindows { s with clock := c })

/-- The mode override is set (R184). -/
def setOverride (o : ModeOverride) (s : State) : State := deriveMode { s with clock := { s.clock with override := o } }

/-- A SET_WINDOW takes effect (R180). -/
def applyWindow (w : WindowId) (p : WindowSettings) (s : State) : State :=
  let s := evalWindow w { s with nv := s.nv.writeSettings (.window w p) }
  if w = 0 then deriveMode s else s

end Sys2Proof.Machine
end

