-- ==== Sys2Proof/Machine/Starts.lean ====
section
/-! DEFINITION. Starts: the start values of every block (R18, R21, R62, R93, R111, R161, R186, R203), the three
kinds of start (R203), and the loss of main power (R201). -/

namespace Sys2Proof.Machine

/-- A zone record at a start, from its marks (R62). -/
def Zone.atStart (discharge isolate : Bool) : Zone :=
  { Zone.start with
    state := if discharge then .discharged else if isolate then .isolated else .quiet, isolate := isolate, discharge := discharge }

/-- An actuator record at a start, from its assignment and its spent mark (R93). -/
def Actuator.atStart (zone : Option ZoneId) (spent : Bool) : Actuator :=
  if spent then { Actuator.start with state := .fired, zone := zone, spent := true }
  else
    match zone with
    | some z => { Actuator.start with state := .armed, zone := some z, nextTest := some 0 }
    | none => Actuator.start

/-- A door record at a start, from its role (R161). -/
def Door.atStart (r : Role) : Door := if r = .unused then Door.unused else { Door.unused with state := .lineFault }

/-- The lone-worker state of a strongroom at a start (R111). -/
def State.loneAtStart (s : State) (v : RoomId) (r : Room) : Room :=
  { r with lone := if s.clock.mode = .afterHours && r.listed.length = 1 then .running (s.loneIntervalMs v) else .off }

/-- The week clock at a start: every window is evaluated and the mode derived, without a notice (R186). -/
def State.clockAtStart (s : State) : WeekClock :=
  let c := { s.clock with windows := Vector.ofFn (fun w => s.windowNow w), boundaryDue := false }
  { c with mode := c.derivedMode }

/-- The blocks of the main domain at their start values, from the nonvolatile memory and the retention domain
as they stand (R203). -/
def State.mainStart (s : State) : State :=
  let s := { s with clock := s.clockAtStart }
  { s with
    quarters := 0
    lines := Vector.replicate 64 LineRecord.start
    sup := Supervisor.start
    loops := Vector.replicate 8 Loop.start
    zones := Vector.ofFn (fun z => Zone.atStart (s.nv.discharge.get z) (s.nv.isolate.get z))
    acts := Vector.ofFn (fun a => Actuator.atStart (s.nv.assignments.get a) (s.nv.spent.get a))
    bank := Bank.start
    rooms := Vector.ofFn (fun v => s.loneAtStart v (s.rooms.get v))
    stage := .idle
    grants := Vector.replicate 20 none
    hostPresent := false
    waitPresents := []
    waitGets := []
    doors := Vector.ofFn (fun d => Door.atStart (s.role d))
    link := Link.start
    store := Store.start }

/-- A start: the start values, and DEVICE_START as the first notice (R203). -/
def State.start (k : StartKind) (s : State) : State :=
  raise .deviceStart .none (some (.named (.start k))) { s.mainStart with powered := true, lastStart := k }

/-- The retention domain as a cold start sets it (R111, R121, R162, R178). -/
def State.coldRetention (s : State) : State :=
  { s with
    rooms := Vector.ofFn (fun v => { Room.empty with unknown := (s.strongroomDoor v).isSome })
    locations := []
    vests := Vector.replicate 12 Vestibule.empty
    freeze := false
    clock := WeekClock.cold }

/-- A cold start (R203). -/
def startCold (s : State) : State := s.coldRetention.start .cold

/-- A warm start: the clock has counted on the backup cell (R178, R203). -/
def startWarm (offMs : Nat) (s : State) : State := { s with clock := s.clock.advance offMs }.start .warm

/-- A restart (R203, R204). -/
def startAgain (s : State) : State := s.start .restart

/-- The nonvolatile memory at a loss of main power: the running operation wholly made or not at all (R201). -/
def State.nvAtLoss (s : State) (written : Bool) : Nv :=
  match s.store.running with
  | some r => if written then s.nv.writeOp s.stage r.op else s.nv
  | none => s.nv

/-- Loss of main power (R201): every drive is off, what waits is lost, and the main domain holds nothing until
the next start. -/
def losePower (written : Bool) (s : State) : State := { { s with nv := s.nvAtLoss written }.mainStart with powered := false }

end Sys2Proof.Machine
end

