-- ==== Sys2Proof/Machine/Snapshots.lean ====
section
/-! DEFINITION. Snapshots: what the reading requests report (R17, R37, R60, R92, R110, R114, R160, R177, R186,
R202). None of them changes state. -/

namespace Sys2Proof.Machine

/-- GET_LINE (R17). -/
def State.lineReply (s : State) (l : LineId) : LineReply :=
  let x := s.lines.get l
  { cls := lineClass l, confirmed := x.confirmed, candidate := x.candidate, count := x.count, lastCode := x.lastCode,
    lastTime := x.lastTime, fastFollow := (loopOfLine l).map (fun k => (s.sup.fastFollow.get k).isSome) }

/-- GET_ZONE (R60, R78). -/
def State.zoneReply (s : State) (z : ZoneId) : ZoneReply :=
  let x := s.zones.get z
  { state := x.state, latchA := x.latchA, latchB := x.latchB, degraded := x.degraded, countdown := x.countdown,
    override := x.override, peak := x.peak, holdLeft := timeLeft s x.holdDl, stageLeft := timeLeft s x.stageDl,
    outstanding := x.outstanding, isolate := x.isolate, discharge := x.discharge, outputs := x.state.outputs,
    settings := s.zoneSettings z }

/-- The position of a QUEUED actuator, from 1 at the head (R92). -/
def State.queuePosition (s : State) (a : ActId) : Option Nat :=
  if (s.acts.get a).state = .queued then some (s.bank.queue.idxOf a + 1) else none

/-- GET_ACTUATOR (R92). -/
def State.actuatorReply (s : State) (a : ActId) : ActuatorReply :=
  let x := s.acts.get a
  { state := x.state, zone := x.zone, fault := x.fault, lastTest := x.lastTest, testLeft := timeLeft s x.nextTest,
    attempts := x.attempts, pulseLeft := timeLeft s x.pulseEnd, spent := x.spent, queuePosition := s.queuePosition a }

/-- A motion with the time left (R160). -/
def State.motionReply (s : State) (m : Motion) : MotionReply :=
  match m with
  | .idle => .idle
  | .moving t dl => .moving t (dl - s.now)
  | .cooling t dl => .cooling t (dl - s.now)

/-- GET_DOOR (R160). -/
def State.doorReply (s : State) (d : DoorId) : DoorReply :=
  let x := s.doors.get d
  { state := x.state, mode := x.mode, latch := x.latch, position := x.position, egress := x.egress, alarm := x.alarm,
    bolt := x.bolt, motion := s.motionReply x.motion, trips := x.trips, releaseLeft := timeLeft s x.releaseDl,
    heldOpenLeft := timeLeft s x.heldOpenDl, band := s.band (doorLine d), grant := s.grants.get d, settings := s.doorSettings d }

/-- GET_VESTIBULE (R177). -/
def State.vestibuleReply (s : State) (v : RoomId) : Option VestibuleReply :=
  if s.hasVestibule v then
    some { inner := s.strongroomDoor v, outer := s.outerDoor v, direction := (s.vests.get v).direction,
           occupants := (s.vests.get v).occupants }
  else none

/-- A lone-worker state with the time left (R110). -/
def State.loneReply (s : State) (x : Lone) : LoneReply :=
  match x with
  | .off => .off
  | .running dl => .running (dl - s.now)
  | .prompt dl => .prompt (dl - s.now)

/-- GET_OCCUPANCY; the assumed-out record is reported newest first (R110). -/
def State.occupancyReply (s : State) (v : RoomId) : OccupancyReply :=
  let r := s.rooms.get v
  { listed := r.listed, count := r.listed.length, evidence := r.evidence, unknown := r.unknown, effective := r.effective,
    assumedOut := r.assumedOut.reverse, lone := s.loneReply r.lone, buzzer := r.buzzer,
    interval := (s.loneSettings v).loneInterval, window := (s.loneSettings v).loneWindow }

/-- The doors whose grant record holds a slot (R114). -/
def State.holderOf (s : State) (slot : SlotId) : List DoorId :=
  (every 20).filter (fun d =>
    match s.grants.get d with
    | some g => g.holds slot
    | none => false)

/-- The staged record of a slot of the open row (R114). -/
def State.stagedReply (s : State) (slot : SlotId) : Option (Option Credential) :=
  match s.stage with
  | .opened row staged touched =>
    if slotRow slot = row then some (if touched.get (slotPlace slot) then some (staged.get (slotPlace slot)) else none) else none
  | _ => none

/-- GET_CREDENTIAL (R114). The staged record is shown as the stage keeps it, the other fields of a badge of 0 included (DESIGN CHOICE,
notes/assumptions/13.md). -/
def State.credentialReply (s : State) (slot : SlotId) : CredentialReply :=
  { record := s.nv.credential slot, location := s.location slot, holderOf := s.holderOf slot, staged := s.stagedReply slot }

/-- GET_CLOCK (R186). -/
def State.clockReply (s : State) : ClockReply :=
  let c := s.clock
  { minute := c.minute, second := c.second, ms := c.ms, day := c.minute / Config.minutesPerDay,
    minuteOfDay := c.minute % Config.minutesPerDay, valid := c.valid, override := c.override, mode := c.mode, windows := c.windows,
    settings := Vector.ofFn (fun w => s.windowSettings w) }

/-- The number of queued notices of a class (R202). -/
def State.queuedOf (s : State) (c : NoticeClass) : Nat := (s.link.notices.filter (fun n => n.kind.cls = c)).length

/-- The stage as STATUS reports it (R202). -/
def Stage.brief : Stage → StageReply
  | .idle => .none
  | .opened row _ _ => .opened row
  | .committing row _ _ => .committing row

/-- STATUS section 0 (R202). -/
def State.deviceReply (s : State) : DeviceReply :=
  { ready := s.sup.ready, lastStart := s.lastStart, hostPresent := s.hostPresent, noticesLife := s.queuedOf .life,
    noticesAlarm := s.queuedOf .alarm, noticesSupervisory := s.queuedOf .supervisory, noticesRoutine := s.queuedOf .routine,
    lost := s.link.lost, masks := s.link.masks, running := s.store.running.map (fun r => r.op),
    marksWaiting := s.store.marks.length, hostWaiting := s.store.host.length, stage := s.stage.brief,
    clockValid := s.clock.valid, override := s.clock.override, mode := s.clock.mode, freeze := s.freeze }

/-- STATUS section 1 (R37, R60, R202). -/
def State.alarmsReply (s : State) : AlarmsReply :=
  { loops := s.loops.map (fun x => ⟨x.state, x.station, x.pressAt⟩),
    zones := s.zones.map (fun x => ⟨x.state, x.latchA, x.latchB, x.degraded⟩) }

/-- STATUS section 2 (R92, R202). -/
def State.suppressionReply (s : State) : SuppressionReply :=
  { actuators := s.acts.map (fun x => (x.state, x.fault)), queue := s.bank.queue, inFlight := s.bank.inFlight,
    pulseCount := s.bank.pulseCount, pauseLeft := timeLeft s s.bank.pauseEnd }

/-- STATUS section 3 (R110, R129, R160, R177, R202). -/
def State.accessReply (s : State) : AccessReply :=
  { rooms := s.rooms.map (fun r => ⟨r.listed.length, r.evidence, r.unknown, r.effective, s.loneReply r.lone⟩),
    vestibules := Vector.ofFn (fun v =>
      if s.hasVestibule v then some ((s.vests.get v).direction, (s.vests.get v).occupants.length) else none),
    doors := Vector.ofFn (fun d =>
      ⟨(s.doors.get d).state, (s.doors.get d).mode, (s.doors.get d).trips, s.grantStage d⟩) }

/-- The section a STATUS asks for (R202). -/
def State.statusReply (s : State) (section_ : Nat) : Option ReplyData :=
  match section_ with
  | 0 => some (.device s.deviceReply)
  | 1 => some (.alarms s.alarmsReply)
  | 2 => some (.suppression s.suppressionReply)
  | 3 => some (.access s.accessReply)
  | _ => none

end Sys2Proof.Machine
end

