-- ==== Sys2Proof/Machine/LinkOps.lean ====
section
/-! DEFINITION. LinkOps: taking a valid frame (R190, R192), selecting a notice (R198), what a BREAK clears
(R189), and completing an operation of the store controller (R118, R200). -/

namespace Sys2Proof.Machine

/-- What a command answers. -/
abbrev Result := Host.Outcome State Fault Refusal

/-- A command that only changes state while main power is on (R201). -/
def powered (f : State → State) (s : State) : Result := .next (whilePowered f s)

/-- A timed event occurs once its deadline has been reached; before that, or with no deadline, it does not occur
(DESIGN CHOICE, notes/assumptions/3.md). -/
def whenDue (deadline : Option Nat) (f : State → State) (s : State) : State := if due s deadline then f s else s

/-! ## Valid frames -/

/-- A valid frame keeps the host present: the timer restarts with 10 s (R192). -/
def hostHeard (s : State) : State :=
  { s with hostPresent := true, link := { s.link with presenceDl := some (s.now + Config.presenceMs) } }

/-- A LINK_BUSY reply; it is not sent where three already wait (R190). -/
def answerBusy (kind tag : Nat) (s : State) : State :=
  if (s.link.tx.filter (fun r => r.role = .busy)).length < Config.maxBusyReplies then
    { s with link := { s.link with tx := s.link.tx ++ [⟨kind, tag, .linkBusy, .none, .busy⟩] } }
  else s

/-- A valid frame arrives (R190): LINK_BUSY while a request is outstanding, else it becomes the outstanding
request and `f` takes it. -/
def takeRequest (kind tag : Nat) (f : State → State) (s : State) : State :=
  let s := hostHeard s
  match s.link.outstanding with
  | some _ => answerBusy kind tag s
  | none => f { s with link := { s.link with outstanding := some ⟨kind, tag⟩ } }

/-- A frame of a kind arrives on the link. -/
def onRequest (kind tag : Nat) (f : State → State) (s : State) : Result := powered (takeRequest kind tag f) s

/-- An operand names an object, or the request is refused with BAD_VALUE. -/
def withObject {α : Type} (x : Option α) (f : α → State → State) (s : State) : State :=
  match x with
  | some a => f a s
  | none => answer .badValue s

/-- A request performed and answered OK. -/
def performed (f : State → State) (s : State) : State := answer .ok (f s)

/-! ## Fetching notices (R198) -/

/-- The classes from highest to lowest. -/
def NoticeClass.ranked : List NoticeClass := [.life, .alarm, .supervisory, .routine]

/-- The entry that a FETCH_NOTICE selects: the highest class present, and its oldest entry (R198). -/
def selectNotice (q : List Notice) : Option Notice :=
  NoticeClass.ranked.findSome? (fun c => q.find? (fun e => e.kind.cls = c))

/-- Put the oldest entry of a class in transmission. -/
def markInTx (c : NoticeClass) : List Notice → List Notice
  | [] => []
  | e :: rest => if e.kind.cls = c then { e with inTx := true } :: rest else e :: markInTx c rest

/-- The fully sent entry leaves the queue and the lost count falls by the value its reply carried (R198). -/
def Link.fetched (carried : Nat) (lk : Link) : Link :=
  { lk with notices := lk.notices.filter (fun e => !e.inTx), lost := lk.lost - carried }

/-! ## What a BREAK clears (R189) -/

/-- A settings item whose reply is discarded. -/
def StoreOp.unowed : StoreOp → StoreOp
  | .settings item _ => .settings item false
  | .mark item value => .mark item value
  | .commit row => .commit row

/-- The store controller with every deferred reply discarded. -/
def Store.unowed (st : Store) : Store :=
  { st with running := st.running.map (fun r => { r with op := r.op.unowed }), host := st.host.map StoreOp.unowed }

/-- A conversion whose reply is discarded. -/
def Grantor.unowed : Grantor → Grantor
  | .measurement _ => .measurement false
  | .fastFollow => .fastFollow
  | .scan => .scan

/-- The arbiter with the reply of a measurement discarded (R20). -/
def Supervisor.unowed (x : Supervisor) : Supervisor :=
  { x with
    pending := x.pending.map (fun m => { m with owed := false }),
    converting := { x.converting with grantor := x.converting.grantor.unowed } }

/-- A grant with the reply of a waiting CONFIRM discarded. -/
def Grant.unowed (g : Grant) : Grant := { g with recheck := g.recheck.map (fun _ => ⟨false⟩) }

/-- A BREAK takes its three steps; the requests behind deferred replies go on without a reply (R189, R198). -/
def clearLink (s : State) : State :=
  { s with
    link := { s.link with
      receiver := .hunt, outstanding := none, tx := [], notices := s.link.notices.map (fun e => { e with inTx := false }) }
    sup := s.sup.unowed
    waitPresents := s.waitPresents.map (fun w => { w with owed := false })
    waitGets := s.waitGets.map (fun w => { w with owed := false })
    grants := s.grants.map (fun g => g.map Grant.unowed)
    store := s.store.unowed }

/-- The test of R204 at the end or the discarding of a RESTART reply. -/
def testRestart (s : State) : State := if s.mayRestart then startAgain s else s

/-- The last byte of a reply is sent (R190, R198, R204). -/
def finishReply (r : Reply) (rest : List Reply) (s : State) : State :=
  let s := { s with link := { s.link with tx := rest } }
  match r.role with
  | .busy => s
  | .plain => { s with link := { s.link with outstanding := none } }
  | .fetch carried => { s with link := { s.link with outstanding := none }.fetched carried }
  | .restart => testRestart { s with link := { s.link with outstanding := none } }

/-! ## Completions of the store controller (R200) -/

/-- The controller is free: it starts its next operation (R200). -/
def startStore (s : State) : State := { s with store := s.store.startNext s.now }

/-- The running operation ends. -/
def endRunning (s : State) : State := { s with store := { s.store with running := none } }

/-- The running operation has taken its time. -/
def runningDue (s : State) : Option StoreOp :=
  match s.store.running with
  | some r => if r.doneAt ≤ s.now then some r.op else none
  | none => none

/-- A settings record takes effect, as its owner specifies (R6, R36, R61, R71, R80, R158, R180). What happened while the accepted
request still waited in the store counts as what happened during its write (DESIGN CHOICE, notes/assumptions/34.md). -/
def applySettings (item : SettingsItem) (s : State) : State :=
  match item with
  | .cls c p => applyClass c p s
  | .loop k p => applyLoop k p s
  | .zone z p => clampCountdown z { s with nv := s.nv.writeSettings (.zone z p) }
  | .actuator a z => assign a z { s with nv := s.nv.writeSettings (.actuator a z) }
  | .door d p => applyDoor d p s
  | .window w p => applyWindow w p s

/-- A settings write completes: it takes effect, its reply becomes ready, and the next operation starts (R191,
R200). -/
def finishSettings (item : SettingsItem) (owed : Bool) (s : State) : State :=
  startStore (answerOwed owed .ok .none (applySettings item (endRunning s)))

/-- A mark stands written (R200). -/
def finishMark (item : MarkItem) (value : Bool) (s : State) : State :=
  startStore { endRunning s with nv := s.nv.writeMark item value }

/-- A row commit completes (R118). -/
def finishCommit (row : RowId) (s : State) : State :=
  let nv := s.nv.writeOp s.stage (.commit row)
  startStore (raise .commitDone .none none { endRunning s with nv := nv, stage := .idle })

end Sys2Proof.Machine
end

