-- ==== Sys2Proof/Machine/DoorEvents.lean ====
section
/-! DEFINITION. DoorEvents: overcurrent trips and the timers of a door and of its grant (R131, R143, R144, R146,
R149), and the deferred re-check (R119). -/

namespace Sys2Proof.Machine

/-- OVERCURRENT_TRIP (R143). -/
def execOvercurrentTrip (d : DoorId) (s : State) : Result := powered (takeTrip d) s

/-- COOL_DOWN_END (R143). -/
def execCoolDownEnd (d : DoorId) (s : State) : Result :=
  powered (fun s =>
    match (s.doors.get d).motion with
    | .cooling target t => whenDue (some t) (retryMotion d target) s
    | .idle => s
    | .moving _ _ => s) s

/-- MOTION_TIMEOUT (R144). -/
def execMotionTimeout (d : DoorId) (s : State) : Result :=
  powered (fun s =>
    match (s.doors.get d).motion with
    | .moving target t => whenDue (some t) (takeTimeout d target) s
    | .idle => s
    | .cooling _ _ => s) s

/-- RELEASE_DEADLINE (R146). -/
def execReleaseDeadline (d : DoorId) (s : State) : Result :=
  powered (fun s => if (s.doors.get d).state = .released then whenDue (s.doors.get d).releaseDl (expireRelease d) s else s) s

/-- HELD_OPEN_DEADLINE (R149). -/
def execHeldOpenDeadline (d : DoorId) (s : State) : Result :=
  powered (fun s => if (s.doors.get d).state = .opened then whenDue (s.doors.get d).heldOpenDl (takeHeldOpen d) s else s) s

/-- The deadline of a door's grant in one waiting stage. -/
def State.grantDeadline (s : State) (d : DoorId) (st : GrantStage) : Option Nat :=
  match s.grants.get d with
  | some g => if g.stage = st then g.deadline else none
  | none => none

/-- PAIR_WINDOW_LAPSE (R131). -/
def execPairWindowLapse (d : DoorId) (s : State) : Result :=
  powered (fun s => whenDue (s.grantDeadline d .awaitPartner) (lapsePair d) s) s

/-- DELAY_HOLD_END (R131). -/
def execDelayHoldEnd (d : DoorId) (s : State) : Result :=
  powered (fun s => whenDue (s.grantDeadline d .awaitDelay) (startRecheck d false) s) s

/-- CONFIRM_TIMEOUT (R131). -/
def execConfirmTimeout (d : DoorId) (s : State) : Result :=
  powered (fun s => whenDue (s.grantDeadline d .awaitConfirm) (cancelGrant d .confirmTimeout) s) s

/-- DEFERRED_RECHECK (R119): a re-check that waited is made once the commit has ended. -/
def execDeferredRecheck (d : DoorId) (s : State) : Result :=
  powered (fun s => if s.commitRunning then s else makeRecheck d s) s

end Sys2Proof.Machine
end

