-- ==== Sys2Proof/Machine/LineEvents.lean ====
section
/-! DEFINITION. LineEvents: the end of a conversion and the deadlines of a staff loop (R3, R25, R26). -/

namespace Sys2Proof.Machine

/-- CONVERSION_END (R3): the line under conversion has the resistance `ohms`. -/
def execConversionEnd (ohms : Option Nat) (s : State) : Result := powered (endConversion ohms) s

/-- DURESS_DEADLINE (R25), as of the deadline's own time, so that the order of this event and a band change does not count (R32). -/
def execDuressDeadline (k : LoopId) (s : State) : Result :=
  powered (fun s => takeBy s.now (s.loops.get k).duressDl (takeDuress k) s) s

/-- STUCK_DEADLINE (R26); a duress deadline the loop has not yet taken is taken first, and each as of its own time (R32). -/
def execStuckDeadline (k : LoopId) (s : State) : Result :=
  powered (fun s => whenDue (s.loops.get k).stuckDl (deadlinesFirst k s.now) s) s

end Sys2Proof.Machine
end

