-- ==== Sys2Proof/Machine/CredentialRequests.lean ====
section
/-! DEFINITION. CredentialRequests: row programming (R115 to R118), presentations and the host's part in a grant
(R121, R123, R130). -/

namespace Sys2Proof.Machine

/-- ROW_OPEN performed (R115). -/
def performRowOpen (row : Nat) (s : State) : State :=
  withObject (fromZero 256 row) (fun r s =>
    match s.stage with
    | .idle =>
      performed (fun s =>
        { s with stage := .opened r (Vector.ofFn (fun j => s.nv.credential (rowSlot r j))) (Vector.replicate 8 false) }) s
    | _ => answer .rowState s) s

/-- ROW_OPEN (R115). -/
def execRowOpen (tag row : Nat) (s : State) : Result := onRequest 0x20 tag (performRowOpen row) s

/-- A credential record as staged, every field in its range (R116, 11.6). -/
def checkRecord (badge state privileges windows flags : Nat) : Option Credential :=
  match credStateOf state with
  | some st =>
    if badge < Config.badBadge && privileges < 4096 && windows < 65536 && flags < 16 then
      some ⟨badge, st, BitVec.ofNat 12 privileges, BitVec.ofNat 16 windows,
        ⟨flags.testBit 0, flags.testBit 1, flags.testBit 2, flags.testBit 3⟩⟩
    else none
  | none => none

/-- The slot and record a SLOT_STAGE asks for; `none` is BAD_VALUE (R116). -/
def checkStaging (slot badge state privileges windows flags : Nat) : Option (SlotId × Credential) :=
  match fromZero 2048 slot, checkRecord badge state privileges windows flags with
  | some i, some c => some (i, c)
  | _, _ => none

/-- SLOT_STAGE performed (R116): the record stands in the stage whole. R116 does not say when the other fields staged with a badge of
0 are discarded: the stage keeps them, GET_CREDENTIAL shows them as the staged record (R114), and the write of the commit discards them
(`Credential.stored`; DESIGN CHOICE, notes/assumptions/13.md). -/
def performSlotStage (slot badge state privileges windows flags : Nat) (s : State) : State :=
  withObject (checkStaging slot badge state privileges windows flags) (fun x s =>
    match s.stage with
    | .opened row staged touched =>
      if slotRow x.1 = row then
        performed (fun s =>
          { s with stage := .opened row (put staged (slotPlace x.1) x.2) (put touched (slotPlace x.1) true) }) s
      else answer .rowState s
    | _ => answer .rowState s) s

/-- SLOT_STAGE (R116). -/
def execSlotStage (tag slot badge state privileges windows flags : Nat) (s : State) : Result :=
  onRequest 0x21 tag (performSlotStage slot badge state privileges windows flags) s

/-- A non-empty staged badge equals the badge of a slot outside the row, or the staged badge of another slot of
the row (R117). -/
def State.duplicates (s : State) (row : RowId) (staged : Vector Credential 8) : Bool :=
  (every 8).any (fun j =>
    (staged.get j).badge ≠ 0 &&
    (s.nv.credentials.any (fun e => slotRow e.1 ≠ row && e.2.badge = (staged.get j).badge) ||
      (every 8).any (fun i => i ≠ j && (staged.get i).badge = (staged.get j).badge)))

/-- A touched slot whose staged badge differs from its stored one is not OUTSIDE or holds a grant (R117). -/
def State.occupantBlocks (s : State) (row : RowId) (staged : Vector Credential 8) (touched : Vector Bool 8) : Bool :=
  (every 8).any (fun j =>
    let slot := rowSlot row j
    touched.get j && (staged.get j).badge ≠ (s.nv.credential slot).badge &&
    (s.location slot ≠ .outside || !(s.holderOf slot).isEmpty))

/-- ROW_COMMIT performed (R117, R118). -/
def performRowCommit (s : State) : State :=
  match s.stage with
  | .opened row staged touched =>
    if s.duplicates row staged then answer .duplicateBadge s
    else if s.occupantBlocks row staged touched then answer .occupantPresent s
    else requestHost (.commit row) (answer .ok { s with stage := .committing row staged touched })
  | _ => answer .rowState s

/-- ROW_COMMIT (R117, R118). -/
def execRowCommit (tag : Nat) (s : State) : Result := onRequest 0x22 tag performRowCommit s

/-- ROW_DISCARD performed (R115). -/
def performRowDiscard (s : State) : State :=
  match s.stage with
  | .opened _ _ _ => performed (fun s => { s with stage := .idle }) s
  | _ => answer .rowState s

/-- ROW_DISCARD (R115). -/
def execRowDiscard (tag : Nat) (s : State) : Result := onRequest 0x23 tag performRowDiscard s

/-- The presentation a PRESENT names; `none` is BAD_VALUE (R123). -/
def checkPresent (door reader badge : Nat) : Option WaitingPresent :=
  match fromOne 20 door, readerOf reader with
  | some d, some r => some ⟨d, r, badge, true⟩
  | _, _ => none

/-- PRESENT performed: every PRESENT before READY is answered NOT_READY (R123). -/
def performPresent (door reader badge : Nat) (s : State) : State :=
  if !s.sup.ready then answer .notReady s else withObject (checkPresent door reader badge) presentChain s

/-- PRESENT (R123). -/
def execPresent (tag door reader badge : Nat) (s : State) : Result := onRequest 0x30 tag (performPresent door reader badge) s

/-- CONFIRM performed (R130). -/
def performConfirm (door : Nat) (s : State) : State :=
  withObject (fromOne 20 door) (fun d s =>
    if s.grantStage d = some .awaitConfirm then startRecheck d true s else answer .badState s) s

/-- CONFIRM (R130). -/
def execConfirm (tag door : Nat) (s : State) : Result := onRequest 0x31 tag (performConfirm door) s

/-- DENY performed (R130). -/
def performDeny (door : Nat) (s : State) : State :=
  withObject (fromOne 20 door) (fun d s =>
    if s.grantStage d = some .awaitDelay || s.grantStage d = some .awaitConfirm then performed (cancelGrant d .hostDenied) s
    else answer .badState s) s

/-- DENY (R130). -/
def execDeny (tag door : Nat) (s : State) : Result := onRequest 0x32 tag (performDeny door) s

/-- FREEZE_SET performed (R121). -/
def performFreezeSet (s : State) : State := performed setFreeze s

/-- FREEZE_SET (R121). -/
def execFreezeSet (tag : Nat) (s : State) : Result := onRequest 0x33 tag performFreezeSet s

/-- FREEZE_CLEAR performed (R121). -/
def performFreezeClear (s : State) : State := performed (fun s => { s with freeze := false }) s

/-- FREEZE_CLEAR (R121). -/
def execFreezeClear (tag : Nat) (s : State) : Result := onRequest 0x34 tag performFreezeClear s

end Sys2Proof.Machine
end

