-- ==== Sys2Proof/Machine/DoorRequests.lean ====
section
/-! DEFINITION. DoorRequests: DOOR_MODE, DOOR_DRIVE and DOOR_SERVICE, and RESTART (R155 to R157, R204). -/

namespace Sys2Proof.Machine

/-- A door with a mode; `none` is BAD_VALUE (R155). -/
def checkDoorMode (door mode : Nat) : Option (DoorId × DoorMode) :=
  match fromOne 20 door, doorModeOf mode with
  | some d, some m => some (d, m)
  | _, _ => none

/-- The mode of a door is set; a mode it already has changes nothing (R155). -/
def setDoorMode (d : DoorId) (m : DoorMode) (s : State) : State :=
  if (s.doors.get d).mode = m then s
  else
    match m with
    | .manual => setManual d s
    | .automatic => setAutomatic d s

/-- DOOR_MODE performed (R155). -/
def performDoorMode (door mode : Nat) (s : State) : State :=
  withObject (checkDoorMode door mode) (fun x s =>
    if s.role x.1 = .unused || (x.2 = .manual && (s.grants.get x.1).isSome) then answer .badState s
    else performed (setDoorMode x.1 x.2) s) s

/-- DOOR_MODE (R155). -/
def execDoorMode (tag door mode : Nat) (s : State) : Result := onRequest 0x48 tag (performDoorMode door mode) s

/-- A door with a direction; `none` is BAD_VALUE (R156). -/
def checkDoorDrive (door direction : Nat) : Option (DoorId × Bolt) :=
  match fromOne 20 door, boltOf direction with
  | some d, some b => some (d, b)
  | _, _ => none

/-- The door takes a manual motion (R156). -/
def State.drivable (s : State) (d : DoorId) : Bool :=
  let x := s.doors.get d
  x.mode = .manual && x.state ≠ .lineFault && x.state ≠ .driverLatched

/-- DOOR_DRIVE performed: the checks of a WITHDRAW in their order (R156). -/
def performDoorDrive (door direction : Nat) (s : State) : State :=
  withObject (checkDoorDrive door direction) (fun x s =>
    if !s.drivable x.1 then answer .badState s
    else if x.2 = .withdrawn && s.driveHazard x.1 then answer .zoneHazard s
    else if x.2 = .withdrawn && s.driveInterlock x.1 then answer .interlock s
    else performed (manualMotion x.1 x.2) s) s

/-- DOOR_DRIVE (R156). -/
def execDoorDrive (tag door direction : Nat) (s : State) : Result := onRequest 0x49 tag (performDoorDrive door direction) s

/-- DOOR_SERVICE performed (R157). -/
def performDoorService (door : Nat) (s : State) : State :=
  withObject (fromOne 20 door) (fun d s =>
    if s.role d = .unused || s.grantMoving d then answer .badState s else performed (serviceDoor d) s) s

/-- DOOR_SERVICE (R157). -/
def execDoorService (tag door : Nat) (s : State) : Result := onRequest 0x4A tag (performDoorService door) s

/-- RESTART performed: the restart itself follows the end of the reply (R204). -/
def performRestart (s : State) : State := if s.mayRestart then reply .ok .none .restart s else answer .badState s

/-- RESTART (R204). -/
def execRestart (tag : Nat) (s : State) : Result := onRequest 0x51 tag performRestart s

end Sys2Proof.Machine
end

