-- ==== Sys2Proof/Machine/Frames.lean ====
section
/-! DEFINITION. Frames: the CRC (R187) and the bytes of a frame, of a notice record and of the replies that 11.6
lays out. -/

namespace Sys2Proof.Machine

/-! ## The CRC (R187) -/

/-- One shift of the register, most significant bit first (R187). -/
def crcShift (r : Crc) : Crc := if r.msb then (r <<< 1) ^^^ 0x1021#16 else r <<< 1

/-- A byte is combined into the high half, and the register is shifted eight times (R187). -/
def crcByte (r : Crc) (b : Byte) : Crc :=
  crcShift (crcShift (crcShift (crcShift (crcShift (crcShift (crcShift (crcShift (r ^^^ (b.setWidth 16 <<< 8)))))))))

/-- The CRC of a sequence of bytes (R187). -/
def crcOf (bs : List Byte) : Crc := bs.foldl crcByte 0xFFFF#16

/-- The two bytes of a CRC, high byte first. -/
def crcBytes (r : Crc) : List Byte := [byteOf (r.toNat / 256), byteOf r.toNat]

/-- A whole frame: sync, length, kind, tag, body, CRC (R187, 11.6). -/
def frameBytes (kind tag : Nat) (body : List Byte) : List Byte :=
  let covered := byteOf (body.length + 2) :: byteOf kind :: byteOf tag :: body
  0xA5#8 :: covered ++ crcBytes (crcOf covered)

/-! ## Notice records (11.6) -/

/-- The object type byte. -/
def NoticeObject.typeCode : NoticeObject → Nat
  | .none => 0
  | .zone _ => 1
  | .door _ => 2
  | .loop _ => 3
  | .strongroom _ => 4
  | .actuator _ => 5
  | .line _ => 6
  | .window _ => 7

/-- The object's number by the numbering conventions; 0 where the object type is none (DESIGN CHOICE, notes/assumptions/31.md). -/
def NoticeObject.numberCode : NoticeObject → Nat
  | .none => 0
  | .zone z => number z
  | .door d => number d
  | .loop k => number k
  | .strongroom v => number v
  | .actuator a => number a
  | .line l => l.val
  | .window w => w.val

/-- The state of a door by its place in R138. -/
def DoorState.code : DoorState → Nat
  | .secure => 0
  | .releasing => 1
  | .released => 2
  | .opened => 3
  | .relocking => 4
  | .insecure => 5
  | .driverLatched => 6
  | .lineFault => 7
  | .manual => 8

/-- The number of a test result: CLEAN 0, OPEN_COIL 1, SHORT 2, none 3. -/
def testCode : Option TestResult → Nat
  | some .clean => 0
  | some .openCoil => 1
  | some .short => 2
  | none => 3

/-- Named values are numbered from 0 in the order the kind's rule lists them. -/
def Named.code : Named → Nat
  | .detectorA => 0
  | .detectorB => 1
  | .automatic => 0
  | .manual => 1
  | .resume => 2
  | .doorState st => st.code
  | .testResult r => testCode r
  | .evidence => 0
  | .unknown => 1
  | .withdrawTimeout => 0
  | .throwTimeout => 1
  | .boltReturned => 2
  | .bolt .thrown => 0
  | .bolt .withdrawn => 1
  | .windowActive => 0
  | .windowInactive => 1
  | .mode .day => 0
  | .mode .afterHours => 1
  | .start .cold => 0
  | .start .warm => 1
  | .start .restart => 2

/-- The detail type byte. -/
def Detail.typeCode : Option Detail → Nat
  | none => 0
  | some (.badge _) => 1
  | some (.station _) => 2
  | some (.reason _) => 3
  | some (.band _) => 4
  | some (.named _) => 5
  | some (.count _) => 6

/-- The detail value; 0 where the detail type is none (DESIGN CHOICE, notes/assumptions/31.md). -/
def Detail.valueCode : Option Detail → Nat
  | none => 0
  | some (.badge n) => n
  | some (.station k) => k.val
  | some (.reason r) => r.code
  | some (.band b) => b.code
  | some (.named v) => v.code
  | some (.count n) => n

/-- The bytes of a notice record; the stamp is carried modulo 4 294 967 296 (11.6). -/
def Notice.bytes (n : Notice) : List Byte :=
  Sys2Proof.bytes [n.kind.code, n.kind.cls.code, n.object.typeCode] ++ bytes2 n.object.numberCode ++
  Sys2Proof.bytes [Detail.typeCode n.detail] ++
  bytes4 (Detail.valueCode n.detail) ++ bytes4 n.stamp ++ bytes2 (n.clockMinute.getD 0xFFFF) ++ Sys2Proof.bytes [n.repeats]

/-! ## Replies (11.6) -/

/-- The outcome byte. -/
def Outcome.code : Outcome → Nat
  | .granted => 0
  | .grantedNoRelease => 1

/-- The stage byte of a PENDING reply. -/
def GrantStage.code : GrantStage → Nat
  | .awaitPartner => 0
  | .awaitDelay => 1
  | .awaitConfirm => 2
  | .releasing => 3
  | .released => 4

/-- The data of a reply whose layout 11.6 gives: none, a reason, the PRESENT replies and FETCH_NOTICE. The
other replies' data are carried by their fields (notes/assumptions/19.md). -/
def ReplyData.bytes : ReplyData → Option (List Byte)
  | .none => some []
  | .reason r => some (Sys2Proof.bytes [r.code])
  | .outcome o slot => some (Sys2Proof.bytes [o.code] ++ bytes2 slot.val)
  | .waiting st slot => some (Sys2Proof.bytes [st.code] ++ bytes2 slot.val)
  | .notice lost besides Option.none => some (Sys2Proof.bytes [lost, besides, 0])
  | .notice lost besides (some n) => some (Sys2Proof.bytes [lost, besides, 1] ++ n.bytes)
  | _ => Option.none

/-- The frame of a reply: the request's kind with its top bit set, the tag, the status byte and the data (R190). -/
def Reply.frame (r : Reply) : Option (List Byte) :=
  r.data.bytes.map (fun d => frameBytes (r.kind ||| 0x80) r.tag (byteOf r.status.code :: d))

end Sys2Proof.Machine
end

