-- ==== Sys2Proof/Machine/ReadRequests.lean ====
section
/-! DEFINITION. ReadRequests: the requests that read the part, and the measurement (R16, R17, R60, R92, R110, R114,
R160, R177, R186, R198, R202). -/

namespace Sys2Proof.Machine

/-- The reply of a request that reads one object. -/
def readObject {α : Type} (x : Option α) (f : State → α → ReplyData) (s : State) : State :=
  withObject x (fun a s => answerData (f s a) s) s

/-- STATUS performed (R202). -/
def performStatus (section_ : Nat) (s : State) : State := readObject (s.statusReply section_) (fun _ r => r) s

/-- STATUS (R202). -/
def execStatus (tag section_ : Nat) (s : State) : Result := onRequest 0x01 tag (performStatus section_) s

/-- GET_LINE performed (R17). -/
def performGetLine (line : Nat) (s : State) : State := readObject (fromZero 64 line) (fun s l => .line (s.lineReply l)) s

/-- GET_LINE (R17). -/
def execGetLine (tag line : Nat) (s : State) : Result := onRequest 0x02 tag (performGetLine line) s

/-- MEASURE_LINE performed: the line becomes the pending measurement (R16). -/
def performMeasureLine (line : Nat) (s : State) : State :=
  withObject (fromZero 64 line) (fun l s => { s with sup := { s.sup with pending := some ⟨l, true⟩ } }) s

/-- MEASURE_LINE (R16). -/
def execMeasureLine (tag line : Nat) (s : State) : Result := onRequest 0x03 tag (performMeasureLine line) s

/-- GET_ZONE performed (R60). -/
def performGetZone (zone : Nat) (s : State) : State := readObject (fromOne 12 zone) (fun s z => .zone (s.zoneReply z)) s

/-- GET_ZONE (R60). -/
def execGetZone (tag zone : Nat) (s : State) : Result := onRequest 0x04 tag (performGetZone zone) s

/-- GET_ACTUATOR performed (R92). -/
def performGetActuator (actuator : Nat) (s : State) : State :=
  readObject (fromOne 32 actuator) (fun s a => .actuator (s.actuatorReply a)) s

/-- GET_ACTUATOR (R92). -/
def execGetActuator (tag actuator : Nat) (s : State) : Result := onRequest 0x05 tag (performGetActuator actuator) s

/-- GET_DOOR performed (R160). -/
def performGetDoor (door : Nat) (s : State) : State := readObject (fromOne 20 door) (fun s d => .door (s.doorReply d)) s

/-- GET_DOOR (R160). -/
def execGetDoor (tag door : Nat) (s : State) : Result := onRequest 0x06 tag (performGetDoor door) s

/-- GET_VESTIBULE performed (R177). -/
def performGetVestibule (room : Nat) (s : State) : State :=
  readObject (fromOne 12 room) (fun s v => .vestibule (s.vestibuleReply v)) s

/-- GET_VESTIBULE (R177). -/
def execGetVestibule (tag room : Nat) (s : State) : Result := onRequest 0x07 tag (performGetVestibule room) s

/-- GET_OCCUPANCY performed (R110). -/
def performGetOccupancy (room : Nat) (s : State) : State :=
  readObject (fromOne 12 room) (fun s v => .occupancy (s.occupancyReply v)) s

/-- GET_OCCUPANCY (R110). -/
def execGetOccupancy (tag room : Nat) (s : State) : Result := onRequest 0x08 tag (performGetOccupancy room) s

/-- The slot lies in the committing row (R114). -/
def State.slotCommitting (s : State) (slot : SlotId) : Bool :=
  match s.stage with
  | .committing row _ _ => slotRow slot = row
  | _ => false

/-- GET_CREDENTIAL performed; a slot of the committing row waits (R114). -/
def performGetCredential (slot : Nat) (s : State) : State :=
  withObject (fromZero 2048 slot) (fun i s =>
    if s.slotCommitting i then { s with waitGets := s.waitGets ++ [⟨i, true⟩] }
    else answerData (.credential (s.credentialReply i)) s) s

/-- GET_CREDENTIAL (R114). -/
def execGetCredential (tag slot : Nat) (s : State) : Result := onRequest 0x09 tag (performGetCredential slot) s

/-- GET_CLOCK performed (R186). -/
def performGetClock (s : State) : State := answerData (.clock s.clockReply) s

/-- GET_CLOCK (R186). -/
def execGetClock (tag : Nat) (s : State) : Result := onRequest 0x0A tag performGetClock s

/-- FETCH_NOTICE performed (R198). -/
def performFetchNotice (s : State) : State :=
  let q := s.link.notices
  match selectNotice q with
  | some n =>
    reply .ok (.notice s.link.lost (q.length - 1) (some n)) (.fetch s.link.lost)
      { s with link := { s.link with notices := markInTx n.kind.cls q } }
  | none => reply .ok (.notice s.link.lost 0 none) (.fetch s.link.lost) s

/-- FETCH_NOTICE (R198). -/
def execFetchNotice (tag : Nat) (s : State) : Result := onRequest 0x0B tag performFetchNotice s

end Sys2Proof.Machine
end

