-- ==== Sys2Proof/Machine/RoomRequests.lean ====
section
/-! DEFINITION. RoomRequests: VESTIBULE_FLUSH and OCCUPANT_CLEAR (R104, R176). -/

namespace Sys2Proof.Machine

/-- VESTIBULE_FLUSH performed: the reply lists the flushed occupants (R176). -/
def performVestibuleFlush (room : Nat) (s : State) : State :=
  withObject (fromOne 12 room) (fun v s =>
    if s.flushRefused v then answer .badState s
    else answerData (.flushed (s.vests.get v).occupants) (emptyVestibule v .vestibuleFlushed s)) s

/-- VESTIBULE_FLUSH (R176). -/
def execVestibuleFlush (tag room : Nat) (s : State) : Result := onRequest 0x36 tag (performVestibuleFlush room) s

/-- A strongroom with what an OCCUPANT_CLEAR clears in it; `none` is BAD_VALUE (R104). -/
def checkClear (room target slot : Nat) : Option (RoomId × ClearTarget) :=
  match fromOne 12 room, clearTargetOf target slot with
  | some v, some t => some (v, t)
  | _, _ => none

/-- OCCUPANT_CLEAR performed (R104). -/
def performOccupantClear (room target slot : Nat) (s : State) : State :=
  withObject (checkClear room target slot) (fun x s =>
    match x.2 with
    | .slot i => if (s.rooms.get x.1).lists i then performed (clearSlot x.1 i) s else answer .badState s
    | .evidence => performed (clearEvidence x.1) s
    | .unknown => performed (clearUnknown x.1) s) s

/-- OCCUPANT_CLEAR (R104). -/
def execOccupantClear (tag room target slot : Nat) (s : State) : Result :=
  onRequest 0x37 tag (performOccupantClear room target slot) s

end Sys2Proof.Machine
end

