-- ==== Sys2Proof/Machine/SettingRequests.lean ====
section
/-! DEFINITION. SettingRequests: the settings writes, the notice masks, the mode override and the time (R6, R36, R61,
R80, R158, R180, R184, R185, R194). -/

namespace Sys2Proof.Machine

/-- A checked settings request: BAD_STATE, or a settings write whose OK waits for its completion (R191). -/
def writeUnless (blocked : Bool) (item : SettingsItem) (s : State) : State :=
  if blocked then answer .badState s else requestSettings item s

/-- SET_CLASS performed (R6). -/
def performSetClass (cls count hyst : Nat) (bands : List BandField) (s : State) : State :=
  withObject (checkClass cls count hyst bands) (fun x s => writeUnless false (.cls x.1 x.2) s) s

/-- SET_CLASS (R6). -/
def execSetClass (tag cls count hyst : Nat) (bands : List BandField) (s : State) : Result :=
  onRequest 0x10 tag (performSetClass cls count hyst bands) s

/-- SET_LOOP performed (R36). -/
def performSetLoop (loop tErr tDuress tStuck freeze l1 l2 l3 l4 l5 l6 : Nat) (s : State) : State :=
  withObject (checkLoop loop tErr tDuress tStuck freeze l1 l2 l3 l4 l5 l6)
    (fun x s => writeUnless ((s.loops.get x.1).state ≠ .idle) (.loop x.1 x.2) s) s

/-- SET_LOOP (R36). -/
def execSetLoop (tag loop tErr tDuress tStuck freeze l1 l2 l3 l4 l5 l6 : Nat) (s : State) : Result :=
  onRequest 0x11 tag (performSetLoop loop tErr tDuress tStuck freeze l1 l2 l3 l4 l5 l6) s

/-- SET_ZONE performed (R61). -/
def performSetZone (zone base ext tMax tMan tResume hold limit soak vent : Nat) (s : State) : State :=
  withObject (checkZone zone base ext tMax tMan tResume hold limit soak vent)
    (fun x s => writeUnless (!(s.zones.get x.1).state.allowsSettings) (.zone x.1 x.2) s) s

/-- SET_ZONE (R61). -/
def execSetZone (tag zone base ext tMax tMan tResume hold limit soak vent : Nat) (s : State) : Result :=
  onRequest 0x12 tag (performSetZone zone base ext tMax tMan tResume hold limit soak vent) s

/-- The zone of an assignment, present or asked for, is not QUIET or ISOLATED (R80). -/
def State.zoneBlocks (s : State) (z : Option ZoneId) : Bool :=
  match z with
  | some z => !(s.zones.get z).state.allowsSettings
  | none => false

/-- SET_ACTUATOR is refused with BAD_STATE (R80). -/
def State.assignmentBlocked (s : State) (a : ActId) (z : Option ZoneId) : Bool :=
  let x := s.acts.get a
  x.state = .queued || x.state = .firing || x.state = .fired || x.state = .failed || s.zoneBlocks x.zone || s.zoneBlocks z

/-- The zone asked for already holds four other actuators (R80). -/
def State.assignmentFull (s : State) (a : ActId) (z : Option ZoneId) : Bool :=
  match z with
  | some z => s.zoneFull z a
  | none => false

/-- SET_ACTUATOR performed (R80). -/
def performSetActuator (actuator zone : Nat) (s : State) : State :=
  withObject (checkAssignment actuator zone)
    (fun x s =>
      if s.assignmentFull x.1 x.2 then answer .badValue s
      else writeUnless (s.assignmentBlocked x.1 x.2) (.actuator x.1 x.2) s) s

/-- SET_ACTUATOR (R80). -/
def execSetActuator (tag actuator zone : Nat) (s : State) : Result := onRequest 0x13 tag (performSetActuator actuator zone) s

/-- SET_DOOR performed (R158). -/
def performSetDoor (door role room gm dh ct pw rt ho li lw : Nat) (s : State) : State :=
  withObject (s.checkDoor door role room gm dh ct pw rt ho li lw)
    (fun x s => writeUnless (s.doorSettingsBlocked x.1 x.2) (.door x.1 x.2) s) s

/-- SET_DOOR (R158). -/
def execSetDoor (tag door role room gm dh ct pw rt ho li lw : Nat) (s : State) : Result :=
  onRequest 0x14 tag (performSetDoor door role room gm dh ct pw rt ho li lw) s

/-- SET_WINDOW performed (R180). -/
def performSetWindow (window days start stop report : Nat) (s : State) : State :=
  withObject (checkWindow window days start stop report) (fun x s => writeUnless false (.window x.1 x.2) s) s

/-- SET_WINDOW (R180). -/
def execSetWindow (tag window days start stop report : Nat) (s : State) : Result :=
  onRequest 0x15 tag (performSetWindow window days start stop report) s

/-- One pair of a SET_NOTICE_MASK: a kind that can be masked and its setting (R194). -/
def maskPair (p : Nat × Nat) : Option (NoticeKind × Bool) :=
  match noticeKindOf p.1, switchOf p.2 with
  | some k, some v => if k.cls = .life then none else some (k, v)
  | _, _ => none

/-- The pairs of a SET_NOTICE_MASK; `none` is BAD_VALUE (R194). -/
def maskPairs : List (Nat × Nat) → Option (List (NoticeKind × Bool))
  | [] => some []
  | p :: rest =>
    match maskPair p, maskPairs rest with
    | some x, some xs => some (x :: xs)
    | _, _ => none

/-- The pairs a SET_NOTICE_MASK asks for, with its count in range (R194). -/
def checkMask (pairs : List (Nat × Nat)) : Option (List (NoticeKind × Bool)) :=
  if 1 ≤ pairs.length && pairs.length ≤ 56 then maskPairs pairs else none

/-- The mask of a kind after the pairs: its last pair stands (R194). -/
def maskAfter (pairs : List (NoticeKind × Bool)) (old : List NoticeKind) (k : NoticeKind) : Bool :=
  match pairs.reverse.find? (fun p => p.1 = k) with
  | some p => p.2
  | none => k ∈ old

/-- SET_NOTICE_MASK performed (R194). -/
def performSetNoticeMask (pairs : List (Nat × Nat)) (s : State) : State :=
  withObject (checkMask pairs) (fun ps s =>
    performed (fun s => { s with link := { s.link with masks := NoticeKind.all.filter (maskAfter ps s.link.masks) } }) s) s

/-- SET_NOTICE_MASK (R194). -/
def execSetNoticeMask (tag : Nat) (pairs : List (Nat × Nat)) (s : State) : Result :=
  onRequest 0x16 tag (performSetNoticeMask pairs) s

/-- MODE_SET performed (R184). -/
def performModeSet (value : Nat) (s : State) : State :=
  withObject (overrideOf value) (fun o s => performed (setOverride o) s) s

/-- MODE_SET (R184). -/
def execModeSet (tag value : Nat) (s : State) : Result := onRequest 0x35 tag (performModeSet value) s

/-- A time that TIME_SET accepts (R185). -/
def checkTime (minute second : Nat) : Option (Nat × Nat) :=
  if minute < Config.minutesPerWeek && second ≤ 59 then some (minute, second) else none

/-- TIME_SET performed (R185). -/
def performTimeSet (minute second : Nat) (s : State) : State :=
  withObject (checkTime minute second) (fun t s => performed (setTime t.1 t.2) s) s

/-- TIME_SET (R185). -/
def execTimeSet (tag minute second : Nat) (s : State) : Result := onRequest 0x50 tag (performTimeSet minute second) s

end Sys2Proof.Machine
end

