-- ==== Sys2Proof/Machine/ZoneRequests.lean ====
section
/-! DEFINITION. ZoneRequests: the suppression requests and ACTUATOR_REARM (R46, R54, R56, R57, R91). -/

namespace Sys2Proof.Machine

/-- ZONE_ISOLATE performed (R56). -/
def performZoneIsolate (zone : Nat) (s : State) : State :=
  withObject (fromOne 12 zone) (fun z s =>
    match (s.zones.get z).state with
    | .quiet | .alert => performed (isolate z) s
    | _ => answer .badState s) s

/-- ZONE_ISOLATE (R56). -/
def execZoneIsolate (tag zone : Nat) (s : State) : Result := onRequest 0x40 tag (performZoneIsolate zone) s

/-- ZONE_DEISOLATE performed (R57). -/
def performZoneDeisolate (zone : Nat) (s : State) : State :=
  withObject (fromOne 12 zone) (fun z s =>
    match (s.zones.get z).state with
    | .isolated => performed (deisolate z) s
    | _ => answer .badState s) s

/-- ZONE_DEISOLATE (R57). -/
def execZoneDeisolate (tag zone : Nat) (s : State) : Result := onRequest 0x41 tag (performZoneDeisolate zone) s

/-- ZONE_RESET performed (R54). -/
def performZoneReset (zone : Nat) (s : State) : State :=
  withObject (fromOne 12 zone) (fun z s =>
    match (s.zones.get z).state with
    | .alert => performed (resetAlert z) s
    | .discharged | .releaseFailed => performed (resetDischarged z) s
    | _ => answer .badState s) s

/-- ZONE_RESET (R54). -/
def execZoneReset (tag zone : Nat) (s : State) : Result := onRequest 0x42 tag (performZoneReset zone) s

/-- RELEASE_ZONE performed (R46): a manual release in QUIET, ALERT and the counting states; in ISOLATED it is
ignored with RELEASE_IGNORED (R45). -/
def performReleaseZone (zone : Nat) (s : State) : State :=
  withObject (fromOne 12 zone) (fun z s =>
    match (s.zones.get z).state with
    | .quiet | .alert | .predischarge | .held | .heldOccupied => performed (manualRelease z) s
    | .isolated => answer .badState (manualRelease z s)
    | .release | .soak | .vent | .discharged | .releaseFailed => answer .badState s) s

/-- RELEASE_ZONE (R46). -/
def execReleaseZone (tag zone : Nat) (s : State) : Result := onRequest 0x43 tag (performReleaseZone zone) s

/-- ACTUATOR_REARM is refused with BAD_STATE (R91). -/
def State.rearmBlocked (s : State) (a : ActId) : Bool :=
  let x := s.acts.get a
  (x.state ≠ .fired && x.state ≠ .failed) || (match x.zone with
    | some z => !(s.zones.get z).state.allowsRearm
    | none => false)

/-- ACTUATOR_REARM performed (R91). -/
def performActuatorRearm (actuator : Nat) (s : State) : State :=
  withObject (fromOne 32 actuator) (fun a s => if s.rearmBlocked a then answer .badState s else performed (rearm a) s) s

/-- ACTUATOR_REARM (R91). -/
def execActuatorRearm (tag actuator : Nat) (s : State) : Result := onRequest 0x44 tag (performActuatorRearm actuator) s

end Sys2Proof.Machine
end

