-- ==== Sys2Proof/Machine/LinkEvents.lean ====
section
/-! DEFINITION. LinkEvents: the frame receiver (R187, R188), BREAK (R189), the end of a reply (R190), and the
host-presence timer (R192). -/

namespace Sys2Proof.Machine

/-- A request taken from a frame is performed by its own rule (R190). -/
def performRequest (i : Instr) (s : State) : State :=
  match i with
  | .status _ a => performStatus a s
  | .getLine _ a => performGetLine a s
  | .measureLine _ a => performMeasureLine a s
  | .getZone _ a => performGetZone a s
  | .getActuator _ a => performGetActuator a s
  | .getDoor _ a => performGetDoor a s
  | .getVestibule _ a => performGetVestibule a s
  | .getOccupancy _ a => performGetOccupancy a s
  | .getCredential _ a => performGetCredential a s
  | .getClock _ => performGetClock s
  | .fetchNotice _ => performFetchNotice s
  | .setClass _ c n h bs => performSetClass c n h bs s
  | .setLoop _ k e d t f l1 l2 l3 l4 l5 l6 => performSetLoop k e d t f l1 l2 l3 l4 l5 l6 s
  | .setZone _ z b e tm ta tr h l so v => performSetZone z b e tm ta tr h l so v s
  | .setActuator _ a z => performSetActuator a z s
  | .setDoor _ d r v gm dh ct pw rt ho li lw => performSetDoor d r v gm dh ct pw rt ho li lw s
  | .setWindow _ w d a b r => performSetWindow w d a b r s
  | .setNoticeMask _ ps => performSetNoticeMask ps s
  | .rowOpen _ a => performRowOpen a s
  | .slotStage _ sl b st p w f => performSlotStage sl b st p w f s
  | .rowCommit _ => performRowCommit s
  | .rowDiscard _ => performRowDiscard s
  | .present _ d r b => performPresent d r b s
  | .confirm _ a => performConfirm a s
  | .deny _ a => performDeny a s
  | .freezeSet _ => performFreezeSet s
  | .freezeClear _ => performFreezeClear s
  | .modeSet _ a => performModeSet a s
  | .vestibuleFlush _ a => performVestibuleFlush a s
  | .occupantClear _ v t sl => performOccupantClear v t sl s
  | .zoneIsolate _ a => performZoneIsolate a s
  | .zoneDeisolate _ a => performZoneDeisolate a s
  | .zoneReset _ a => performZoneReset a s
  | .releaseZone _ a => performReleaseZone a s
  | .actuatorRearm _ a => performActuatorRearm a s
  | .doorMode _ d m => performDoorMode d m s
  | .doorDrive _ d b => performDoorDrive d b s
  | .doorService _ a => performDoorService a s
  | .timeSet _ m n => performTimeSet m n s
  | .restart _ => performRestart s
  | .coldStart | .warmStart _ | .powerLoss _ | .conversionEnd _ | .duressDeadline _ | .stuckDeadline _
  | .countdownExpiry _ | .holdDeadline _ | .pulseEnd _ _ _ | .rechargePauseEnd | .continuityTest _ _
  | .soakExpiry _ | .ventExpiry _ | .intervalDeadline _ | .responseWindowDeadline _ | .overcurrentTrip _
  | .coolDownEnd _ | .motionTimeout _ | .releaseDeadline _ | .heldOpenDeadline _ | .pairWindowLapse _
  | .delayHoldEnd _ | .confirmTimeout _ | .minuteBoundary | .byteReceived _ _ | .byteGapTimeout | .linkBreak
  | .replySent | .hostPresenceTimeout | .markWriteDone | .settingsWriteDone | .commitDone | .deferredPresent _
  | .deferredRecheck _ | .deferredGetCredential _ => s

/-- What a valid frame's kind, tag and body give: a refusal before any rule, or the request performed (R190). -/
def performFrame (kind tag : Nat) (body : List Byte) (s : State) : State :=
  match decodeRequest kind tag body with
  | .unknownKind => answer .unknownKind s
  | .frameLength => answer .frameLength s
  | .request i => performRequest i s

/-- The receiver enters a state. -/
def setReceiver (r : Receiver) (s : State) : State := { s with link := { s.link with receiver := r } }

/-- The received CRC of a complete frame equals the computed one (R187). -/
def crcAgrees (len : Nat) (got : List Byte) : Bool := got.drop len = crcBytes (crcOf (byteOf len :: got.take len))

/-- A complete frame: a valid one is taken as a request, another is discarded (R187). -/
def completeFrame (len : Nat) (got : List Byte) (s : State) : State :=
  let s := setReceiver .hunt s
  if crcAgrees len got then
    match got.take len with
    | kind :: tag :: body => takeRequest kind.toNat tag.toNat (performFrame kind.toNat tag.toNat body) s
    | _ => s
  else s

/-- The receiver takes a byte with a good stop bit (R187). -/
def takeByte (b : Byte) (s : State) : State :=
  match s.link.receiver with
  | .hunt => if b = 0xA5#8 then setReceiver .length s else s
  | .length => if 2 ≤ b.toNat && b.toNat ≤ 250 then setReceiver (.body b.toNat []) s else setReceiver .hunt s
  | .body len got =>
    if got.length + 1 < len + 2 then setReceiver (.body len (got ++ [b])) s else completeFrame len (got ++ [b]) s

/-- BYTE_RECEIVED (R187): a byte whose stop bit is low ends a partial frame and is discarded (R188). -/
def execByteReceived (byte : Byte) (stopHigh : Bool) (s : State) : Result :=
  powered (if stopHigh then takeByte byte else setReceiver .hunt) s

/-- BYTE_GAP_TIMEOUT: a partial frame is ended (R188). -/
def execByteGapTimeout (s : State) : Result := powered (setReceiver .hunt) s

/-- The reply of a RESTART is ready or in transmission. -/
def State.owesRestart (s : State) : Bool := s.link.tx.any (fun r => r.role = .restart)

/-- BREAK (R189); one that discards the reply of a RESTART makes its test (R204). -/
def execLinkBreak (s : State) : Result :=
  powered (fun s => if s.owesRestart then testRestart (clearLink s) else clearLink s) s

/-- REPLY_SENT: the last byte of the reply at the head of the transmit queue is sent (R190). -/
def execReplySent (s : State) : Result :=
  powered (fun s =>
    match s.link.tx with
    | r :: rest => finishReply r rest s
    | [] => s) s

/-- HOST_PRESENCE_TIMEOUT (R192). -/
def execHostPresenceTimeout (s : State) : Result := powered (fun s => whenDue s.link.presenceDl hostAbsent s) s

end Sys2Proof.Machine
end

