-- ==== Sys2Proof/Machine/PowerEvents.lean ====
section
/-! DEFINITION. PowerEvents: COLD_START, WARM_START and POWER_LOSS (R201, R203). A start that finds main power
on acts as a start all the same (notes/assumptions/4.md). -/

namespace Sys2Proof.Machine

/-- COLD_START (R203). -/
def execColdStart (s : State) : Result := .next (startCold s)

/-- WARM_START, after `offMs` on the backup cell (R178, R203). -/
def execWarmStart (offMs : Nat) (s : State) : Result := .next (startWarm offMs s)

/-- POWER_LOSS: `written` is the way the running operation ends (R201). -/
def execPowerLoss (written : Bool) (s : State) : Result := powered (losePower written) s

end Sys2Proof.Machine
end

