-- ==== Sys2Proof/Machine/RoomEvents.lean ====
section
/-! DEFINITION. RoomEvents: the deadlines of the lone-worker check, and the minute boundary of the week clock (R107, R109,
R179). -/

namespace Sys2Proof.Machine

/-- INTERVAL_DEADLINE (R107). -/
def execIntervalDeadline (v : RoomId) (s : State) : Result :=
  powered (fun s =>
    match (s.rooms.get v).lone with
    | .running dl => whenDue (some dl) (startPrompt v) s
    | .off => s
    | .prompt _ => s) s

/-- RESPONSE_WINDOW_DEADLINE (R109). -/
def execResponseWindowDeadline (v : RoomId) (s : State) : Result :=
  powered (fun s =>
    match (s.rooms.get v).lone with
    | .prompt dl => whenDue (some dl) (takeOverdue v) s
    | .off => s
    | .running _ => s) s

/-- MINUTE_BOUNDARY (R179): taken when the clock has reached a new minute. -/
def execMinuteBoundary (s : State) : Result := powered (fun s => if s.clock.boundaryDue then takeBoundary s else s) s

end Sys2Proof.Machine
end

