-- ==== Sys2Proof/Machine/StoreEvents.lean ====
section
/-! DEFINITION. StoreEvents: completions of the store controller and the requests deferred by a commit (R114,
R118, R119, R200). -/

namespace Sys2Proof.Machine

/-- MARK_WRITE_DONE (R200). -/
def execMarkWriteDone (s : State) : Result :=
  powered (fun s =>
    match runningDue s with
    | some (.mark item value) => finishMark item value s
    | some (.settings _ _) => s
    | some (.commit _) => s
    | none => s) s

/-- SETTINGS_WRITE_DONE (R191, R200). -/
def execSettingsWriteDone (s : State) : Result :=
  powered (fun s =>
    match runningDue s with
    | some (.settings item owed) => finishSettings item owed s
    | some (.mark _ _) => s
    | some (.commit _) => s
    | none => s) s

/-- COMMIT_DONE (R118). -/
def execCommitDone (s : State) : Result :=
  powered (fun s =>
    match runningDue s with
    | some (.commit row) => finishCommit row s
    | some (.mark _ _) => s
    | some (.settings _ _) => s
    | none => s) s

/-- DEFERRED_PRESENT (R119): the PRESENT at a place among those waiting is evaluated from its first step. -/
def execDeferredPresent (index : Nat) (s : State) : Result :=
  powered (fun s =>
    if s.commitRunning then s
    else
      match s.waitPresents[index]? with
      | some w => presentChain w { s with waitPresents := s.waitPresents.eraseIdx index }
      | none => s) s

/-- DEFERRED_GET_CREDENTIAL (R114): the GET_CREDENTIAL at a place among those waiting reports the new content. -/
def execDeferredGetCredential (index : Nat) (s : State) : Result :=
  powered (fun s =>
    if s.commitRunning then s
    else
      match s.waitGets[index]? with
      | some w =>
        answerOwed w.owed .ok (.credential (s.credentialReply w.slot)) { s with waitGets := s.waitGets.eraseIdx index }
      | none => s) s

end Sys2Proof.Machine
end

