-- ==== Sys2Proof/Machine/ZoneEvents.lean ====
section
/-! DEFINITION. ZoneEvents: the timers of a zone and of the firing bank (R55, R73, R76, R82, R86 to R88). -/

namespace Sys2Proof.Machine

/-- The countdown of a zone in PREDISCHARGE stands at zero (R73). -/
def Zone.expired (x : Zone) : Bool :=
  x.state = .predischarge && (match x.countdown with
    | some c => c.remaining = 0
    | none => false)

/-- COUNTDOWN_EXPIRY (R49, R73). -/
def execCountdownExpiry (z : ZoneId) (s : State) : Result :=
  powered (fun s => if (s.zones.get z).expired then takeExpiry z s else s) s

/-- HOLD_DEADLINE (R76). -/
def execHoldDeadline (z : ZoneId) (s : State) : Result :=
  powered (fun s => if (s.zones.get z).state = .heldOccupied then whenDue (s.zones.get z).holdDl (enterRelease z) s else s) s

/-- PULSE_END (R87, R88): `current` says whether coil current was seen, `coils` what each coil tests as. -/
def execPulseEnd (a : ActId) (current : Bool) (coils : Vector TestResult 32) (s : State) : Result :=
  powered (fun s =>
    if (s.acts.get a).state = .firing then whenDue (s.acts.get a).pulseEnd (endPulse a current coils) s else s) s

/-- RECHARGE_PAUSE_END (R86). -/
def execRechargePauseEnd (s : State) : Result := powered (fun s => whenDue s.bank.pauseEnd endPause s) s

/-- CONTINUITY_TEST (R82, R83): `result` is what the test measures. -/
def execContinuityTest (a : ActId) (result : TestResult) (s : State) : Result :=
  powered (fun s => if s.testDue a then testActuator a result s else s) s

/-- SOAK_EXPIRY (R55). -/
def execSoakExpiry (z : ZoneId) (s : State) : Result :=
  powered (fun s => if (s.zones.get z).state = .soak then whenDue (s.zones.get z).stageDl (enterVent z) s else s) s

/-- VENT_EXPIRY (R55). -/
def execVentExpiry (z : ZoneId) (s : State) : Result :=
  powered (fun s => if (s.zones.get z).state = .vent then whenDue (s.zones.get z).stageDl (enterDischarged z) s else s) s

end Sys2Proof.Machine
end

