-- ==== Sys2Proof/Machine/Dispatch.lean ====
section
/-! DEFINITION. Dispatch: the meaning of each command, one arm per constructor. -/

namespace Sys2Proof.Machine

def exec (i : Instr) (s : State) : Host.Outcome State Fault Refusal :=
  match i with
  | .coldStart => Sys2Proof.Machine.execColdStart s
  | .warmStart offMs => Sys2Proof.Machine.execWarmStart offMs s
  | .powerLoss written => Sys2Proof.Machine.execPowerLoss written s
  | .conversionEnd ohms => Sys2Proof.Machine.execConversionEnd ohms s
  | .duressDeadline k => Sys2Proof.Machine.execDuressDeadline k s
  | .stuckDeadline k => Sys2Proof.Machine.execStuckDeadline k s
  | .countdownExpiry z => Sys2Proof.Machine.execCountdownExpiry z s
  | .holdDeadline z => Sys2Proof.Machine.execHoldDeadline z s
  | .pulseEnd a current coils => Sys2Proof.Machine.execPulseEnd a current coils s
  | .rechargePauseEnd => Sys2Proof.Machine.execRechargePauseEnd s
  | .continuityTest a result => Sys2Proof.Machine.execContinuityTest a result s
  | .soakExpiry z => Sys2Proof.Machine.execSoakExpiry z s
  | .ventExpiry z => Sys2Proof.Machine.execVentExpiry z s
  | .intervalDeadline v => Sys2Proof.Machine.execIntervalDeadline v s
  | .responseWindowDeadline v => Sys2Proof.Machine.execResponseWindowDeadline v s
  | .overcurrentTrip d => Sys2Proof.Machine.execOvercurrentTrip d s
  | .coolDownEnd d => Sys2Proof.Machine.execCoolDownEnd d s
  | .motionTimeout d => Sys2Proof.Machine.execMotionTimeout d s
  | .releaseDeadline d => Sys2Proof.Machine.execReleaseDeadline d s
  | .heldOpenDeadline d => Sys2Proof.Machine.execHeldOpenDeadline d s
  | .pairWindowLapse d => Sys2Proof.Machine.execPairWindowLapse d s
  | .delayHoldEnd d => Sys2Proof.Machine.execDelayHoldEnd d s
  | .confirmTimeout d => Sys2Proof.Machine.execConfirmTimeout d s
  | .minuteBoundary => Sys2Proof.Machine.execMinuteBoundary s
  | .byteReceived byte stopHigh => Sys2Proof.Machine.execByteReceived byte stopHigh s
  | .byteGapTimeout => Sys2Proof.Machine.execByteGapTimeout s
  | .linkBreak => Sys2Proof.Machine.execLinkBreak s
  | .replySent => Sys2Proof.Machine.execReplySent s
  | .hostPresenceTimeout => Sys2Proof.Machine.execHostPresenceTimeout s
  | .markWriteDone => Sys2Proof.Machine.execMarkWriteDone s
  | .settingsWriteDone => Sys2Proof.Machine.execSettingsWriteDone s
  | .commitDone => Sys2Proof.Machine.execCommitDone s
  | .deferredPresent index => Sys2Proof.Machine.execDeferredPresent index s
  | .deferredRecheck d => Sys2Proof.Machine.execDeferredRecheck d s
  | .deferredGetCredential index => Sys2Proof.Machine.execDeferredGetCredential index s
  | .status tag section_ => Sys2Proof.Machine.execStatus tag section_ s
  | .getLine tag line => Sys2Proof.Machine.execGetLine tag line s
  | .measureLine tag line => Sys2Proof.Machine.execMeasureLine tag line s
  | .getZone tag zone => Sys2Proof.Machine.execGetZone tag zone s
  | .getActuator tag actuator => Sys2Proof.Machine.execGetActuator tag actuator s
  | .getDoor tag door => Sys2Proof.Machine.execGetDoor tag door s
  | .getVestibule tag room => Sys2Proof.Machine.execGetVestibule tag room s
  | .getOccupancy tag room => Sys2Proof.Machine.execGetOccupancy tag room s
  | .getCredential tag slot => Sys2Proof.Machine.execGetCredential tag slot s
  | .getClock tag => Sys2Proof.Machine.execGetClock tag s
  | .fetchNotice tag => Sys2Proof.Machine.execFetchNotice tag s
  | .setClass tag cls confirm hysteresis bands => Sys2Proof.Machine.execSetClass tag cls confirm hysteresis bands s
  | .setLoop tag loop tErr tDuress tStuck freeze l1 l2 l3 l4 l5 l6 => Sys2Proof.Machine.execSetLoop tag loop tErr tDuress tStuck freeze l1 l2 l3 l4 l5 l6 s
  | .setZone tag zone base ext tMax tMan tResume hold limit soak vent => Sys2Proof.Machine.execSetZone tag zone base ext tMax tMan tResume hold limit soak vent s
  | .setActuator tag actuator zone => Sys2Proof.Machine.execSetActuator tag actuator zone s
  | .setDoor tag door role room grantMode delayHold confirmTimeout pairWindow releaseTime heldOpen loneInterval loneWindow => Sys2Proof.Machine.execSetDoor tag door role room grantMode delayHold confirmTimeout pairWindow releaseTime heldOpen loneInterval loneWindow s
  | .setWindow tag window days start stop report => Sys2Proof.Machine.execSetWindow tag window days start stop report s
  | .setNoticeMask tag pairs => Sys2Proof.Machine.execSetNoticeMask tag pairs s
  | .rowOpen tag row => Sys2Proof.Machine.execRowOpen tag row s
  | .slotStage tag slot badge state privileges windows flags => Sys2Proof.Machine.execSlotStage tag slot badge state privileges windows flags s
  | .rowCommit tag => Sys2Proof.Machine.execRowCommit tag s
  | .rowDiscard tag => Sys2Proof.Machine.execRowDiscard tag s
  | .present tag door reader badge => Sys2Proof.Machine.execPresent tag door reader badge s
  | .confirm tag door => Sys2Proof.Machine.execConfirm tag door s
  | .deny tag door => Sys2Proof.Machine.execDeny tag door s
  | .freezeSet tag => Sys2Proof.Machine.execFreezeSet tag s
  | .freezeClear tag => Sys2Proof.Machine.execFreezeClear tag s
  | .modeSet tag value => Sys2Proof.Machine.execModeSet tag value s
  | .vestibuleFlush tag room => Sys2Proof.Machine.execVestibuleFlush tag room s
  | .occupantClear tag room target slot => Sys2Proof.Machine.execOccupantClear tag room target slot s
  | .zoneIsolate tag zone => Sys2Proof.Machine.execZoneIsolate tag zone s
  | .zoneDeisolate tag zone => Sys2Proof.Machine.execZoneDeisolate tag zone s
  | .zoneReset tag zone => Sys2Proof.Machine.execZoneReset tag zone s
  | .releaseZone tag zone => Sys2Proof.Machine.execReleaseZone tag zone s
  | .actuatorRearm tag actuator => Sys2Proof.Machine.execActuatorRearm tag actuator s
  | .doorMode tag door mode => Sys2Proof.Machine.execDoorMode tag door mode s
  | .doorDrive tag door direction => Sys2Proof.Machine.execDoorDrive tag door direction s
  | .doorService tag door => Sys2Proof.Machine.execDoorService tag door s
  | .timeSet tag minute second => Sys2Proof.Machine.execTimeSet tag minute second s
  | .restart tag => Sys2Proof.Machine.execRestart tag s

end Sys2Proof.Machine
end

