-- ==== Sys2Proof/Safety.lean ====
section
/-! DEFINITION. Safety: the words the statements use: what a request leaves on the link, what a start and an entry to
RELEASE leave, and the shapes of the state that every step keeps (a SAFE state has them all). -/

namespace Sys2Proof.Machine

/-! ## Requests -/

/-- Main power is on and no request is outstanding, so that the next valid frame is taken (R190). -/
abbrev State.free (s : State) : Prop := s.powered = true ∧ s.link.outstanding = none

/-- The state in which a request of a kind and a tag has just been taken (R190, R192). -/
def heard (kind tag : Nat) (s : State) : State :=
  { s with
    hostPresent := true
    link := { s.link with presenceDl := some (s.now + 10000), outstanding := some ⟨kind, tag⟩ } }

/-- A reply joins the transmit queue (R190). -/
def State.withReply (kind tag : Nat) (st : Status) (data : ReplyData) (s : State) : State :=
  { s with link := { s.link with tx := s.link.tx ++ [⟨kind, tag, st, data, .plain⟩] } }

/-- The store after a host operation joins its list (R200). -/
def hostQueued (op : StoreOp) (s : State) : Store :=
  ({ s.store with host := s.store.host ++ [op] }).startNext s.now

/-- The store after a mark joins its list (R200). -/
def markQueued (item : MarkItem) (value : Bool) (s : State) : Store :=
  ({ s.store with marks := joinMarks item value s.store.marks }).startNext s.now

/-- A switch as a request carries it. -/
def switchCode (b : Bool) : Nat := if b then 1 else 0

/-- A location or an assignment as a request carries it: 0 for none (R23, R80). -/
def placeCode (p : Option (Fin 12)) : Nat :=
  match p with
  | none => 0
  | some v => number v

/-- The bytes of a frame arrive one after another, each with its stop bit high (R187). -/
def receiveAll : List Byte → State → Host.Outcome State Fault Refusal
  | [], s => .next s
  | b :: rest, s =>
    match exec (.byteReceived b true) s with
    | .next t => receiveAll rest t
    | .fault f => .fault f
    | .refused r => .refused r

/-- An operation of the store controller whose deferred reply a BREAK has discarded; a mark and a commit owe none (R189, R191). -/
def StoreOp.withoutReply : StoreOp → StoreOp
  | .settings item _ => .settings item false
  | op => op

/-- The length of the body of each kind of request; `none` where no request has the kind (R190, 11.6). The lengths of the bodies that
11.6 does not lay out are the model's (notes/assumptions/5.md); those of SET_CLASS and SET_NOTICE_MASK follow from their counts. -/
def bodyLength (kind : Nat) (body : List Byte) : Option Nat :=
  match kind with
  | 0x0A | 0x0B | 0x22 | 0x23 | 0x33 | 0x34 | 0x51 => some 0
  | 0x01 | 0x02 | 0x03 | 0x04 | 0x05 | 0x06 | 0x07 | 0x08 | 0x20 | 0x31 | 0x32 | 0x35 | 0x36 | 0x40 | 0x41 | 0x42 | 0x43 | 0x44
  | 0x4A => some 1
  | 0x09 | 0x13 | 0x48 | 0x49 => some 2
  | 0x50 => some 3
  | 0x37 => some 4
  | 0x30 => some 6
  | 0x15 => some 7
  | 0x12 => some 11
  | 0x21 => some 12
  | 0x14 => some 13
  | 0x11 => some 14
  | 0x10 => some (4 + 5 * (body.getD 3 0#8).toNat)
  | 0x16 => some (1 + 2 * (body.getD 0 0#8).toNat)
  | _ => none

/-! ## Starts (R203) -/

/-- The mode by the table of R183: the override, else DAY while the clock is valid and W0 is active. -/
def modeGiven (c : WeekClock) : Mode :=
  match c.override with
  | .forceDay => .day
  | .forceAfterHours => .afterHours
  | .auto => if c.valid = true ∧ c.windows.get 0 = true then .day else .afterHours

/-- What every start sets, whatever its kind: `s` before it, `t` after it. -/
structure StartValues (k : StartKind) (s t : State) : Prop where
  on        : t.powered = true
  kind      : t.lastStart = k
  time      : t.quarters = 0
  lines     : ∀ l, t.lines.get l = ⟨.unknown, none, 0, none, none, none⟩
  arbiter   : t.sup = ⟨0, none, Vector.replicate 8 none, ⟨0, .scan⟩, 0, false⟩
  loops     : ∀ l, t.loops.get l = ⟨.idle, none, none, none, none⟩
  zones     : ∀ z, t.zones.get z =
    { state := if s.nv.discharge.get z then .discharged else if s.nv.isolate.get z then .isolated else .quiet
      latchA := false, latchB := false, degraded := false, countdown := none, override := false, peak := 0
      holdDl := none, stageDl := none, outstanding := [], fired := false
      isolate := s.nv.isolate.get z, discharge := s.nv.discharge.get z }
  spent     : ∀ a, s.nv.spent.get a = true →
    t.acts.get a = ⟨.fired, s.nv.assignments.get a, false, none, none, 0, none, true⟩
  armed     : ∀ a z, s.nv.spent.get a = false → s.nv.assignments.get a = some z →
    t.acts.get a = ⟨.armed, some z, false, none, some 0, 0, none, false⟩
  free      : ∀ a, s.nv.spent.get a = false → s.nv.assignments.get a = none →
    t.acts.get a = ⟨.unassigned, none, false, none, none, 0, none, false⟩
  bank      : t.bank = ⟨[], [], 0, none⟩
  stage     : t.stage = .idle
  grants    : ∀ d, t.grants.get d = none
  host      : t.hostPresent = false
  waiting   : t.waitPresents = [] ∧ t.waitGets = []
  doors     : ∀ d, t.doors.get d =
    ⟨if s.role d = .unused then .secure else .lineFault, .automatic, false, none, false, false, .thrown, .idle, 0, none, none⟩
  windows   : ∀ w, t.clock.windows.get w = (t.clock.valid && (s.windowSettings w).activeAt t.clock.minute)
  mode      : t.clock.mode = modeGiven t.clock
  lone      : ∀ v, (t.rooms.get v).lone =
    if t.clock.mode = .afterHours ∧ (t.rooms.get v).listed.length = 1 then .running (s.loneIntervalMs v) else .off
  link      : t.link =
    ⟨.hunt, none, [], none, [⟨.deviceStart, .none, some (.named (.start k)), 0, t.clockMinute, 1, false⟩], 0, []⟩
  store     : t.store = ⟨none, [], []⟩
  stored    : t.nv = s.nv
  queue     : t.pending = s.pending

/-- What a start keeps where the retention domain is valid, the clock's time aside (R203). -/
structure Retained (s t : State) : Prop where
  listed     : ∀ v, (t.rooms.get v).listed = (s.rooms.get v).listed
  evidence   : ∀ v, (t.rooms.get v).evidence = (s.rooms.get v).evidence
  unknown    : ∀ v, (t.rooms.get v).unknown = (s.rooms.get v).unknown
  assumedOut : ∀ v, (t.rooms.get v).assumedOut = (s.rooms.get v).assumedOut
  locations  : t.locations = s.locations
  vestibules : t.vests = s.vests
  freeze     : t.freeze = s.freeze
  validity   : t.clock.valid = s.clock.valid
  override   : t.clock.override = s.clock.override

/-- The time of the week clock in ms of the week (R178). -/
def WeekClock.total (c : WeekClock) : Nat := c.minute * 60000 + c.second * 1000 + c.ms

/-! ## The latches of a zone that has entered QUIET (R42, R43, R54, R57, R65) -/

/-- The zone just returned to QUIET, with `a` and `b` saying which detectors are in ALARM: none leaves it QUIET, one latch makes it
ALERT, and both begin an automatic countdown of `left` ms for an occupancy of `e`, HELD where the abort is held. -/
def Zone.relatched (a b held : Bool) (e left : Nat) (x : Zone) : Zone :=
  if a = true ∧ b = true then
    { x with
      state := if held then .held else .predischarge, latchA := true, latchB := true, override := false, peak := e
      holdDl := if held then none else x.holdDl, countdown := some ⟨.automatic, left⟩ }
  else { x with state := if a = true ∨ b = true then .alert else .quiet, latchA := a, latchB := b }

/-! ## Entry to RELEASE (R50, R53, R84, R85) -/

/-- Zone `z` has entered RELEASE, and RELEASE_FAILED where none of its actuators was ARMED: `s` before the event, `t`
after it. -/
structure EntersRelease (z : ZoneId) (s t : State) : Prop where
  zone    : t.zones.get z =
    { s.zones.get z with
      state := if s.armedOf z = [] then .releaseFailed else .release, countdown := none, holdDl := none
      outstanding := s.armedOf z, fired := false, discharge := true }
  others  : ∀ y, y ≠ z → t.zones.get y = s.zones.get y
  handed  : ∀ a ∈ s.armedOf z, (t.acts.get a).state = .queued ∨ (t.acts.get a).state = .firing
  rest    : ∀ a, a ∉ s.armedOf z → a ∉ s.bank.queue → t.acts.get a = s.acts.get a
  order   : t.bank.inFlight ++ t.bank.queue = s.bank.inFlight ++ s.bank.queue ++ s.armedOf z
  pulses  : t.bank.pulseCount + s.bank.inFlight.length = s.bank.pulseCount + t.bank.inFlight.length
  pause   : t.bank.pauseEnd = s.bank.pauseEnd
  mark    : t.store = markQueued (.discharge z) true s

/-! ## Presentations (R123 to R125, R134, R145) -/

/-- The first of steps 3 to 7 that refuses a found record, `privileged` saying whether it carries what step 6 asks for (R123 to
R125). -/
def State.recordRefusal (s : State) (c : Credential) (privileged : Bool) : Option Reason :=
  if c.state = .suspended then some .suspended
  else if c.windows ≠ 0 ∧ ¬(s.clock.valid = true ∧ ∃ w : WindowId, c.windows.getLsbD w.val = true ∧ s.clock.windows.get w = true) then
    some .outsideWindow
  else if s.clock.mode = .afterHours ∧ c.flags.afterHours = false then some .outOfHours
  else if privileged = false then some .noPrivilege
  else if s.freeze = true ∧ c.flags.emergencyCrew = false then some .frozen
  else none

/-- The first of steps 3 to 8 that refuses a found record at strongroom `v` (R123, R124). -/
def State.entryRefusal (s : State) (v : RoomId) (c : Credential) : Option Reason :=
  (s.recordRefusal c (c.privileges.getLsbD v.val)).or
    (if (s.zones.get v).state = .quiet ∨ (s.zones.get v).state = .isolated ∨
        c.flags.emergencyCrew = true ∧ ((s.zones.get v).state = .alert ∨ (s.zones.get v).state = .discharged) then none
      else some .zoneHazard)

/-- The door stands in SECURE and is not in MANUAL mode (R124 step 11). -/
abbrev State.doorReady (s : State) (d : DoorId) : Prop := (s.doors.get d).state = .secure ∧ (s.doors.get d).mode = .automatic

/-- A door that is configured is SECURE (R164). -/
abbrev State.secureAt (s : State) (d : Option DoorId) : Prop := ∃ e, d = some e ∧ (s.doors.get e).state = .secure

/-! ## Doors (R142, R147, R151, R156, R158) -/

/-- The door counts as shut for a manual withdraw of the other door of its vestibule, and for a change of roles (R156, R158). -/
abbrev State.countsShut (s : State) (d : DoorId) : Prop :=
  (s.doors.get d).state = .secure ∨
  ((s.doors.get d).mode = .manual ∧ (s.doors.get d).bolt = .thrown ∧ (s.doors.get d).motion = .idle ∧ s.doorBand d = .bolted)

/-- A SET_DOOR may give door `d` the role `r` beside the roles of the other doors, those in force and those of the SET_DOORs that
wait in the store (R158; log entry 33). -/
structure State.RoleAllowed (s : State) (d : DoorId) (r : Role) : Prop where
  strongroom : ∀ v, r = .strongroom v → ∀ e, e ≠ d → .strongroom v ∉ s.rolesAhead e
  outer      : ∀ v, r = .vestibuleOuter v →
    (∀ e, e ≠ d → .vestibuleOuter v ∉ s.rolesAhead e) ∧ ∃ e, e ≠ d ∧ ∀ q ∈ s.rolesAhead e, q = .strongroom v
  eight      : ∀ v, r = .vestibuleOuter v →
    ((every 20).filter (fun e => e ≠ d && (every 12).any (fun w => Role.vestibuleOuter w ∈ s.rolesAhead e))).length < 8
  kept       : ∀ v, .strongroom v ∈ s.rolesAhead d → r ≠ .strongroom v → ∀ e, e ≠ d → .vestibuleOuter v ∉ s.rolesAhead e

/-- The state lets door `d` take settings with the role `r` (R158). -/
structure State.DoorChangeable (s : State) (d : DoorId) (r : Role) : Prop where
  state    : (s.doors.get d).state = .secure ∨ (s.doors.get d).state = .manual
  grant    : s.grants.get d = none
  occupied : ∀ v, s.role d ≠ r → s.role d = .vestibuleOuter v ∨ r = .vestibuleOuter v → (s.vests.get v).occupants = []
  shut     : ∀ v, s.role d ≠ r → r = .vestibuleOuter v → (s.doors.get d).bolt = .withdrawn →
    ∃ e, s.strongroomDoor v = some e ∧ s.countsShut e

/-- The figures of a door settings record are in their ranges (R139). -/
structure DoorFigures (delayHold confirmTimeout pairWindow releaseTime heldOpen loneInterval loneWindow : Nat) : Prop where
  delay    : 1 ≤ delayHold ∧ delayHold ≤ 30
  confirm  : 1 ≤ confirmTimeout ∧ confirmTimeout ≤ 120
  pair     : 5 ≤ pairWindow ∧ pairWindow ≤ 60
  release  : 2 ≤ releaseTime ∧ releaseTime ≤ 60
  heldOpen : 5 ≤ heldOpen ∧ heldOpen ≤ 600
  interval : 5 ≤ loneInterval ∧ loneInterval ≤ 120
  window   : 15 ≤ loneWindow ∧ loneWindow ≤ 300

/-- A role as a SET_DOOR carries it (R139; the codes are the model's, log entry 5). -/
def roleCode : Role → Nat × Nat
  | .strongroom v => (0, number v)
  | .vestibuleOuter v => (1, number v)
  | .perimeter => (2, 0)
  | .unused => (3, 0)

/-- A grant mode as a SET_DOOR carries it (R139; the codes are the model's, log entry 5). -/
def grantModeCode : GrantMode → Nat
  | .auto => 0
  | .delayed => 1
  | .confirm => 2

/-- The door with a throw just begun in a closed state (R142). -/
def Door.throwing (st : DoorState) (now : Nat) (x : Door) : Door :=
  { x with state := st, bolt := .thrown, motion := .moving .thrown (now + 3000), releaseDl := none, heldOpenDl := none }

/-- The door as SECURE leaves it (R151). -/
def Door.shut (x : Door) : Door :=
  { x with state := .secure, bolt := .thrown, motion := .idle, egress := false, alarm := false, releaseDl := none, heldOpenDl := none }

/-- The door just opened, with its held-open deadline (R147, R152). -/
def Door.opening (heldOpen : Nat) (x : Door) : Door :=
  { x with state := .opened, motion := .idle, releaseDl := none, heldOpenDl := some heldOpen }

/-- The position field of a door after its line has confirmed a band (R138). -/
def showBand (d : DoorId) (b : Band) (s : State) : State :=
  { s with doors := put s.doors d { s.doors.get d with position := Position.after (s.doors.get d).position b } }

/-! ## Cancellations that follow a change elsewhere (R119, R129, R135, R168) -/

/-- A CONFIRM that waits with the re-check of a cancelled grant is answered DENIED with the reason (R119). -/
def State.confirmDenied (g : Grant) (why : Reason) (s : State) : State :=
  match g.recheck, s.link.outstanding with
  | some ⟨true⟩, some r => s.withReply r.kind r.tag .denied (.reason why)
  | _, _ => s

/-- The door's grant has been cancelled before the door was released: GRANT_CANCELLED, and DENIED to a CONFIRM that waits with it; nothing
where the door holds none (R119, R129). -/
def State.grantDropped (d : DoorId) (why : Reason) (s : State) : State :=
  match s.grants.get d with
  | none => s
  | some g => State.confirmDenied g why (raise .grantCancelled (.door d) (some (.reason why)) { s with grants := put s.grants d none })

/-- The reply of a presentation, where it is owed still (R189, R190). -/
def State.repliedTo (owed : Bool) (st : Status) (data : ReplyData) (s : State) : State :=
  match owed, s.link.outstanding with
  | true, some r => s.withReply r.kind r.tag st data
  | _, _ => s

/-! ## Notices of a door, releases and exits (R134, R136, R137, R138, R145, R161, R172) -/

/-- A door raises a notice: not while it is UNUSED, nor before READY (R138, R161). -/
def State.doorNotice (k : NoticeKind) (d : DoorId) (detail : Option Detail) (s : State) : State :=
  if s.sup.ready = true ∧ s.role d ≠ .unused then raise k (.door d) detail s else s

/-- The withdraw of a releasing or released grant has failed: the grant ends with GRANT_FAILED (R134, R140, R144). -/
def State.withdrawFailed (d : DoorId) (s : State) : State :=
  match s.grants.get d with
  | some g =>
    if g.stage = .releasing ∨ g.stage = .released then
      State.doorNotice .grantFailed d (some (.badge g.firstBadge)) { s with grants := put s.grants d none }
    else s
  | none => s

/-- A grant is handed to a door: RELEASING with a withdraw, RELEASED at once where the line shows the bolt withdrawn, and the passage
at once where it shows OPEN (R134, R145, R147). -/
def State.releaseTo (d : DoorId) (holders : List Holder) (p : Purpose) (r : Reader) (s : State) : State :=
  let x := s.doors.get d
  if s.doorBand d = .unbolted ∨ s.doorBand d = .egress then
    { s with
      grants := put s.grants d (some ⟨holders, p, r, .released, none, none⟩)
      doors := put s.doors d { x with
        state := .released, bolt := .withdrawn, motion := .idle, trips := 0
        releaseDl := some (s.now + (s.doorSettings d).releaseTime * 1000) } }
  else if s.doorBand d = .opened then
    settle s.rooms (movePassage d ⟨holders, p, r, .released, none, none⟩ { s with
      grants := put s.grants d none
      doors := put s.doors d { x.opening (s.now + (s.doorSettings d).heldOpen * 1000) with bolt := .withdrawn, trips := 0 } })
  else
    { s with
      grants := put s.grants d (some ⟨holders, p, r, .releasing, none, none⟩)
      doors := put s.doors d { x with
        state := .releasing, bolt := .withdrawn, motion := .moving .withdrawn (s.now + 3000) } }

/-- An exit presentation of a slot has passed: a waiting entry grant is cancelled, a presenter that is not listed is reported, and the
door is released where it is SECURE in AUTOMATIC (R136, R137, R172; the order of the two notices: log entry 32). -/
def State.exitPassed (w : WaitingPresent) (slot : SlotId) (listed : Bool) (s : State) : State :=
  let t := s.grantDropped w.door .doorBusy
  let u := (if listed then id else raise .exitUnlisted (.door w.door) (some (.badge w.badge))) t
  if s.doorReady w.door then
    (u.releaseTo w.door [⟨slot, w.badge⟩] .exit .inside).repliedTo w.owed .ok (.outcome .granted slot)
  else u.repliedTo w.owed .ok (.outcome .grantedNoRelease slot)

/-! ## Occupants who leave a vestibule (R97, R102, R163, R173, R176) -/

/-- The removal of a slot from the vestibule of `v` has been handed on: a waiting entry grant at the inner door that it holds is
cancelled with PASSBACK (R163). -/
def State.removalHanded (v : RoomId) (slot : SlotId) (s : State) : State :=
  match s.strongroomDoor v with
  | none => s
  | some d =>
    if (s.grants.get d).any (fun g => g.purpose = .entry && g.stage.waits && g.holders.any (fun h => h.slot = slot)) then
      s.grantDropped d .passback
    else s

/-- The vestibule of `v` has been emptied: every occupant OUTSIDE, each removal handed on, and then one notice for each, in arrival
order (R163, R173, R176; the order of the first notices and the last: R176, and for R173 log entry 9). -/
def State.vestibuleEmptied (v : RoomId) (k : NoticeKind) (s : State) : State :=
  let gone := (s.vests.get v).occupants
  let t := { s with
    vests := put s.vests v { direction := .none, occupants := [] }
    locations := gone.foldl (fun l o => sparsePut .outside l o.slot .outside) s.locations }
  let u := gone.foldl (fun t o => t.removalHanded v o.slot) t
  gone.foldl (fun t o => raise k (.strongroom v) (some (.badge o.badge)) t) u

/-! ## Slots that change their place (R97 to R100, R102, R166, R169, R170, R173) -/

/-- The slot has left the place that its location names: its entry in that strongroom's list, or its place in that vestibule, whose
removal is handed on; a slot that the vestibule no longer holds is removed no second time (R97, R163). -/
def State.slotTaken (slot : SlotId) (s : State) : State :=
  match s.location slot with
  | .outside => s
  | .inStrongroom w =>
    { s with rooms := put s.rooms w { s.rooms.get w with listed := (s.rooms.get w).listed.filter (fun e => e.slot ≠ slot) } }
  | .inVestibule w =>
    let rest := (s.vests.get w).occupants.filter (fun o => o.slot ≠ slot)
    if rest.length = (s.vests.get w).occupants.length then s
    else State.removalHanded w slot { s with vests := put s.vests w {
      direction := if rest = [] then .none else (s.vests.get w).direction, occupants := rest } }

/-- LOCATION_CORRECTED for a slot that was found elsewhere than expected: its object is the strongroom that it was taken from, or `v`,
the one it enters, where it was OUTSIDE (R97; the object for a vestibule: log entry 28). -/
def State.placeCorrected (found expected : Location) (v : RoomId) (badge : Nat) (s : State) : State :=
  if found = expected then s
  else
    raise .locationCorrected (.strongroom (match found with
      | .outside => v
      | .inStrongroom w => w
      | .inVestibule w => w)) (some (.badge badge)) s

/-- The slot has left its place, expected to be `expected`, at an event of strongroom `v`, and its location is `target` (R97). -/
def State.slotMoved (v : RoomId) (slot : SlotId) (badge : Nat) (expected target : Location) (s : State) : State :=
  { (s.slotTaken slot).placeCorrected (s.location slot) expected v badge with
    locations := sparsePut .outside s.locations slot target }

/-- The slot has come into strongroom `v`: listed with ENTRY, or, where 16 are listed already, OUTSIDE with the unknown mark and
STRONGROOM_OVERFLOW (R98, R99; that it has left its old place by then: log entry 20). -/
def State.slotListed (v : RoomId) (slot : SlotId) (badge : Nat) (expected : Location) (via : Bool) (s : State) : State :=
  let x := (s.slotTaken slot).rooms.get v
  if x.listed.length < 16 then
    raise .entry (.strongroom v) (some (.badge badge)) { s.slotMoved v slot badge expected (.inStrongroom v) with
      rooms := put (s.slotTaken slot).rooms v { x with listed := x.listed ++ [⟨slot, badge, s.clockTime, via⟩] } }
  else
    raise .strongroomOverflow (.strongroom v) (some (.badge badge)) { s.slotMoved v slot badge expected .outside with
      rooms := put (s.slotTaken slot).rooms v { x with unknown := true } }

/-- The slot is the last occupant of the vestibule of `v`, which takes the direction (R163, R166, R170). -/
def State.chamberEntered (v : RoomId) (slot : SlotId) (badge : Nat) (dir : Direction) (s : State) : State :=
  { s with vests := put s.vests v {
      direction := dir, occupants := (s.vests.get v).occupants ++ [⟨slot, badge, s.clockTime⟩] } }

/-- The presenter of an exit has left strongroom `v`, for OUTSIDE or, where it has a vestibule, for that: EXIT, and LOCATION_CORRECTED
for one who was found in another strongroom or in a vestibule (R100, R170). -/
def State.exitTaken (v : RoomId) (h : Holder) (s : State) : State :=
  let expected := if s.location h.slot = .outside then .outside else .inStrongroom v
  raise .exit (.strongroom v) (some (.badge h.badge))
    (if s.hasVestibule v then
      (s.slotMoved v h.slot h.badge expected (.inVestibule v)).chamberEntered v h.slot h.badge .outbound
    else s.slotMoved v h.slot h.badge expected .outside)

/-- The record that a badge finds in the store's present content carries a flag; a badge that finds none carries no flag (R135). -/
def State.carries (s : State) (badge : Nat) (flag : CredFlags → Bool) : Bool :=
  (s.nv.findBadge badge).any (fun e => flag e.2.flags)

/-- A holder of this badge fails step 8 at the zone (R124, R135). -/
def State.hazardFor (s : State) (z : ZoneId) (badge : Nat) : Bool :=
  match (s.zones.get z).state with
  | .quiet | .isolated => false
  | .alert | .discharged => !s.carries badge (fun f => f.emergencyCrew)
  | .predischarge | .held | .heldOccupied | .release | .releaseFailed | .soak | .vent => true

/-- A change of the zone's state cancels the grant of the door (R135). -/
def State.hazardReaches (s : State) (z : ZoneId) (d : DoorId) : Bool :=
  (s.role d).room = some z &&
  (s.grants.get d).any (fun g => g.purpose = .entry && g.holders.any (fun h => s.hazardFor z h.badge))

/-- A change of mode to AFTER_HOURS cancels the grant of the door: a holder fails step 5, or the one holder needs a partner, at a
single door whose strongroom lists nobody or at an inner door (R126, R135, R167, R168). -/
def State.afterHoursReaches (s : State) (d : DoorId) : Bool :=
  (s.grants.get d).any (fun g =>
    g.purpose = .entry && g.stage ≠ .released &&
    (g.holders.any (fun h => !s.carries h.badge (fun f => f.afterHours)) ||
      (g.holders.length = 1 && g.holders.all (fun h => !s.carries h.badge (fun f => f.solo || f.emergencyCrew)) &&
        (match s.role d with
          | .strongroom v => s.hasVestibule v || (s.rooms.get v).listed.isEmpty
          | _ => false))))

/-! ## Lone working and the mode (R106, R182, R183) -/

/-- The lone-worker state after a re-evaluation of the condition (R106). -/
def State.loneFor (s : State) (v : RoomId) : Lone :=
  if s.clock.mode = .afterHours ∧ (s.rooms.get v).listed.length = 1 then
    if (s.rooms.get v).lone = .off then .running (s.now + (s.loneSettings v).loneInterval * 60000) else (s.rooms.get v).lone
  else .off

/-- The sixteen windows have been evaluated, in ascending number, each that changes raising WINDOW_EDGE where its record reports
edges (R182). -/
def State.windowsTaken (s : State) : State :=
  (every 16).foldl (fun t w =>
    let active := t.clock.valid && (t.windowSettings w).activeAt t.clock.minute
    (if t.clock.windows.get w ≠ active ∧ (t.windowSettings w).report = true then
        raise .windowEdge (.window w) (some (.named (if active then .windowActive else .windowInactive)))
      else id) { t with clock := { t.clock with windows := put t.clock.windows w active } }) s

/-- The mode has been derived: a change raises MODE_CHANGE, one to AFTER_HOURS cancels the grants it reaches, and each lone-worker
condition is evaluated again (R106, R135, R183). -/
def State.modeTaken (s : State) : State :=
  if modeGiven s.clock = s.clock.mode then s
  else
    let t := raise .modeChange .none (some (.named (.mode (modeGiven s.clock)))) { s with
      clock := { s.clock with mode := modeGiven s.clock } }
    let u :=
      if modeGiven s.clock = .afterHours then
        (every 20).foldl (fun t d => if t.afterHoursReaches d then cancelGrant d .outOfHours t else t) t
      else t
    { u with rooms := Vector.ofFn (fun v => { u.rooms.get v with lone := u.loneFor v }) }

/-! ## What a zone does as it changes its state (R42, R43, R45, R47 to R51, R54, R72, R73, R84) -/

/-- DOOR_OPEN_AT_RELEASE for a configured door that is not SECURE (R51). -/
def State.openReported (d : Option DoorId) (s : State) : State :=
  match d with
  | some e =>
    if (s.doors.get e).state = .secure then s
    else raise .doorOpenAtRelease (.door e) (some (.named (.doorState (s.doors.get e).state))) s
  | none => s

/-- The ARMED actuators of a zone have been handed to the firing queue (R50, R84). -/
def State.armedQueued (z : ZoneId) (s : State) : State :=
  { s with
    acts := Vector.ofFn (fun a =>
      if a ∈ s.armedOf z then { s.acts.get a with state := .queued, attempts := 0, nextTest := none } else s.acts.get a)
    bank := { s.bank with queue := s.bank.queue ++ s.armedOf z } }

/-- The zone has entered RELEASE: ZONE_RELEASE, the discharge mark, DOOR_OPEN_AT_RELEASE, the actuators and their first pulses, the
hand-over, and RELEASE_FAILED where none was ARMED (R50, R51, R53, R59, R84, R85). -/
def State.releaseEntered (z : ZoneId) (s : State) : State :=
  let t := raise .zoneRelease (.zone z) none { s with
    store := markQueued (.discharge z) true s
    zones := put s.zones z { s.zones.get z with
      state := .release, countdown := none, holdDl := none, outstanding := s.armedOf z, fired := false, discharge := true } }
  let u := handZone z (grantPulses (State.armedQueued z ((t.openReported (t.strongroomDoor z)).openReported (t.outerDoor z))))
  if s.armedOf z = [] then
    handZone z (raise .releaseFailed (.zone z) none { u with zones := put u.zones z { u.zones.get z with state := .releaseFailed } })
  else u

/-- A countdown of this kind has expired: HELD_OCCUPIED, or RELEASE (R49, R73). -/
def State.expiryTaken (z : ZoneId) (kind : CountdownKind) (s : State) : State :=
  if kind = .automatic ∧ (s.zoneSettings z).hold = true ∧ 1 ≤ (s.rooms.get z).effective then
    handZone z (raise .zoneHeldOccupied (.zone z) none { s with
      zones := put s.zones z { s.zones.get z with
        state := .heldOccupied, countdown := none, holdDl := some (s.now + (s.zoneSettings z).limit * 1000) } })
  else s.releaseEntered z

/-- The zone goes into PREDISCHARGE with this countdown, or on in it, the record otherwise as `x` has it: ZONE_PREDISCHARGE, the
hand-over of a change of state, and at 0 ms the expiry at once (R43, R45, R48, R59, R72). -/
def State.countdownEntered (z : ZoneId) (x : Zone) (c : Countdown) (detail : Named) (s : State) : State :=
  let t := raise .zonePredischarge (.zone z) (some (.named detail)) { s with
    zones := put s.zones z { x with state := .predischarge, countdown := some c } }
  let u := if (s.zones.get z).state = .predischarge then t else handZone z t
  if c.remaining = 0 then u.expiryTaken z c.kind else u

/-- The zone enters HELD with this countdown standing: ZONE_HELD and the hand-over (R43, R47, R59). -/
def State.holdEntered (z : ZoneId) (x : Zone) (c : Countdown) (s : State) : State :=
  handZone z (raise .zoneHeld (.zone z) none { s with
    zones := put s.zones z { x with state := .held, countdown := some c, holdDl := none } })

/-- Cross-zoning begins an automatic countdown, held where the station line has the abort (R43, R65). -/
def State.crossZoned (z : ZoneId) (s : State) : State :=
  let p := s.zoneSettings z
  let e := (s.rooms.get z).effective
  let c : Countdown := ⟨.automatic, min (p.tMax * 1000) ((p.base + p.ext * e) * 1000)⟩
  let x := { s.zones.get z with override := false, peak := e }
  if s.ownBand (stationLine z) = .abort then s.holdEntered z x c else s.countdownEntered z x c .automatic

/-- The zone, its record otherwise as `x` has it, has returned to QUIET: latches cleared, ZONE_QUIET, the hand-over, and then the
latches of the detectors that are in ALARM with what they do (R40, R42, R43, R54, R57). -/
def State.quietEntered (z : ZoneId) (x : Zone) (s : State) : State :=
  let a := s.ownBand (detectorALine z) = .alarm
  let b := s.ownBand (detectorBLine z) = .alarm
  let latch (name : Named) (x : Zone) (s : State) : State :=
    raise .detectorLatched (.zone z) (some (.named name)) { s with zones := put s.zones z x }
  let t := handZone z (raise .zoneQuiet (.zone z) none { s with
    zones := put s.zones z { x with state := .quiet, latchA := false, latchB := false } })
  let u := if a then latch .detectorA { t.zones.get z with latchA := true } t else t
  let w := if b then latch .detectorB { u.zones.get z with latchB := true } u else u
  if a ∧ b then w.crossZoned z
  else if a ∨ b then
    handZone z (raise .zoneAlert (.zone z) (some (.named (if a then .detectorA else .detectorB))) { w with
      zones := put w.zones z { w.zones.get z with state := .alert } })
  else w

/-! ## Presses taken at the present time (R25, R26, R34 to R36) -/

/-- The duress deadline of a loop has been taken: DURESS, the evidence rule, and the freeze (R25, R34, R35). -/
def State.duressTaken (k : LoopId) (st : StationNo) (s : State) : State :=
  let x := s.loops.get k
  let t := raise .duress (.loop k) (some (.station st)) { s with
    loops := put s.loops k { x with state := if x.state = .pressed then .duress else .unresolvedDuress, duressDl := none } }
  let u :=
    match (s.loopSettings k).place st with
    | some v =>
      if (s.rooms.get v).listed = [] then
        (if (s.rooms.get v).evidence then id else reportE v)
          { t with rooms := put s.rooms v { s.rooms.get v with evidence := true } }
      else t
    | none => t
  if (s.loopSettings k).freeze = true ∧ s.freeze = false then raise .entryFreeze (.loop k) (some (.station st)) (setFreeze u) else u

/-- The stuck deadline of a loop has been taken (R26). -/
def State.stuckTaken (k : LoopId) (st : StationNo) (s : State) : State :=
  raise .stationStuck (.loop k) (some (.station st)) { s with
    loops := put s.loops k { s.loops.get k with state := .stuck, duressDl := none, stuckDl := none } }

/-! ## Vestibule records made and removed (R162; log entry 15) -/

/-- The vestibule that a role makes or removes stands empty, and whoever was in it is OUTSIDE. -/
def State.vestibuleCleared (r : Role) (s : State) : State :=
  match r with
  | .vestibuleOuter v =>
    { s with
      vests := put s.vests v { direction := .none, occupants := [] }
      locations := (s.vests.get v).occupants.foldl (fun l o => sparsePut .outside l o.slot .outside) s.locations }
  | _ => s

/-! ## Vestibule checks (R165, R167, R168) -/

/-- What the vestibule refuses to an entry grant at its outer door (R165). -/
def State.outerRefusal (s : State) (v : RoomId) : Option Reason :=
  if (s.vests.get v).direction = .outbound then some .direction
  else if 2 ≤ (s.vests.get v).occupants.length then some .vestibuleFull
  else if ¬s.secureAt (s.strongroomDoor v) then some .interlock
  else none

/-- What the vestibule refuses to an entry grant at its inner door (R167). -/
def State.innerRefusal (s : State) (v : RoomId) : Option Reason :=
  if (s.vests.get v).direction ≠ .inbound then some .direction
  else if ¬s.secureAt (s.outerDoor v) then some .interlock
  else none

/-- The first of steps 3 to 11 that refuses a found record at a single door, for this number of holders, the door's own grant record
set aside (R123, R124, R127, R133). -/
def State.singleRefusal (s : State) (d : DoorId) (v : RoomId) (holders : Nat) (slot : SlotId) (c : Credential) : Option Reason :=
  (s.entryRefusal v c).or
    (if s.location slot ≠ .outside then some .passback
      else if 16 < (s.rooms.get v).listed.length + holders then some .strongroomFull
      else if ¬s.doorReady d then some .doorUnavailable
      else none)

/-- The same at the outer door of a vestibule (R165, R168). -/
def State.outerStepRefusal (s : State) (d : DoorId) (v : RoomId) (holders : Nat) (slot : SlotId) (c : Credential) : Option Reason :=
  (s.entryRefusal v c).or
    (if s.location slot ≠ .outside then some .passback
      else if 16 < (s.rooms.get v).listed.length + (s.vests.get v).occupants.length + holders then some .strongroomFull
      else if ¬s.doorReady d then some .doorUnavailable
      else none)

/-- The same at the inner door of a vestibule, where every occupant is counted (R167, R168). -/
def State.innerStepRefusal (s : State) (d : DoorId) (v : RoomId) (slot : SlotId) (c : Credential) : Option Reason :=
  (s.entryRefusal v c).or
    (if ∀ o ∈ (s.vests.get v).occupants, o.slot ≠ slot then some .passback
      else if 16 < (s.rooms.get v).listed.length + (s.vests.get v).occupants.length then some .strongroomFull
      else if ¬s.doorReady d then some .doorUnavailable
      else none)

/-- The same at a perimeter door (R125, R133). -/
def State.perimeterStepRefusal (s : State) (d : DoorId) (c : Credential) : Option Reason :=
  (s.recordRefusal c c.flags.perimeter).or (if ¬s.doorReady d then some .doorUnavailable else none)

/-- What steps 2 to 11 give for a badge whose record, where it finds one, meets `refusal` (R113, R123, R133). -/
def State.verdictBy (s : State) (badge : Nat) (refusal : SlotId → Credential → Option Reason) : Verdict :=
  if s.conflicts badge then .deferred
  else
    match s.nv.findBadge badge with
    | none => .denied .unknownBadge
    | some (slot, c) =>
      match refusal slot c with
      | some why => .denied why
      | none => .passed slot c

/-- The first holder, in holder order, who is deferred or denied (R133, R168; log entry 8). -/
def firstStopped (verdict : Nat → Verdict) (holders : List Holder) : Option Verdict :=
  holders.findSome? (fun h =>
    match verdict h.badge with
    | .passed _ _ => none
    | .deferred => some .deferred
    | .denied why => some (.denied why))

/-! ## Shapes that every step keeps -/

/-- The bounds of the notice queue, the lost count, the masks and the transmit queue (R190, R193 to R197). -/
structure QueueBounds (s : State) : Prop where
  total   : s.link.notices.length ≤ 64
  nonLife : (s.link.notices.filter Notice.nonLife).length ≤ 48
  repeats : ∀ e ∈ s.link.notices, 1 ≤ e.repeats ∧ e.repeats ≤ 255
  lost    : s.link.lost ≤ 255
  masks   : ∀ k ∈ s.link.masks, k.cls ≠ .life
  busy    : (s.link.tx.filter (fun r => r.role = .busy)).length ≤ 3

/-- Every zone settings record that is stored or on its way to the store is in range, and no countdown exceeds its zone's
T_max (R39, R61, R71). -/
structure CountdownBounds (s : State) : Prop where
  stored  : ∀ z p, s.nv.zones.get z = some p → p.ok = true
  waiting : ∀ z p owed, .settings (.zone z p) owed ∈ s.store.host → p.ok = true
  running : ∀ z p owed dl, s.store.running = some ⟨.settings (.zone z p) owed, dl⟩ → p.ok = true
  bound   : ∀ z c, (s.zones.get z).countdown = some c → c.remaining ≤ (s.zoneSettings z).tMax * 1000

/-- When a zone has a countdown, and how its kind goes with the abort override (R38, R64). -/
structure CountdownShape (x : Zone) : Prop where
  present  : x.countdown.isSome = true ↔ x.state = .predischarge ∨ x.state = .held
  running  : ∀ c, x.state = .predischarge → x.countdown = some c → (c.kind = .manual ↔ x.override = true)
  held     : ∀ c, x.state = .held → x.countdown = some c → c.kind = .automatic
  clear    : x.state = .held ∨ x.state = .heldOccupied → x.override = false

/-- The week clock stays in its ranges and its mode is the derived one (R178, R183). -/
structure ClockShape (c : WeekClock) : Prop where
  minute : c.minute < 10080
  second : c.second < 60
  ms     : c.ms < 1000
  mode   : c.mode = modeGiven c

/-- The tables keep their canonical forms and their capacities, the four actuators of a zone among them (R79, R85, R86, R94, R162);
the two places of a vestibule are in VestibuleShape. -/
structure TablesShape (s : State) : Prop where
  locations   : sparseOk .outside s.locations = true
  credentials : sparseOk Credential.empty s.nv.credentials = true
  listed      : ∀ v, (s.rooms.get v).listed.length ≤ 16
  assumedOut  : ∀ v, (s.rooms.get v).assumedOut.length ≤ 8
  direction   : ∀ v, (s.vests.get v).direction = .none ↔ (s.vests.get v).occupants = []
  inFlight    : s.bank.inFlight.length ≤ 2
  pulseCount  : s.bank.pulseCount ≤ 6
  assigned    : ∀ z, ((every 32).filter (s.heldFor z)).length ≤ 4

/-- No two credential slots hold one badge, and the stage of a row under programming will not make it so (R112, R117). -/
structure BadgesUnique (s : State) : Prop where
  canonical  : sparseOk Credential.empty s.nv.credentials = true
  nonzero    : ∀ e ∈ s.nv.credentials, e.2.badge ≠ 0
  distinct   : ∀ e ∈ s.nv.credentials, ∀ f ∈ s.nv.credentials, e.2.badge = f.2.badge → e = f
  untouched  : ∀ row staged touched j,
    (s.stage = .opened row staged touched ∨ s.stage = .committing row staged touched) → touched.get j = false →
      staged.get j = s.nv.credential (rowSlot row j)
  committing : ∀ row staged touched, s.stage = .committing row staged touched → s.duplicates row staged = false

/-- The direction last commanded is the target of a motion under way (R138, R142). -/
def DriveFollowsBolt (x : Door) : Prop :=
  (∀ target dl, x.motion = .moving target dl → x.bolt = target) ∧
  (∀ retry dl, x.motion = .cooling retry dl → x.bolt = retry)

/-- A door record in the shape of its role (R138, R140, R142, R143, R145, R149). -/
structure DoorShape (r : Role) (x : Door) : Prop where
  follows     : DriveFollowsBolt x
  unused      : r = .unused → x.state = .secure ∧ x.mode = .automatic
  atRest      : x.state = .secure ∨ x.state = .released ∨ x.state = .opened ∨ x.state = .lineFault ∨ x.state = .driverLatched →
    x.motion = .idle
  withdrawing : x.state = .releasing → x.motion ≠ .idle
  withdrawn   : x.state = .releasing ∨ x.state = .released → x.bolt = .withdrawn
  thrown      : x.state = .secure ∨ x.state = .relocking ∨ x.state = .insecure → x.bolt = .thrown
  overlay     : x.mode = .manual → x.state = .manual ∨ x.state = .lineFault ∨ x.state = .driverLatched
  manual      : x.state = .manual → x.mode = .manual
  latched     : x.latch = true → r = .unused ∨ x.state = .lineFault ∨ x.state = .driverLatched
  latch       : x.state = .driverLatched → x.latch = true
  trips       : x.trips ≤ 5 ∧ (x.latch = false → x.trips ≤ 4)
  release     : x.releaseDl.isSome = true ↔ x.state = .released
  heldOpen    : x.heldOpenDl.isSome = true → x.state = .opened

/-- The doors in their shapes, and each with its grant: a releasing or released grant stands exactly in a door of that state, and a
waiting one is an entry grant with a holder (R129, R134, R145). -/
structure DoorsShape (s : State) : Prop where
  doors     : ∀ d, DoorShape (s.role d) (s.doors.get d)
  releasing : ∀ d, s.grantStage d = some .releasing ↔ (s.doors.get d).state = .releasing
  released  : ∀ d, s.grantStage d = some .released ↔ (s.doors.get d).state = .released
  waiting   : ∀ d g, s.grants.get d = some g → g.stage.waits = true → g.purpose = .entry ∧ g.holders ≠ []

/-- No strongroom has two doors of one role, nor will have by the SET_DOORs that wait in the store (R158; log entry 33). -/
structure RolesUnique (s : State) : Prop where
  inner : ∀ v d e, .strongroom v ∈ s.rolesAhead d → .strongroom v ∈ s.rolesAhead e → d = e
  outer : ∀ v d e, .vestibuleOuter v ∈ s.rolesAhead d → .vestibuleOuter v ∈ s.rolesAhead e → d = e

/-- The capacity of the vestibules, and what keeps it: the holders and room of the grants that bring an occupant in, and the
interlock of the two doors (R162, R164, R166, R170). -/
structure VestibuleShape (s : State) : Prop where
  capacity  : ∀ v, (s.vests.get v).occupants.length ≤ 2
  inbound   : ∀ v d g, s.role d = .vestibuleOuter v → s.grants.get d = some g → g.purpose = .entry →
    g.holders.length = 1 ∧ g.stage ≠ .awaitPartner ∧ (g.stage.waits = false → (s.vests.get v).occupants.length ≤ 1)
  outbound  : ∀ v d g, s.role d = .strongroom v → s.grants.get d = some g → g.purpose = .exit →
    g.holders.length = 1 ∧ (s.hasVestibule v = true → (s.vests.get v).occupants.length ≤ 1)
  interlock : ∀ v d e, s.role d = .strongroom v → s.role e = .vestibuleOuter v → ¬(s.grantMoving d = true ∧ s.grantMoving e = true)

/-- The byte completes a frame with an agreeing CRC whose request is the ZONE_DEISOLATE of a zone (R57, R187, R188). -/
def CompletesDeisolate (b : Byte) (z : ZoneId) (s : State) : Prop :=
  ∃ len got kind tag body, s.link.receiver = .body len got ∧ got.length + 1 = len + 2 ∧ crcAgrees len (got ++ [b]) = true ∧
    (got ++ [b]).take len = kind :: tag :: body ∧
    decodeRequest kind.toNat tag.toNat body = .request (.zoneDeisolate tag.toNat (number z))

/-- A state with every one of these shapes. -/
structure SafeState (s : State) : Prop where
  queue      : QueueBounds s
  bounds     : CountdownBounds s
  countdown  : ∀ z, CountdownShape (s.zones.get z)
  clock      : ClockShape s.clock
  tables     : TablesShape s
  badges     : BadgesUnique s
  drives     : ∀ d, DriveFollowsBolt (s.doors.get d)
  doors      : DoorsShape s
  vestibules : VestibuleShape s
  roles      : RolesUnique s

end Sys2Proof.Machine
end

