-- ==== Sys2Proof/Certificates/Slice0/Obligations.lean ====
section
/-! DEFINITION. Obligations: the statements for the provers, in the order of the chapters of spec/. A hypothesis on the
operands or the state stands before each conclusion; a test of Sys2Proof/Tests/Slice0.lean shows a state that meets it.
`entry <n>` is notes/assumptions/<n>.md. A request as a command stands for its valid frame (entry 6), and a deadline's command is
taken where its deadline is present and reached (entry 3): both are the model's choices, and the statements say them as hypotheses. -/

open Sys2Proof Sys2Proof.Machine

/-! ## The queue of commands and main power -/

/-- A step runs the command at the front of the queue; an empty queue idles (the model's choice, entry 2). -/
def Obligations.StepRunsFrontCommand : Prop :=
  (∀ (c : Instr) (rest : List Instr) (s : State), s.pending = c :: rest → step s = exec c { s with pending := rest }) ∧
  (∀ s : State, s.pending = [] → step s = .next s)

/-- Every command is performed in every state and leaves the queue of commands alone; without main power nothing but a start has
an effect (R201; the model's choice in entry 4). -/
def Obligations.EveryCommandAnswersNextState : Prop :=
  (∀ (c : Instr) (s : State), ∃ t, exec c s = .next t ∧ t.pending = s.pending) ∧
  (∀ (c : Instr) (s : State), s.powered = false → c ≠ .coldStart → (∀ ms, c ≠ .warmStart ms) → exec c s = .next s)

/-- A cold start sets every block to its start values and the retention domain to its cold values; a warm start keeps the
retention domain, and the clock has counted on while main power was off (R62, R93, R111, R161, R178, R203). The time off is an
operand: entry 7. A start with main power on, its running store operation then not written, is the model's choice: entry 4. -/
def Obligations.StartsSetStartValues : Prop :=
  (∀ s : State, ∃ t, exec .coldStart s = .next t ∧ StartValues .cold s t ∧
     (∀ v, (t.rooms.get v).listed = [] ∧ (t.rooms.get v).evidence = false ∧ (t.rooms.get v).assumedOut = []) ∧
     (∀ v, (t.rooms.get v).unknown = true ↔ ∃ d, s.role d = .strongroom v) ∧
     t.locations = [] ∧ (∀ v, t.vests.get v = ⟨.none, []⟩) ∧ t.freeze = false ∧
     t.clock.minute = 0 ∧ t.clock.second = 0 ∧ t.clock.ms = 0 ∧ t.clock.valid = false ∧ t.clock.override = .auto ∧
     t.clock.mode = .afterHours) ∧
  (∀ (s : State) (off : Nat), ∃ t, exec (.warmStart off) s = .next t ∧ StartValues .warm s t ∧ Retained s t ∧
     t.clock.total = (s.clock.total + off) % 604800000 ∧ ClockShape t.clock)

/-- Loss of main power: the running operation is wholly made or wholly not made, what waits is lost, the retention domain
stands, and every drive is off (R111, R201). Which of the two is an operand: entry 7. -/
def Obligations.PowerLossEndsOperationWhole : Prop :=
  ∀ (s : State) (written : Bool), s.powered = true → ∃ t, exec (.powerLoss written) s = .next t ∧
    t.powered = false ∧ Retained s t ∧ t.clock.total = s.clock.total ∧ t.pending = s.pending ∧
    (∀ r, s.store.running = some r → t.nv = if written then s.nv.writeOp s.stage r.op else s.nv) ∧
    (s.store.running = none → t.nv = s.nv) ∧
    t.store = ⟨none, [], []⟩ ∧ t.link.tx = [] ∧ t.link.notices = [] ∧
    (∀ d, (t.doors.get d).drive = none) ∧ (∀ a, (t.acts.get a).energised = false)

/-! ## Line supervision -/

/-- Codes and bands. The code of a resistance is 1023·R/(R + 4700) plus one half, rounded down, and 1023 for an open circuit; every
code has one place in a table whose bands lie apart: the band that holds it, or UNCLASSIFIED (R3, R5, R9). -/
def Obligations.CodesRoundAndBandsClassify : Prop :=
  (codeOf none = 1023 ∧
   (∀ r : Nat, codeOf (some r) ≤ 1023 ∧ 2 * codeOf (some r) * (r + 4700) ≤ 2 * 1023 * r + (r + 4700) ∧
     2 * 1023 * r + (r + 4700) < 2 * (codeOf (some r) + 1) * (r + 4700)) ∧
   (∀ q r : Nat, q ≤ r → codeOf (some q) ≤ codeOf (some r))) ∧
  (∀ (p : ClassParams) (code : Nat), bandsApart p.bands = true →
     (∀ r ∈ p.bands, r.low ≤ code → code ≤ r.high → p.classify code = r.band) ∧
     ((∀ r ∈ p.bands, ¬(r.low ≤ code ∧ code ≤ r.high)) → p.classify code = .unclassified))

/-- The end of a conversion stores code and stamp, and the stay test, the candidate and the confirm count decide the band; no
other line's record changes. After READY a confirmed band goes to the owner of the line with the band before it, LINE_FAULT or
LINE_RESTORED is raised, and a measurement answers the new band (R1, R3, R8 to R11, R16). Before READY the confirmation is held back with
its time and nothing else follows (R18; the end of settling itself: ThirdFullScanMakesReady). Time passes by conversions alone: the
model's choice, entry 1. That the owner acts before LINE_FAULT or LINE_RESTORED is raised is the model's choice too: entry 9. -/
def Obligations.ConversionUpdatesLineRecord : Prop :=
  (∀ (s : State) (ohms : Option Nat) (l : LineId) (p : ClassParams) (x : LineRecord) (b : Band) (n : Nat),
     s.powered = true → s.sup.converting.line = l → s.classParams (lineClass l) = p → s.lines.get l = x →
     p.classify (codeOf ohms) = b → (if x.candidate = some b then x.count + 1 else 1) = n →
     ∃ t, exec (.conversionEnd ohms) s = .next t ∧ t.quarters = s.quarters + 1 ∧
       (t.lines.get l).lastCode = some (codeOf ohms) ∧ (t.lines.get l).lastTime = some ((s.quarters + 1) / 4) ∧
       ((t.lines.get l).confirmed, (t.lines.get l).candidate, (t.lines.get l).count) =
         (if (∃ r ∈ p.bands, r.band = x.confirmed ∧ r.low - p.hysteresis ≤ codeOf ohms ∧ codeOf ohms ≤ r.high + p.hysteresis) ∨
             b = x.confirmed then (x.confirmed, none, 0)
           else if p.confirm ≤ n then (b, none, 0)
           else (x.confirmed, some b, n)) ∧
       (∀ m, m ≠ l →
         (t.lines.get m).confirmed = (s.lines.get m).confirmed ∧ (t.lines.get m).candidate = (s.lines.get m).candidate ∧
         (t.lines.get m).count = (s.lines.get m).count ∧ (t.lines.get m).lastCode = (s.lines.get m).lastCode ∧
         (t.lines.get m).lastTime = (s.lines.get m).lastTime) ∧
       (s.sup.ready = true → (t.lines.get l).confirmed ≠ x.confirmed →
         ∀ u, bandChange l b x.confirmed ((s.quarters + 1) / 4)
             { s.tick with
               lines := put s.lines l ⟨b, none, 0, some (codeOf ohms), some ((s.quarters + 1) / 4), x.heldAt⟩
               sup := { s.sup with fastFollow := t.sup.fastFollow } } = u →
         (s.sup.converting.grantor ≠ .measurement true ∨ s.link.outstanding = none → t = { u with sup := t.sup }) ∧
         (∀ r, s.sup.converting.grantor = .measurement true → s.link.outstanding = some r →
           t = { u with
             sup := t.sup
             link := { u.link with tx := u.link.tx ++ [⟨r.kind, r.tag, .ok,
               .measured l (codeOf ohms) (estimateOf (codeOf ohms)) b, .plain⟩] } })) ∧
       (s.sup.ready = false → t.sup.ready = false → (t.lines.get l).confirmed ≠ x.confirmed → ∀ u,
         { s.tick with
           lines := put s.lines l
             ⟨b, none, 0, some (codeOf ohms), some ((s.quarters + 1) / 4), some ((s.quarters + 1) / 4)⟩
           sup := t.sup } = u →
         (s.sup.converting.grantor ≠ .measurement true ∨ s.link.outstanding = none → t = u) ∧
         (∀ r, s.sup.converting.grantor = .measurement true → s.link.outstanding = some r →
           t = { u with link := { s.link with tx := s.link.tx ++ [⟨r.kind, r.tag, .ok,
             .measured l (codeOf ohms) (estimateOf (codeOf ohms)) b, .plain⟩] } })) ∧
       t.nv = s.nv ∧ t.stage = s.stage ∧ t.pending = s.pending) ∧
  (∀ (s : State) (l : LineId) (b previous : Band) (time : Nat),
     (∀ k, l = loopLine k → bandChange l b previous time s =
       (if b = .short ∨ b = .opened ∨ b = .unclassified then raise .lineFault (.line l) (some (.band b))
         else if previous = .short ∨ previous = .opened ∨ previous = .unclassified then
           raise .lineRestored (.line l) (some (.band b))
         else id) (loopChange k b time s)) ∧
     (∀ z, l = detectorALine z ∨ l = detectorBLine z ∨ l = stationLine z → bandChange l b previous time s =
       (if b = .short ∨ b = .openLine ∨ b = .unclassified then raise .lineFault (.line l) (some (.band b))
         else if previous = .short ∨ previous = .openLine ∨ previous = .unclassified then
           raise .lineRestored (.line l) (some (.band b))
         else id)
         (if l = stationLine z then stationChange z b s else detectorChange z (l = detectorBLine z) b s)) ∧
     (∀ d, l = doorLine d → bandChange l b previous time s =
       (if s.role d = .unused then id
         else if b = .short ∨ b = .openLine ∨ b = .unclassified then raise .lineFault (.line l) (some (.band b))
         else if previous = .short ∨ previous = .openLine ∨ previous = .unclassified then
           raise .lineRestored (.line l) (some (.band b))
         else id) (doorChange d b previous s)))

/-- A conversion that leaves the confirmed band, and does not end settling, reaches nothing but time, its line's record, the arbiter and
the reply of a measurement, where its request is outstanding; MEASURE_LINE takes the pending place (R10, R13, R16). Time moves on by one
conversion; at each fourth one the countdowns of PREDISCHARGE fall by 1 ms, every other zone stands, and the clock is at the next ms of
the week, a minute boundary falling due at second 0 of a new minute (R3, R64, R178, R179). That clock and countdowns step at the end of
a conversion is the model's choice: entry 1. -/
def Obligations.UnconfirmedConversionTouchesNothingElse : Prop :=
  (∀ (s t : State) (ohms : Option Nat) (l : LineId), s.powered = true → s.sup.converting.line = l →
     exec (.conversionEnd ohms) s = .next t → (t.lines.get l).confirmed = (s.lines.get l).confirmed →
     t.sup.ready = s.sup.ready →
     t = { s.tick with lines := t.lines, sup := t.sup, link := t.link } ∧
     t.link = { s.link with tx := t.link.tx } ∧ (∀ m, (t.lines.get m).heldAt = (s.lines.get m).heldAt) ∧
     (∀ r, s.sup.converting.grantor = .measurement true → s.link.outstanding = some r →
       t.link.tx = s.link.tx ++ [⟨r.kind, r.tag, .ok,
         .measured l (codeOf ohms) (estimateOf (codeOf ohms)) (s.lines.get l).confirmed, .plain⟩]) ∧
     (s.sup.converting.grantor ≠ .measurement true ∨ s.link.outstanding = none → t.link = s.link)) ∧
  (∀ (s : State) (tag : Nat) (l : LineId), s.free →
     exec (.measureLine tag l.val) s =
       .next { heard 0x03 tag s with sup := { s.sup with pending := some ⟨l, true⟩ } }) ∧

  ((∀ s : State, (s.quarters + 1) % 4 ≠ 0 → s.tick = { s with quarters := s.quarters + 1 }) ∧
   (∀ s : State, (s.quarters + 1) % 4 = 0 →
     s.tick = { s with quarters := s.quarters + 1, zones := s.tick.zones, clock := s.tick.clock } ∧
     (∀ z, s.tick.zones.get z = if (s.zones.get z).state = .predischarge then
         { s.zones.get z with
           countdown := (s.zones.get z).countdown.map (fun c : Countdown => ⟨c.kind, c.remaining - 1⟩) }
       else s.zones.get z) ∧
     (s.clock.ms < 999 → s.tick.clock = { s.clock with ms := s.clock.ms + 1 }) ∧
     (999 ≤ s.clock.ms → s.clock.second < 59 → s.tick.clock = { s.clock with ms := 0, second := s.clock.second + 1 }) ∧
     (999 ≤ s.clock.ms → 59 ≤ s.clock.second → s.tick.clock = { s.clock with
       ms := 0, second := 0, minute := if s.clock.minute < 10079 then s.clock.minute + 1 else 0, boundaryDue := true }) ∧
     (s.clock.minute < 10080 → s.clock.second < 60 → s.clock.ms < 1000 →
       s.tick.clock.total = (s.clock.total + 1) % 604800000 ∧
       (s.tick.clock.boundaryDue = true ↔ s.clock.boundaryDue = true ∨ s.tick.clock.minute ≠ s.clock.minute))))

/-- The arbiter takes the due fast-follow loop with the earliest due time and the lowest number, else the pending
measurement, else the scan at the first line from the pointer on that is not in fast-follow. It grants at the end of each conversion,
after the scan pointer has moved past a line it scanned and the loop of that line has entered, kept or left fast-follow (R13 to
R15, R18). A loop enters fast-follow only where its class has a NORMAL band: entry 11. -/
def Obligations.ArbiterGrantsInOrder : Prop :=
  (∀ (x : Supervisor) (now : Nat),
    ((∃ k dl, x.fastFollow.get k = some dl ∧ dl ≤ now) →
      ∃ k dl, (x.grant now) = { x with converting := ⟨loopLine k, .fastFollow⟩ } ∧ x.fastFollow.get k = some dl ∧ dl ≤ now ∧
        ∀ j u, x.fastFollow.get j = some u → u ≤ now → dl < u ∨ (dl = u ∧ k ≤ j)) ∧
    ((∀ k dl, x.fastFollow.get k = some dl → now < dl) →
      (∀ m, x.pending = some m →
        x.grant now = { x with converting := ⟨m.line, .measurement m.owed⟩, pending := none }) ∧
      (x.pending = none →
        ∃ (n : Nat) (l : LineId), l.val = (x.pointer.val + n) % 64 ∧ x.following l = false ∧
          (∀ (m : Nat) (j : LineId), m < n → j.val = (x.pointer.val + m) % 64 → x.following j = true) ∧
          x.grant now = { x with converting := ⟨l, .scan⟩, pointer := l }))) ∧
  (∀ (s t : State) (ohms : Option Nat), s.powered = true → exec (.conversionEnd ohms) s = .next t →
    ∃ follow : Vector (Option Nat) 8,
      t.sup = Supervisor.grant ((s.quarters + 1) / 4)
        { s.sup with
          fastFollow := follow
          pointer := if s.sup.converting.grantor = .scan then s.sup.pointer + 1 else s.sup.pointer
          fullScans := if s.sup.converting.grantor = .scan ∧ s.sup.pointer = 63 ∧ s.sup.ready = false then s.sup.fullScans + 1
            else s.sup.fullScans
          ready := s.sup.ready ||
            decide (s.sup.converting.grantor = .scan ∧ s.sup.pointer = 63 ∧ s.sup.fullScans + 1 = 3) } ∧
      (∀ k, loopLine k ≠ s.sup.converting.line → follow.get k = s.sup.fastFollow.get k) ∧
      (∀ (k : LoopId) (p : ClassParams) (before confirmed : Band) (stays : Bool), loopLine k = s.sup.converting.line →
        s.classParams .staff = p → (s.lines.get (loopLine k)).confirmed = before →
        (t.lines.get (loopLine k)).confirmed = confirmed →
        (stays = true ↔ ∃ r ∈ p.bands, r.band = .normal ∧ r.low - p.hysteresis ≤ codeOf ohms ∧ codeOf ohms ≤ r.high + p.hysteresis) →
        (before ≠ confirmed ∧ (confirmed = .normal ∨ confirmed = .short ∨ confirmed = .opened) ∨ before = .normal ∧ stays = true →
          follow.get k = none) ∧
        (before = confirmed ∨ confirmed ≠ .normal ∧ confirmed ≠ .short ∧ confirmed ≠ .opened → before ≠ .normal ∨ stays = false →
          ((s.sup.fastFollow.get k).isSome = true ∨ before = .normal ∧ (∃ r ∈ p.bands, r.band = .normal) →
            follow.get k = some ((s.quarters + 1) / 4 + 5)) ∧
          (s.sup.fastFollow.get k = none → before ≠ .normal ∨ (∀ r ∈ p.bands, r.band ≠ .normal) → follow.get k = none))))

/-- The end of the third full scan makes the part READY: every line that holds a confirmation back hands it over, in ascending
number, with previous band UNKNOWN and the time of its confirmation (R18, R19). -/
def Obligations.ThirdFullScanMakesReady : Prop :=
  ∀ (s : State) (ohms : Option Nat), s.powered = true → s.sup.ready = false → s.sup.fullScans = 2 → s.sup.pointer = 63 →
    s.sup.converting = ⟨63, .scan⟩ →
    ∃ t y, exec (.conversionEnd ohms) s = .next t ∧ t.sup.ready = true ∧ t.sup.fullScans = 3 ∧
      (∀ l, (t.lines.get l).heldAt = none) ∧
      (y.confirmed = (s.lines.get 63).confirmed → y.heldAt = (s.lines.get 63).heldAt) ∧
      (y.confirmed ≠ (s.lines.get 63).confirmed → y.heldAt = some ((s.quarters + 1) / 4)) ∧
      t.lines.get 63 = { y with heldAt := none } ∧ (∀ l, l ≠ 63 → t.lines.get l = { s.lines.get l with heldAt := none }) ∧
      t = { (every 64).foldl (fun u l =>
          match (u.lines.get l).heldAt with
          | some time =>
            bandChange l (u.lines.get l).confirmed .unknown time
              { u with lines := put u.lines l { u.lines.get l with heldAt := none } }
          | none => u)
          { s.tick with
            lines := put s.lines 63 y, sup := { s.sup with pointer := 0, fullScans := 3, ready := true } } with sup := t.sup } ∧
      t.nv = s.nv ∧ t.stage = s.stage ∧ t.pending = s.pending

/-- GET_LINE (R17). -/
def Obligations.GetLineReportsRecord : Prop :=
  ∀ (s : State) (tag n : Nat), s.free →
    (∀ l : LineId, l.val = n →
      exec (.getLine tag n) s = .next ((heard 0x02 tag s).withReply 0x02 tag .ok
        (.line ⟨lineClass l, (s.lines.get l).confirmed, (s.lines.get l).candidate, (s.lines.get l).count,
          (s.lines.get l).lastCode, (s.lines.get l).lastTime,
          match loopOfLine l with
          | some k => some (s.sup.fastFollow.get k).isSome
          | none => none⟩))) ∧
    (64 ≤ n → exec (.getLine tag n) s = .next ((heard 0x02 tag s).withReply 0x02 tag .badValue .none))

/-! ## Staff loops -/

/-- A press reaches its duress deadline, and one whose duress has been taken its stuck deadline, each as of the deadline's own time
(R25, R26, R32, R34, R35): DURESS is raised, a strongroom that lists nobody takes its evidence, and a loop that freezes entry sets
the overlay with ENTRY_FREEZE where it was clear. The clock's time at an earlier deadline is reckoned back from the present: entry 11. -/
def Obligations.LoopDeadlinesTakeDuressAndStuck : Prop :=
  (∀ (s : State) (k : LoopId) (x : Loop) (dl : Nat) (st : StationNo) (place : Option RoomId),
     s.powered = true → s.loops.get k = x → x.state = .pressed ∨ x.state = .unresolved → x.duressDl = some dl → dl ≤ s.now →
     x.station = some st → (s.loopSettings k).place st = place →
     ∃ t, exec (.duressDeadline k) s = .next t ∧
       t.loops.get k = { x with state := if x.state = .pressed then .duress else .unresolvedDuress, duressDl := none } ∧
       (∀ j, j ≠ k → t.loops.get j = s.loops.get j) ∧
       t.freeze = (s.freeze || (s.loopSettings k).freeze) ∧
       (∀ v, place = some v → (s.rooms.get v).listed = [] → (t.rooms.get v).evidence = true) ∧
       (∀ u w,
         raise .duress (.loop k) (some (.station st))
           { s.asAt dl with
             loops := put s.loops k
               { x with state := if x.state = .pressed then .duress else .unresolvedDuress, duressDl := none } } = u →
         (match place with
           | some v =>
             if (s.rooms.get v).listed = [] then
               (if (s.rooms.get v).evidence then id else reportE v)
                 { u with rooms := put s.rooms v { s.rooms.get v with evidence := true } }
             else u
           | none => u) = w →
         t = { (if (s.loopSettings k).freeze = true ∧ s.freeze = false then
               raise .entryFreeze (.loop k) (some (.station st)) (setFreeze w)
             else w) with quarters := s.quarters, clock := s.clock }) ∧
       t = { s with
         loops := t.loops, freeze := t.freeze, rooms := t.rooms, zones := t.zones, grants := t.grants, doors := t.doors,
         vests := t.vests, locations := t.locations, link := t.link }) ∧
  (∀ (s : State) (k : LoopId) (x : Loop) (dl : Nat) (st : StationNo),
     s.powered = true → s.loops.get k = x → x.state = .duress ∨ x.state = .unresolvedDuress → x.duressDl = none →
     x.stuckDl = some dl → dl ≤ s.now → x.station = some st →
     exec (.stuckDeadline k) s = .next { s with
       loops := put s.loops k { x with state := .stuck, stuckDl := none }
       link := (raise .stationStuck (.loop k) (some (.station st)) (s.asAt dl)).link }) ∧
  (∀ (s : State) (dl : Nat), dl ≤ s.now → (s.asAt dl).now = dl)

/-- The end of a press is a bounce below T_err, and else a call or, in PROMPT, a check-in; a call from a strongroom under
observation begins its interval again, and one from a strongroom that lists nobody is evidence; a duress is only released
(R27, R28, R33, R34, R103, R108). That a released press leaves no press-confirmation time is the model's choice: entry 24. -/
def Obligations.ReleasedPressIsClassified : Prop :=
  ∀ (s : State) (k : LoopId) (x : Loop) (t0 t1 : Nat) (st : StationNo),
    s.loops.get k = x → x.pressAt = some t0 → x.station = some st → dueBy t1 x.duressDl = false → dueBy t1 x.stuckDl = false →
    (x.state = .pressed ∨ x.state = .unresolved → t1 - t0 < (s.loopSettings k).tErr →
      loopChange k .normal t1 s =
        { raise .stationBounce (.loop k) (some (.station st)) s with loops := put s.loops k Loop.start }) ∧
    (x.state = .pressed ∨ x.state = .unresolved → (s.loopSettings k).tErr ≤ t1 - t0 → (s.loopSettings k).place st = none →
      loopChange k .normal t1 s =
        { raise .stationCall (.loop k) (some (.station st)) s with loops := put s.loops k Loop.start }) ∧
    (∀ v e dl, x.state = .pressed → (s.loopSettings k).tErr ≤ t1 - t0 → (s.loopSettings k).place st = some v →
      (s.rooms.get v).listed = [e] → (s.rooms.get v).lone = .prompt dl →
      loopChange k .normal t1 s =
        { raise .checkIn (.loop k) (some (.station st)) s with
          loops := put s.loops k Loop.start
          rooms := put s.rooms v { s.rooms.get v with lone := .running (s.now + s.loneIntervalMs v) } }) ∧
    (∀ v lone, x.state = .pressed → (s.loopSettings k).tErr ≤ t1 - t0 → (s.loopSettings k).place st = some v →
      ((s.rooms.get v).lone = .off ∧ lone = Lone.off ∨
        (∃ dl, (s.rooms.get v).lone = .running dl) ∧ lone = .running (s.now + s.loneIntervalMs v)) →
      ((s.rooms.get v).listed ≠ [] →
        loopChange k .normal t1 s =
          { raise .stationCall (.loop k) (some (.station st)) s with
            loops := put s.loops k Loop.start, rooms := put s.rooms v { s.rooms.get v with lone := lone } }) ∧
      ((s.rooms.get v).listed = [] →
        loopChange k .normal t1 s =
          { (if (s.rooms.get v).evidence then id else reportE v)
              { raise .stationCall (.loop k) (some (.station st)) s with
                rooms := put s.rooms v { s.rooms.get v with lone := lone, evidence := true } } with
            loops := put s.loops k Loop.start })) ∧
    (x.state = .duress ∨ x.state = .unresolvedDuress →
      loopChange k .normal t1 s =
        { raise .duressRelease (.loop k) (some (.station st)) s with loops := put s.loops k Loop.start })

/-- What a loop makes of each band in each of its states: a press begins, a change of station ends one press and begins another, a
faulted line ends a press unclassified, and a faulted or stuck loop waits for NORMAL; a deadline that the band's confirmation time
has passed is taken first, as its own event takes it (R22, R24, R26, R29 to R32). That a faulted loop leaves no press-confirmation
time is the model's choice: entry 24; the own time of a deadline: entry 11. -/
def Obligations.LoopTakesBandsInOrder : Prop :=
  (∀ (s : State) (k : LoopId) (x : Loop) (t1 : Nat), s.loops.get k = x → dueBy t1 x.duressDl = false → dueBy t1 x.stuckDl = false →
    (∀ (b : Band) (st : StationNo) (press : Loop),
      (∃ j : Fin 6, b = .station j ∧ st.val = j.val + 1) ∨ b = .unclassified ∧ st = 0 →
      ⟨if b = .unclassified then .unresolved else .pressed, some st, some t1, some (t1 + (s.loopSettings k).tDuress),
        some (t1 + (s.loopSettings k).tStuck * 1000)⟩ = press →
      (x.state = .idle → loopChange k b t1 s = { s with loops := put s.loops k press }) ∧
      (x.state = .pressed ∨ x.state = .duress ∨ x.state = .unresolved ∨ x.state = .unresolvedDuress →
        (x.station ≠ some st → loopChange k b t1 s = { loopChange k .normal t1 s with loops := put s.loops k press }) ∧
        (x.station = some st → loopChange k b t1 s = s)) ∧
      (x.state = .fault ∨ x.state = .stuck → loopChange k b t1 s = s)) ∧
    (∀ b, b = .short ∨ b = .opened →
      (x.state = .fault ∨ x.state = .stuck → loopChange k b t1 s = s) ∧
      (x.state ≠ .fault → x.state ≠ .stuck →
        loopChange k b t1 s = { s with loops := put s.loops k ⟨.fault, none, none, none, none⟩ })) ∧
    (x.state = .idle → loopChange k .normal t1 s = s) ∧
    (x.state = .fault → loopChange k .normal t1 s = { s with loops := put s.loops k ⟨.idle, none, none, none, none⟩ }) ∧
    (∀ st, x.state = .stuck → x.station = some st → loopChange k .normal t1 s =
      { raise .stationRecovered (.loop k) (some (.station st)) s with loops := put s.loops k ⟨.idle, none, none, none, none⟩ })) ∧
  (∀ (s : State) (k : LoopId) (b : Band) (t1 dl : Nat), s.powered = true → dl ≤ t1 → t1 ≤ s.now →
    ((s.loops.get k).duressDl = some dl →
      ∃ u, exec (.duressDeadline k) s = .next u ∧ loopChange k b t1 s = loopChange k b t1 u) ∧
    ((s.loops.get k).duressDl = none → (s.loops.get k).stuckDl = some dl →
      ∃ u, exec (.stuckDeadline k) s = .next u ∧ loopChange k b t1 s = loopChange k b t1 u))

/-! ## Suppression zones -/

/-- A countdown at zero holds the release for an occupied strongroom, or releases; the occupied-hold limit releases whatever E is, and a
report of E = 0 releases too (R49, R50, R73, R75, R76). The next state is given in full: the entry to RELEASE with its notices and its
marks, the doors found not SECURE, the actuators and the hand-over to grants and doors (R51, R53, R59, R84; `handZone` by
FreezeCancelsEntryGrants). The order of what it hands to other blocks: entry 9. -/
def Obligations.CountdownAndHoldEndsRelease : Prop :=
  (∀ (s : State) (z : ZoneId) (kind : CountdownKind), s.powered = true → (s.zones.get z).state = .predischarge →
     (s.zones.get z).countdown = some ⟨kind, 0⟩ →
     ∃ t, exec (.countdownExpiry z) s = .next t ∧
       (kind = .automatic ∧ (s.zoneSettings z).hold = true ∧ 1 ≤ (s.rooms.get z).effective →
         t = { s with zones := t.zones, grants := t.grants, doors := t.doors, vests := t.vests, locations := t.locations,
                      link := t.link } ∧
         t.zones = put s.zones z { s.zones.get z with
           state := .heldOccupied, countdown := none, holdDl := some (s.now + (s.zoneSettings z).limit * 1000) }) ∧
       (¬(kind = .automatic ∧ (s.zoneSettings z).hold = true ∧ 1 ≤ (s.rooms.get z).effective) →
         EntersRelease z s t ∧
         t = { s with zones := t.zones, acts := t.acts, bank := t.bank, store := t.store, grants := t.grants,
                      doors := t.doors, vests := t.vests, locations := t.locations, link := t.link }) ∧
       t = s.expiryTaken z kind) ∧
  (∀ (s : State) (z : ZoneId) (dl : Nat), s.powered = true → (s.zones.get z).state = .heldOccupied →
     (s.zones.get z).holdDl = some dl → dl ≤ s.now →
     ∃ t, exec (.holdDeadline z) s = .next t ∧ EntersRelease z s t ∧ t = s.releaseEntered z ∧
       t = { s with zones := t.zones, acts := t.acts, bank := t.bank, store := t.store, grants := t.grants,
                    doors := t.doors, vests := t.vests, locations := t.locations, link := t.link }) ∧
  (∀ (s : State) (z : ZoneId), (s.zones.get z).state = .heldOccupied → (s.rooms.get z).effective = 0 →
     reportE z s = s.releaseEntered z)

/-- A report of E to a zone in HELD_OCCUPIED (R75). -/
def Obligations.OccupancyReportEndsOccupiedHold : Prop :=
  ∀ (s : State) (z : ZoneId), (s.zones.get z).state = .heldOccupied →
    ((s.rooms.get z).effective = 0 → EntersRelease z s (reportE z s)) ∧
    (0 < (s.rooms.get z).effective → reportE z s = s)

/-- A detector line sets the degraded flag and, in ALARM, the latch of its detector. The first latch of a QUIET zone makes it ALERT; the
second latch of an alerting zone begins an automatic countdown, or holds it where the abort is held, and takes its expiry at once where
it begins at 0 ms; in every later state, and in ISOLATED, a latch moves nothing. Each change of state is given in full, with its
hand-over to grants and doors (`handZone` by FreezeCancelsEntryGrants). A report of E to an automatic countdown extends it by what lies
above the peak, up to T_max, and leaves a manual one alone (R40 to R43, R59, R65, R68, R69, R72). Before READY the zone has the
station's band as UNKNOWN: entry 25. Notices before the hand-over: entry 9. -/
def Obligations.AutomaticCountdownBeginsAndGrows : Prop :=
  (∀ (s : State) (z : ZoneId) (isB : Bool) (b : Band),
     detectorChange z isB b s = (if b = .alarm then detectorAlarm z isB else id)
       { s with zones := put s.zones z { s.zones.get z with
         degraded := decide (s.band (detectorALine z) = .short ∨ s.band (detectorALine z) = .openLine ∨
           s.band (detectorALine z) = .unclassified ∨ s.band (detectorBLine z) = .short ∨
           s.band (detectorBLine z) = .openLine ∨ s.band (detectorBLine z) = .unclassified) } }) ∧
  (∀ (s : State) (z : ZoneId) (isB : Bool) (x : Zone) (name : Named), s.zones.get z = x →
     (if isB then Named.detectorB else .detectorA) = name →
     ((if isB then x.latchB else x.latchA) = true → detectorAlarm z isB s = s) ∧
     (x.state = .quiet → x.latchA = false → x.latchB = false → ∀ t, detectorAlarm z isB s = t →
       t.zones = put s.zones z { x with state := .alert, latchA := !isB, latchB := isB } ∧
       t = { s with zones := t.zones, grants := t.grants, doors := t.doors, vests := t.vests, locations := t.locations,
                    link := t.link } ∧
       ((∀ d, s.grants.get d = none) →
         t = { raise .zoneAlert (.zone z) (some (.named name)) (raise .detectorLatched (.zone z) (some (.named name)) s) with
           zones := t.zones }) ∧
       t = handZone z (raise .zoneAlert (.zone z) (some (.named name)) (raise .detectorLatched (.zone z) (some (.named name)) { s with
         zones := put s.zones z { x with state := .alert, latchA := !isB, latchB := isB } }))) ∧
     (x.state = .alert → (if isB then x.latchA else x.latchB) = true → (if isB then x.latchB else x.latchA) = false →
       detectorAlarm z isB s = (raise .detectorLatched (.zone z) (some (.named name)) { s with
         zones := put s.zones z { x with latchA := true, latchB := true } }).crossZoned z) ∧
     ((if isB then x.latchB else x.latchA) = false → x.state ≠ .quiet → x.state ≠ .alert →
       detectorAlarm z isB s = { raise .detectorLatched (.zone z) (some (.named name)) s with
         zones := put s.zones z { x with latchA := x.latchA || !isB, latchB := x.latchB || isB } })) ∧
  (∀ (s : State) (z : ZoneId) (isB : Bool) (e left : Nat), (s.zones.get z).state = .alert →
     (if isB then (s.zones.get z).latchA else (s.zones.get z).latchB) = true →
     (if isB then (s.zones.get z).latchB else (s.zones.get z).latchA) = false → (s.rooms.get z).effective = e →
     min ((s.zoneSettings z).tMax * 1000) (((s.zoneSettings z).base + (s.zoneSettings z).ext * e) * 1000) = left → 0 < left →
     ∀ t, detectorAlarm z isB s = t →
     t.zones = put s.zones z { s.zones.get z with
       state := if s.ownBand (stationLine z) = .abort then .held else .predischarge
       latchA := true, latchB := true, override := false, peak := e
       holdDl := if s.ownBand (stationLine z) = .abort then none else (s.zones.get z).holdDl
       countdown := some ⟨.automatic, left⟩ } ∧
     t = { s with zones := t.zones, grants := t.grants, doors := t.doors, vests := t.vests, locations := t.locations,
                  link := t.link }) ∧
  (∀ (s : State) (z : ZoneId) (kind : CountdownKind) (left e : Nat),
     (s.zones.get z).state = .predischarge ∨ (s.zones.get z).state = .held →
     (s.zones.get z).countdown = some ⟨kind, left⟩ → (s.rooms.get z).effective = e →
     (kind = .automatic → (s.zones.get z).peak < e →
       reportE z s = { s with zones := put s.zones z { s.zones.get z with
         peak := e
         countdown := some ⟨.automatic,
           min ((s.zoneSettings z).tMax * 1000) (left + (s.zoneSettings z).ext * 1000 * (e - (s.zones.get z).peak))⟩ } }) ∧
     (kind = .manual ∨ e ≤ (s.zones.get z).peak → reportE z s = s)) ∧
  (∀ (s : State) (z : ZoneId), (s.zones.get z).state ≠ .predischarge → (s.zones.get z).state ≠ .held →
     (s.zones.get z).state ≠ .heldOccupied → reportE z s = s)

/-- What a confirmed band of its station line does to a zone: ABORT holds an automatic countdown or an occupied hold, NORMAL or a
line fault ends a hold with at least T_resume left, MANUAL is a manual release by the zone's state; in every other state ABORT and the
end of a hold change nothing (R44, R45, R47, R48, R66, R67, R70). The next states are given in full, with the hand-over to grants and
doors and with the expiry of a countdown entered at 0 ms (R59, R72, R73; `handZone` by FreezeCancelsEntryGrants). A MANUAL on a
countdown that is MANUAL already, above a T_man lowered meanwhile: entry 30; the notice before the hand-over: entry 9. -/
def Obligations.StationBandsHoldAndResume : Prop :=
  ∀ (s : State) (z : ZoneId), ∀ x, s.zones.get z = x →
    (∀ t, stationChange z .abort s = t → ∀ y,
      (match x.state, x.countdown with
        | .predischarge, some c => if x.override then none else some { x with state := .held, countdown := some c, holdDl := none }
        | .heldOccupied, _ => some { x with state := .held, countdown := some ⟨.automatic, 0⟩, holdDl := none }
        | _, _ => none) = some y →
      t.zones = put s.zones z y ∧
      t = handZone z (raise .zoneHeld (.zone z) none { s with zones := put s.zones z y }) ∧
      t = { s with zones := t.zones, grants := t.grants, doors := t.doors, vests := t.vests, locations := t.locations,
                   link := t.link }) ∧
    ((x.state ≠ .predischarge ∨ x.override = true) → x.state ≠ .heldOccupied → stationChange z .abort s = s) ∧
    (∀ b, b = .normal ∨ b = .short ∨ b = .openLine ∨ b = .unclassified →
      (∀ c, x.state = .held → x.countdown = some c →
        stationChange z b s = s.countdownEntered z x ⟨c.kind, max c.remaining ((s.zoneSettings z).tResume * 1000)⟩ .resume) ∧
      (∀ c, x.state = .held → x.countdown = some c → 0 < max c.remaining ((s.zoneSettings z).tResume * 1000) →
        ∀ t, stationChange z b s = t →
        t.zones = put s.zones z { x with
          state := .predischarge
          countdown := some ⟨c.kind, max c.remaining ((s.zoneSettings z).tResume * 1000)⟩ } ∧
        t = { s with zones := t.zones, grants := t.grants, doors := t.doors, vests := t.vests, locations := t.locations,
                     link := t.link }) ∧
      (x.state ≠ .held → stationChange z b s = s)) ∧
    (x.state = .quiet ∨ x.state = .alert → 0 < (s.zoneSettings z).tMan → ∀ t, stationChange z .manual s = t →
      t.zones = put s.zones z { x with
        state := .predischarge, override := true, peak := 0, countdown := some ⟨.manual, (s.zoneSettings z).tMan * 1000⟩ } ∧
      t = { s with zones := t.zones, grants := t.grants, doors := t.doors, vests := t.vests, locations := t.locations,
                   link := t.link }) ∧
    (x.state = .quiet ∨ x.state = .alert →
      stationChange z .manual s =
        s.countdownEntered z { x with override := true, peak := 0 } ⟨.manual, (s.zoneSettings z).tMan * 1000⟩ .manual) ∧
    (∀ c, x.state = .predischarge ∨ x.state = .held → x.countdown = some c →
      stationChange z .manual s =
        s.countdownEntered z { x with override := true } ⟨.manual, min c.remaining ((s.zoneSettings z).tMan * 1000)⟩ .manual) ∧
    (x.state = .heldOccupied → stationChange z .manual s = s.releaseEntered z) ∧
    (x.state = .isolated → stationChange z .manual s = raise .releaseIgnored (.zone z) none s) ∧
    (x.state = .release ∨ x.state = .soak ∨ x.state = .vent ∨ x.state = .discharged ∨ x.state = .releaseFailed →
      stationChange z .manual s = s)

/-- RELEASE_ZONE is a manual release, answered OK where it is taken (R45, R46, R66, R67). The next state is given in full, with the
hand-over to grants and doors, the expiry taken at once where the countdown is entered at 0 ms, and the entry to RELEASE (R50, R51, R59,
R72; `handZone` by FreezeCancelsEntryGrants). On a countdown that is MANUAL already, and above a T_man lowered meanwhile, the smaller of
the two is the model's choice: entry 30; the notice before the hand-over: entry 9. -/
def Obligations.ReleaseZoneActsByState : Prop :=
  (∀ (s : State) (tag : Nat) (z : ZoneId) (man : Nat), s.free → (s.zoneSettings z).tMan * 1000 = man → 0 < man →
    ∃ t, exec (.releaseZone tag (number z)) s = .next t ∧
      ((s.zones.get z).state = .quiet ∨ (s.zones.get z).state = .alert →
        t.zones = put s.zones z { s.zones.get z with
          state := .predischarge, override := true, peak := 0, countdown := some ⟨.manual, man⟩ }) ∧
      (∀ c, (s.zones.get z).state = .predischarge ∨ (s.zones.get z).state = .held → (s.zones.get z).countdown = some c →
        0 < c.remaining →
        t.zones = put s.zones z { s.zones.get z with
          state := .predischarge, override := true, countdown := some ⟨.manual, min c.remaining man⟩ }) ∧
      ((s.zones.get z).state = .heldOccupied → EntersRelease z s t) ∧
      ((s.zones.get z).state = .quiet ∨ (s.zones.get z).state = .alert ∨ (s.zones.get z).state = .predischarge ∨
        (s.zones.get z).state = .held ∨ (s.zones.get z).state = .heldOccupied →
        t.link.tx.getLast? = some ⟨0x43, tag, .ok, .none, .plain⟩) ∧
      ((s.zones.get z).state = .isolated →
        t = (raise .releaseIgnored (.zone z) none (heard 0x43 tag s)).withReply 0x43 tag .badState .none) ∧
      ((s.zones.get z).state = .release ∨ (s.zones.get z).state = .soak ∨ (s.zones.get z).state = .vent ∨
        (s.zones.get z).state = .discharged ∨ (s.zones.get z).state = .releaseFailed →
        t = (heard 0x43 tag s).withReply 0x43 tag .badState .none) ∧
      t = { s with
        hostPresent := true, zones := t.zones, acts := t.acts, bank := t.bank, store := t.store, grants := t.grants,
        doors := t.doors, vests := t.vests, locations := t.locations, link := t.link }) ∧
  (∀ (s : State) (tag : Nat) (z : ZoneId) (x : Zone), s.free → s.zones.get z = x →
    (x.state = .quiet ∨ x.state = .alert →
      exec (.releaseZone tag (number z)) s = .next (((heard 0x43 tag s).countdownEntered z { x with override := true, peak := 0 }
        ⟨.manual, (s.zoneSettings z).tMan * 1000⟩ .manual).withReply 0x43 tag .ok .none)) ∧
    (∀ c, x.state = .predischarge ∨ x.state = .held → x.countdown = some c →
      exec (.releaseZone tag (number z)) s = .next (((heard 0x43 tag s).countdownEntered z { x with override := true }
        ⟨.manual, min c.remaining ((s.zoneSettings z).tMan * 1000)⟩ .manual).withReply 0x43 tag .ok .none)) ∧
    (x.state = .heldOccupied →
      exec (.releaseZone tag (number z)) s = .next (((heard 0x43 tag s).releaseEntered z).withReply 0x43 tag .ok .none)))

/-- After the agent: SOAK ends in VENT and VENT in DISCHARGED. ZONE_ISOLATE takes a zone in QUIET or ALERT out of service;
ZONE_RESET and ZONE_DEISOLATE return it to QUIET, from where each detector still in ALARM latches again; in every other state each of
the three is refused BAD_STATE (R42, R43, R53 to R57). The next states are given in full, with the hand-over to grants and doors and
with the expiry of a countdown that begins at 0 ms (R59, R72; `handZone` by FreezeCancelsEntryGrants). Before READY a zone has each of
its bands as UNKNOWN: entry 25. Notices before the hand-over: entry 9; detector A before B: entry 32. -/
def Obligations.SoakVentResetAndIsolationMoveTheZone : Prop :=
  (∀ (s : State) (z : ZoneId) (dl : Nat), s.powered = true → (s.zones.get z).stageDl = some dl → dl ≤ s.now →
     ((s.zones.get z).state = .soak →
       ∃ t, exec (.soakExpiry z) s = .next t ∧
         t = { s with zones := t.zones, grants := t.grants, doors := t.doors, vests := t.vests, locations := t.locations,
                      link := t.link } ∧
         t.zones = put s.zones z { s.zones.get z with
           state := .vent, stageDl := some (s.now + (s.zoneSettings z).vent * 60000) } ∧
         t = handZone z { s with zones := t.zones }) ∧
     ((s.zones.get z).state = .vent →
       ∃ t, exec (.ventExpiry z) s = .next t ∧
         t = { s with zones := t.zones, grants := t.grants, doors := t.doors, vests := t.vests, locations := t.locations,
                      link := t.link } ∧
         t.zones = put s.zones z { s.zones.get z with state := .discharged, stageDl := none } ∧
         t = handZone z (raise .zoneVentEnd (.zone z) none { s with zones := t.zones }))) ∧
  (∀ (s : State) (tag : Nat) (z : ZoneId), s.free →
     (s.zones.get z).state = .quiet ∨ (s.zones.get z).state = .alert →
     ∃ t, exec (.zoneIsolate tag (number z)) s = .next t ∧
       t.zones = put s.zones z { s.zones.get z with state := .isolated, isolate := true } ∧
       t.store = markQueued (.isolate z) true s ∧ t.link.tx.getLast? = some ⟨0x40, tag, .ok, .none, .plain⟩ ∧
       t = { s with
         hostPresent := true, zones := t.zones, store := t.store, grants := t.grants, doors := t.doors, vests := t.vests,
         locations := t.locations, link := t.link } ∧
       t = (handZone z (raise .zoneIsolated (.zone z) none { heard 0x40 tag s with zones := t.zones, store := t.store })).withReply
         0x40 tag .ok .none) ∧
  (∀ (s : State) (tag : Nat) (z : ZoneId) (a b held : Bool) (e left : Nat), s.free →
     (a = true ↔ s.ownBand (detectorALine z) = .alarm) → (b = true ↔ s.ownBand (detectorBLine z) = .alarm) →
     (held = true ↔ s.ownBand (stationLine z) = .abort) → (s.rooms.get z).effective = e →
     min ((s.zoneSettings z).tMax * 1000) (((s.zoneSettings z).base + (s.zoneSettings z).ext * e) * 1000) = left →
     a = false ∨ b = false ∨ 0 < left → ∀ x, s.zones.get z = x →
     (x.state = .alert →
       ∃ t, exec (.zoneReset tag (number z)) s = .next t ∧ t.store = s.store ∧
         t.zones = put s.zones z (x.relatched a b held e left) ∧ t.link.tx.getLast? = some ⟨0x42, tag, .ok, .none, .plain⟩ ∧
         t = { s with hostPresent := true, zones := t.zones, grants := t.grants, doors := t.doors, vests := t.vests,
                      locations := t.locations, link := t.link }) ∧
     (x.state = .discharged ∨ x.state = .releaseFailed →
       ∃ t, exec (.zoneReset tag (number z)) s = .next t ∧ t.store = markQueued (.discharge z) false s ∧
         t.zones = put s.zones z ({ x with discharge := false, override := false }.relatched a b held e left) ∧
         t.link.tx.getLast? = some ⟨0x42, tag, .ok, .none, .plain⟩ ∧
         t = { s with hostPresent := true, zones := t.zones, store := t.store, grants := t.grants, doors := t.doors,
                      vests := t.vests, locations := t.locations, link := t.link }) ∧
     (x.state = .isolated →
       ∃ t, exec (.zoneDeisolate tag (number z)) s = .next t ∧ t.store = markQueued (.isolate z) false s ∧
         t.zones = put s.zones z ({ x with isolate := false, override := false }.relatched a b held e left) ∧
         t.link.tx.getLast? = some ⟨0x41, tag, .ok, .none, .plain⟩ ∧
         t = { s with hostPresent := true, zones := t.zones, store := t.store, grants := t.grants, doors := t.doors,
                      vests := t.vests, locations := t.locations, link := t.link })) ∧

  (∀ (s : State) (tag : Nat) (z : ZoneId), s.free → ∀ x, s.zones.get z = x →
     (x.state = .alert →
       exec (.zoneReset tag (number z)) s = .next (((heard 0x42 tag s).quietEntered z x).withReply 0x42 tag .ok .none)) ∧
     (x.state = .discharged ∨ x.state = .releaseFailed →
       exec (.zoneReset tag (number z)) s = .next ((({ heard 0x42 tag s with
         store := markQueued (.discharge z) false s }).quietEntered z
           { x with discharge := false, override := false }).withReply 0x42 tag .ok .none)) ∧
     (x.state ≠ .alert → x.state ≠ .discharged → x.state ≠ .releaseFailed →
       exec (.zoneReset tag (number z)) s = .next ((heard 0x42 tag s).withReply 0x42 tag .badState .none)) ∧
     (x.state = .isolated →
       exec (.zoneDeisolate tag (number z)) s = .next ((({ heard 0x41 tag s with
         store := markQueued (.isolate z) false s }).quietEntered z
           { x with isolate := false, override := false }).withReply 0x41 tag .ok .none)) ∧
     (x.state ≠ .isolated →
       exec (.zoneDeisolate tag (number z)) s = .next ((heard 0x41 tag s).withReply 0x41 tag .badState .none)) ∧
     (x.state ≠ .quiet → x.state ≠ .alert →
       exec (.zoneIsolate tag (number z)) s = .next ((heard 0x40 tag s).withReply 0x40 tag .badState .none)))

/-! ## Release actuators -/

/-- The end of a pulse: FIRED with coil current, else two retries at the tail of the queue and then FAILED (R52, R86 to R88, R90). The
next state is given in full: the conclusion of the release with its hand-over to grants and doors, the assignment the store now holds,
the pause test, the pulse grant, and the tests that suspension held back (R59, R81, R82, R85, R86; `handZone` by
FreezeCancelsEntryGrants). Notices before the hand-over: entry 9. -/
def Obligations.PulseEndConcludesOrRetries : Prop :=
  (∀ (s : State) (a : ActId) (coils : Vector TestResult 32) (dl : Nat) (z : ZoneId) (rest : List ActId),
     s.powered = true → (s.acts.get a).state = .firing → (s.acts.get a).pulseEnd = some dl → dl ≤ s.now →
     (s.acts.get a).zone = some z → a ∉ s.bank.queue → (s.zones.get z).state = .release →
     (s.zones.get z).outstanding.filter (fun b => b ≠ a) = rest →
     ∃ t, exec (.pulseEnd a true coils) s = .next t ∧
       (t.acts.get a).state = .fired ∧ (t.acts.get a).spent = true ∧ (t.acts.get a).pulseEnd = none ∧
       (t.acts.get a).attempts = (s.acts.get a).attempts ∧ a ∉ t.bank.inFlight ∧
       t.bank.inFlight ++ t.bank.queue = s.bank.inFlight.filter (fun b => b ≠ a) ++ s.bank.queue ∧
       t.store = markQueued (.spent a) true s ∧
       t.zones = put s.zones z (if rest = [] then
           { s.zones.get z with
             state := .soak, outstanding := [], fired := true
             stageDl := some (s.now + (s.zoneSettings z).soak * 60000) }
         else { s.zones.get z with outstanding := rest, fired := true }) ∧
       t = { s with
         zones := t.zones, acts := t.acts, bank := t.bank, store := t.store, grants := t.grants, doors := t.doors,
         vests := t.vests, locations := t.locations, link := t.link }) ∧
  (∀ (s : State) (a : ActId) (coils : Vector TestResult 32) (dl : Nat) (z : ZoneId) (rest : List ActId),
     s.powered = true → (s.acts.get a).state = .firing → (s.acts.get a).pulseEnd = some dl → dl ≤ s.now →
     (s.acts.get a).zone = some z → a ∉ s.bank.queue → (s.zones.get z).state = .release →
     (s.zones.get z).outstanding.filter (fun b => b ≠ a) = rest →
     ∃ t, exec (.pulseEnd a false coils) s = .next t ∧ t.store = s.store ∧
       ((s.acts.get a).attempts < 3 →
         t.bank.inFlight ++ t.bank.queue = s.bank.inFlight.filter (fun b => b ≠ a) ++ s.bank.queue ++ [a] ∧
         ((t.acts.get a).state = .queued ∨ (t.acts.get a).state = .firing) ∧
         t = { s with acts := t.acts, bank := t.bank, link := t.link }) ∧
       (3 ≤ (s.acts.get a).attempts →
         t.bank.inFlight ++ t.bank.queue = s.bank.inFlight.filter (fun b => b ≠ a) ++ s.bank.queue ∧
         (t.acts.get a).state = .failed ∧ (t.acts.get a).spent = (s.acts.get a).spent ∧
         t.zones = put s.zones z (if rest ≠ [] then { s.zones.get z with outstanding := rest }
           else if (s.zones.get z).fired then
             { s.zones.get z with
               state := .soak, outstanding := [], stageDl := some (s.now + (s.zoneSettings z).soak * 60000) }
           else { s.zones.get z with state := .releaseFailed, outstanding := [] }) ∧
         t = { s with
           zones := t.zones, acts := t.acts, bank := t.bank, grants := t.grants, doors := t.doors, vests := t.vests,
           locations := t.locations, link := t.link })) ∧

  (∀ (s : State) (a : ActId) (coils : Vector TestResult 32) (dl : Nat) (x : Actuator), s.powered = true → s.acts.get a = x →
     x.state = .firing → x.pulseEnd = some dl → dl ≤ s.now →
     ∀ b, { s.bank with inFlight := s.bank.inFlight.filter (fun c => c ≠ a) } = b →
     (x.attempts < 3 →
       exec (.pulseEnd a false coils) s = .next (resumeTests coils (grantPulses (pauseTest { s with
         acts := put s.acts a { x with state := .queued, pulseEnd := none }, bank := { b with queue := b.queue ++ [a] } })))) ∧
     (∀ (current : Bool) (z : ZoneId) (rest : List ActId) (t u : State), current = true ∨ 3 ≤ x.attempts → x.zone = some z →
       (s.zones.get z).state = .release → (s.zones.get z).outstanding.filter (fun c => c ≠ a) = rest →
       (if current then raise .actuatorFired (.actuator a) (some (.count x.attempts)) { s with store := markQueued (.spent a) true s }
         else raise .actuatorFailed (.actuator a) (some (.named (.testResult x.lastTest))) s) = t →
       (∀ y, { s.zones.get z with outstanding := rest, fired := (s.zones.get z).fired || current } = y →
         u = { t with
           acts := put s.acts a
             { x with
               state := if current then .fired else .failed, zone := s.nv.assignments.get a, pulseEnd := none
               spent := x.spent || current }
           bank := b
           zones := put s.zones z (if rest ≠ [] then y
             else if y.fired then { y with state := .soak, stageDl := some (s.now + (s.zoneSettings z).soak * 60000) }
             else { y with state := .releaseFailed }) }) →
       exec (.pulseEnd a current coils) s = .next (resumeTests coils (grantPulses (pauseTest
         (if rest ≠ [] then u
           else if ((s.zones.get z).fired || current) = true then handZone z u
           else handZone z (raise .releaseFailed (.zone z) none u)))))))

/-- At most two pulses are granted in one event, from the head of the queue; the sixth pulse begins a recharge pause at its end,
and the pause ends with the count at 0 and a grant. One continuity test, the tests due when suspension ends, and ACTUATOR_REARM of a
FIRED or FAILED actuator whose zone, if any, cannot release, refused BAD_STATE in every other case (R82, R83, R85, R86, R90, R91). That
the tests held back by suspension are made in ascending actuator number is the model's choice: entry 9. -/
def Obligations.PulsesPausesTestsAndRearm : Prop :=
  (∀ (s : State) (n : Nat), s.bank.queue.Nodup → s.bank.inFlight.length ≤ 2 → s.bank.pulseCount ≤ 6 →
     (if s.bank.pauseEnd = none then min s.bank.queue.length (min (2 - s.bank.inFlight.length) (6 - s.bank.pulseCount))
       else 0) = n →
     (grantPulses s).bank =
       ⟨s.bank.queue.drop n, s.bank.inFlight ++ s.bank.queue.take n, s.bank.pulseCount + n, s.bank.pauseEnd⟩ ∧
     (∀ a ∈ s.bank.queue.take n, (grantPulses s).acts.get a =
       { s.acts.get a with
         state := .firing, attempts := (s.acts.get a).attempts + 1, pulseEnd := some (s.now + 400) }) ∧
     (∀ a, a ∉ s.bank.queue.take n → (grantPulses s).acts.get a = s.acts.get a) ∧
     grantPulses s = { s with acts := (grantPulses s).acts, bank := (grantPulses s).bank }) ∧
  ((∀ s : State, s.bank.inFlight = [] → s.bank.pulseCount = 6 → s.bank.pauseEnd = none →
     pauseTest s = { s with bank := { s.bank with pauseEnd := some (s.now + 1500) } }) ∧
   (∀ s : State, s.bank.inFlight ≠ [] ∨ s.bank.pulseCount < 6 → pauseTest s = s) ∧
   (∀ (s : State) (dl : Nat), s.powered = true → s.bank.pauseEnd = some dl → dl ≤ s.now → s.bank.inFlight = [] →
     s.bank.queue.Nodup →
     ∃ t, exec .rechargePauseEnd s = .next t ∧
       t.bank = ⟨s.bank.queue.drop 2, s.bank.queue.take 2, min s.bank.queue.length 2, none⟩ ∧
       (∀ a ∈ s.bank.queue.take 2, (t.acts.get a).state = .firing ∧ (t.acts.get a).pulseEnd = some (s.now + 400)) ∧
       (∀ a, a ∉ s.bank.queue.take 2 → t.acts.get a = s.acts.get a) ∧
       t = { s with acts := t.acts, bank := t.bank })) ∧
  (∀ (s : State) (a : ActId) (x : Actuator) (r : TestResult) (dl : Nat), s.powered = true → s.acts.get a = x →
     x.state = .armed → x.nextTest = some dl → dl ≤ s.now →
     (∀ b, (s.acts.get b).state ≠ .queued ∧ (s.acts.get b).state ≠ .firing) →
     exec (.continuityTest a r) s = .next
       ((if r = .clean ∧ x.fault = true then raise .actuatorRestored (.actuator a) none
         else if r ≠ .clean ∧ (x.fault = false ∨ x.lastTest ≠ some r) then
           raise .actuatorFault (.actuator a) (some (.named (.testResult (some r))))
         else id)
         { s with
           acts := put s.acts a
             { x with lastTest := some r, nextTest := some (s.now + 10000), fault := decide (r ≠ .clean) } })) ∧
  (∀ (s : State) (tag : Nat) (a : ActId) (x : Actuator), s.free → s.acts.get a = x → x.state = .fired ∨ x.state = .failed →
     (∀ z, x.zone = some z → (s.zones.get z).state = .quiet ∨ (s.zones.get z).state = .isolated ∨
       (s.zones.get z).state = .discharged ∨ (s.zones.get z).state = .releaseFailed) →
     exec (.actuatorRearm tag (number a)) s = .next
       (({ heard 0x44 tag s with
           store := if x.state = ActState.fired then markQueued (.spent a) false s else s.store
           acts := put s.acts a
             { x with
               state := if x.zone = none then ActState.unassigned else .armed, attempts := 0, fault := false, lastTest := none
               nextTest := if x.zone = none then none else some s.now
               spent := if x.state = ActState.fired then false else x.spent } }).withReply 0x44 tag .ok .none)) ∧

  (∀ (s : State) (tag : Nat) (a : ActId), s.free →
     ((s.acts.get a).state ≠ .fired ∧ (s.acts.get a).state ≠ .failed) ∨
       (∃ z, (s.acts.get a).zone = some z ∧ (s.zones.get z).state ≠ .quiet ∧ (s.zones.get z).state ≠ .isolated ∧
         (s.zones.get z).state ≠ .discharged ∧ (s.zones.get z).state ≠ .releaseFailed) →
     exec (.actuatorRearm tag (number a)) s = .next ((heard 0x44 tag s).withReply 0x44 tag .badState .none)) ∧
  (∀ (s : State) (coils : Vector TestResult 32),
     ((∃ b, (s.acts.get b).state = .queued ∨ (s.acts.get b).state = .firing) → resumeTests coils s = s) ∧
     ((∀ b, (s.acts.get b).state ≠ .queued ∧ (s.acts.get b).state ≠ .firing) → s.powered = true →
       Host.Outcome.next (resumeTests coils s) = (every 32).foldl (fun o a =>
         match o with
         | .next t => exec (.continuityTest a (coils.get a)) t
         | other => other) (.next s)))

/-! ## Occupancy and lone working -/

/-- The lone-worker timer: a short press in PROMPT or RUNNING gives a new interval and in OFF is not taken; the interval deadline
prompts; the window deadline raises LONE_WORKER_OVERDUE, sets the evidence mark, reports the E that it raises and begins a new interval
(R96, R103, R105, R107 to R109; `reportE` by AutomaticCountdownBeginsAndGrows and CountdownAndHoldEndsRelease). What follows a change of
strongroom records (`settle`, of a passage, a clearing or a mark): a report of E for each strongroom where it changed, and the
lone-worker condition evaluated again for each whose listed count changed (R96, R106; by strongroom in ascending number: entry 9). -/
def Obligations.LoneWorkerTimerFollowsPressesAndDeadlines : Prop :=
  (∀ (s : State) (v : RoomId),
     ((s.rooms.get v).lone ≠ .off →
       shortPress v s = { s with rooms := put s.rooms v { s.rooms.get v with
         lone := .running (s.now + (s.loneSettings v).loneInterval * 60000) } }) ∧
     ((s.rooms.get v).lone = .off → shortPress v s = s)) ∧
  (∀ (s : State) (v : RoomId) (dl : Nat) (e : ListedEntry), s.powered = true → (s.rooms.get v).lone = .running dl →
     dl ≤ s.now → (s.rooms.get v).listed = [e] →
     exec (.intervalDeadline v) s = .next (raise .loneWorkerPrompt (.strongroom v) (some (.badge e.badge))
       { s with rooms := put s.rooms v { s.rooms.get v with
           lone := .prompt (s.now + (s.loneSettings v).loneWindow * 1000) } })) ∧
  (∀ (s : State) (v : RoomId) (dl : Nat), s.powered = true → (s.rooms.get v).lone = .prompt dl → dl ≤ s.now →
     ∃ t, exec (.responseWindowDeadline v) s = .next t ∧
       t.rooms = put s.rooms v { s.rooms.get v with
         evidence := true, lone := .running (s.now + (s.loneSettings v).loneInterval * 60000) } ∧
       t = { s with rooms := t.rooms, zones := t.zones, link := t.link } ∧
       (∀ e, (s.rooms.get v).listed = [e] →
         t = { (if (s.rooms.get v).evidence then id else reportE v)
             (raise .loneWorkerOverdue (.strongroom v) (some (.badge e.badge)) { s with
               rooms := put s.rooms v { s.rooms.get v with evidence := true } }) with rooms := t.rooms })) ∧

  (∀ (before : Vector Room 12) (s : State),
     settle before s = (every 12).foldl (fun t v =>
       let u := if (before.get v).effective ≠ (t.rooms.get v).effective then reportE v t else t
       if (before.get v).listed.length ≠ (u.rooms.get v).listed.length then
         { u with rooms := put u.rooms v { u.rooms.get v with lone := u.loneFor v } }
       else u) s ∧
     (settle before s).clock = s.clock ∧
     (∀ v, (settle before s).rooms.get v = { s.rooms.get v with
       lone := if (before.get v).listed.length ≠ (s.rooms.get v).listed.length then s.loneFor v else (s.rooms.get v).lone }))

/-- The passage of an entry grant at a single door lists its holders while the strongroom has room and takes note of the rest; at the
inner door of a vestibule it is the transfer, which lists every occupant in arrival order, sets one for whom the list has no room
OUTSIDE, and empties the vestibule; that of an exit grant takes the presenter out; an egress passage takes the oldest listed entry into
the assumed-out ring. The next states are given in full for slots found in any place, with ENTRY, STRONGROOM_OVERFLOW, EXIT and
LOCATION_CORRECTED (`slotListed`, `exitTaken`). Each is followed by the reports of E and the lone-worker condition (`settle`, by
LoneWorkerTimerFollowsPressesAndDeadlines; R94, R96 to R101, R106, R134, R169, R170). That a slot has left its old place before the list
is found full: entry 20; the object of a correction for a vestibule: entry 28. -/
def Obligations.PassagesMoveSlots : Prop :=
  (∀ (s : State) (d : DoorId) (v : RoomId) (g : Grant), s.role d = .strongroom v → s.hasVestibule v = false →
     s.grants.get d = some g → g.purpose = .entry → (∀ h ∈ g.holders, s.location h.slot = .outside) →
     (g.holders.map (fun h => h.slot)).Nodup → sparseOk .outside s.locations = true → (s.rooms.get v).listed.length ≤ 16 →
     (passage d s).grants.get d = none ∧
     ((passage d s).rooms.get v).listed = (s.rooms.get v).listed ++
       (g.holders.take (16 - (s.rooms.get v).listed.length)).map (fun h => ⟨h.slot, h.badge, s.clockTime, false⟩) ∧
     ((passage d s).rooms.get v).unknown =
       ((s.rooms.get v).unknown || decide (16 < (s.rooms.get v).listed.length + g.holders.length)) ∧
     (∀ h ∈ g.holders.take (16 - (s.rooms.get v).listed.length), (passage d s).location h.slot = .inStrongroom v) ∧
     (∀ h ∈ g.holders.drop (16 - (s.rooms.get v).listed.length), (passage d s).location h.slot = .outside) ∧
     (∀ slot, (∀ h ∈ g.holders, h.slot ≠ slot) → (passage d s).location slot = s.location slot) ∧
     (∀ w, w ≠ v → (passage d s).rooms.get w = s.rooms.get w)) ∧
  (∀ (s : State) (d : DoorId) (v : RoomId) (g : Grant) (h : Holder), s.role d = .strongroom v → s.hasVestibule v = false →
     s.grants.get d = some g → g.holders = [h] → g.purpose = .exit → s.location h.slot = .inStrongroom v →
     sparseOk .outside s.locations = true →
     (passage d s).grants.get d = none ∧
     ((passage d s).rooms.get v).listed = (s.rooms.get v).listed.filter (fun e => e.slot ≠ h.slot) ∧
     (passage d s).location h.slot = .outside ∧
     (∀ slot, slot ≠ h.slot → (passage d s).location slot = s.location slot) ∧
     (∀ w, w ≠ v → (passage d s).rooms.get w = s.rooms.get w)) ∧
  (∀ (s : State) (v : RoomId),
     ((s.rooms.get v).listed = [] → egressStrongroom v s = s) ∧
     (∀ e rest, (s.rooms.get v).listed = e :: rest →
       egressStrongroom v s = raise .assumedOut (.strongroom v) (some (.badge e.badge))
         { s with
           locations := sparsePut .outside s.locations e.slot .outside
           rooms := put s.rooms v { s.rooms.get v with
             listed := rest
             assumedOut := (if (s.rooms.get v).assumedOut.length < 8 then (s.rooms.get v).assumedOut
               else (s.rooms.get v).assumedOut.drop 1) ++ [⟨e.slot, e.badge, e.time, s.clockTime⟩] } })) ∧
  (∀ (s : State) (v : RoomId) (gone : List Occupant), (s.vests.get v).occupants = gone →
     (∀ o ∈ gone, s.location o.slot = .inVestibule v) → (gone.map (fun o => o.slot)).Nodup →
     (s.rooms.get v).listed.length + gone.length ≤ 16 →
     ((transfer v s).vests.get v).occupants = [] ∧ ((transfer v s).vests.get v).direction = .none ∧
     ((transfer v s).rooms.get v).listed =
       (s.rooms.get v).listed ++ gone.map (fun o => ⟨o.slot, o.badge, s.clockTime, true⟩) ∧
     (∀ o ∈ gone, (transfer v s).location o.slot = .inStrongroom v) ∧
     (∀ slot, (∀ o ∈ gone, o.slot ≠ slot) → (transfer v s).location slot = s.location slot) ∧
     (∀ w, w ≠ v → (transfer v s).rooms.get w = s.rooms.get w ∧ (transfer v s).vests.get w = s.vests.get w) ∧
     (transfer v s).grants = s.grants) ∧

  (∀ (s : State) (d : DoorId) (v : RoomId), s.role d = .strongroom v →
     (∀ g, s.grants.get d = some g → passage d s = settle s.rooms (movePassage d g { s with grants := put s.grants d none })) ∧
     (∀ g, s.grants.get d = some g → s.hasVestibule v = true → g.purpose = .entry →
       passage d s = settle s.rooms (transfer v { s with grants := put s.grants d none })) ∧
     (s.grants.get d = none → passage d s = s) ∧
     egressPassage d s = settle s.rooms (egressStrongroom v s)) ∧
  (∀ (s : State) (d : DoorId) (v : RoomId) (g : Grant), s.role d = .strongroom v → s.grants.get d = some g →
     (g.purpose = .entry → s.hasVestibule v = false →
       passage d s = settle s.rooms (g.holders.foldl (fun u h => u.slotListed v h.slot h.badge .outside false)
         { s with grants := put s.grants d none })) ∧
     (g.purpose = .exit →
       passage d s = settle s.rooms (g.holders.foldl (fun u h => u.exitTaken v h) { s with grants := put s.grants d none }))) ∧
  (∀ (s : State) (v : RoomId),
     transfer v s = (s.vests.get v).occupants.foldl (fun u o => u.slotListed v o.slot o.badge (.inVestibule v) true)
       { s with vests := put s.vests v { direction := .none, occupants := [] } }) ∧
  (∀ (s : State) (v : RoomId) (gone : List Occupant) (k : Nat), (s.vests.get v).occupants = gone →
     (∀ o ∈ gone, s.location o.slot = .inVestibule v) → (gone.map (fun o => o.slot)).Nodup → sparseOk .outside s.locations = true →
     (s.rooms.get v).listed.length ≤ 16 → 16 - (s.rooms.get v).listed.length = k → ∀ t, transfer v s = t →
     (∀ o ∈ gone.take k, t.location o.slot = .inStrongroom v) ∧ (∀ o ∈ gone.drop k, t.location o.slot = .outside) ∧
     (∀ slot, (∀ o ∈ gone, o.slot ≠ slot) → t.location slot = s.location slot) ∧
     t = { (gone.drop k).foldl (fun u o => raise .strongroomOverflow (.strongroom v) (some (.badge o.badge)) u)
           ((gone.take k).foldl (fun u o => raise .entry (.strongroom v) (some (.badge o.badge)) u) s) with
       vests := put s.vests v { direction := .none, occupants := [] }
       rooms := put s.rooms v { s.rooms.get v with
         listed := (s.rooms.get v).listed ++ (gone.take k).map (fun o => ⟨o.slot, o.badge, s.clockTime, true⟩)
         unknown := (s.rooms.get v).unknown || decide (k < gone.length) }
       locations := t.locations })

/-- OCCUPANT_CLEAR and VESTIBULE_FLUSH, refused BAD_STATE without a vestibule or while one of its doors has a moving grant. A clearing
is followed by the report of E and the lone-worker condition, and answered after them (`settle`, by
LoneWorkerTimerFollowsPressesAndDeadlines); a flush cancels with PASSBACK a waiting entry grant at the inner door that an occupant holds,
and raises VESTIBULE_FLUSHED for each (R96, R104, R106, R163, R176). The codes of the targets are the model's: entry 5. -/
def Obligations.ClearAndFlushRemoveOccupants : Prop :=
  (∀ (s : State) (tag : Nat) (v : RoomId), s.free →
     (∀ slot : SlotId, (∃ e ∈ (s.rooms.get v).listed, e.slot = slot) → sparseOk .outside s.locations = true →
       ∃ t, exec (.occupantClear tag (number v) 0 slot.val) s = .next t ∧
         (t.rooms.get v).listed = (s.rooms.get v).listed.filter (fun e => e.slot ≠ slot) ∧
         (t.rooms.get v).evidence = (s.rooms.get v).evidence ∧ (t.rooms.get v).unknown = (s.rooms.get v).unknown ∧
         t.location slot = .outside ∧ (∀ i, i ≠ slot → t.location i = s.location i ∨ t.location i = .outside) ∧
         (∀ w, w ≠ v → t.rooms.get w = s.rooms.get w)) ∧
     (∀ slot : SlotId, (∀ e ∈ (s.rooms.get v).listed, e.slot ≠ slot) →
       exec (.occupantClear tag (number v) 0 slot.val) s = .next ((heard 0x37 tag s).withReply 0x37 tag .badState .none)) ∧
     (∀ slot : Nat, ∃ t, exec (.occupantClear tag (number v) 1 slot) s = .next t ∧
       t.rooms = put s.rooms v { s.rooms.get v with evidence := false }) ∧
     (∀ slot : Nat, ∃ t, exec (.occupantClear tag (number v) 2 slot) s = .next t ∧
       t.rooms = put s.rooms v { s.rooms.get v with unknown := false })) ∧
  (∀ (s : State) (tag : Nat) (v : RoomId), s.free →
     (s.hasVestibule v = false →
       exec (.vestibuleFlush tag (number v)) s = .next ((heard 0x36 tag s).withReply 0x36 tag .badState .none)) ∧
     (∀ i o, s.outerDoor v = some o → s.strongroomDoor v = some i → s.grants.get i = none → s.grantMoving o = false →
       sparseOk .outside s.locations = true →
       ∃ t, exec (.vestibuleFlush tag (number v)) s = .next t ∧
         t.vests = put s.vests v { occupants := [], direction := .none } ∧ t.grants = s.grants ∧
         (∀ x ∈ (s.vests.get v).occupants, t.location x.slot = .outside) ∧
         (∀ slot, (∀ x ∈ (s.vests.get v).occupants, x.slot ≠ slot) → t.location slot = s.location slot) ∧
         t.link.tx = s.link.tx ++ [⟨0x36, tag, .ok, .flushed (s.vests.get v).occupants, .plain⟩] ∧
         t = { s with hostPresent := true, vests := t.vests, locations := t.locations, link := t.link })) ∧

  (∀ (s : State) (tag : Nat) (v : RoomId) (i o : DoorId), s.free → s.outerDoor v = some o → s.strongroomDoor v = some i →
     (∃ d g, (d = i ∨ d = o) ∧ s.grants.get d = some g ∧ (g.stage = .releasing ∨ g.stage = .released)) →
     exec (.vestibuleFlush tag (number v)) s = .next ((heard 0x36 tag s).withReply 0x36 tag .badState .none)) ∧
  (∀ (s : State) (tag : Nat) (v : RoomId), s.free → ∀ x, s.rooms.get v = x →
     (∀ (slot : SlotId) (e : ListedEntry), x.listed.find? (fun e => e.slot = slot) = some e →
       exec (.occupantClear tag (number v) 0 slot.val) s =
         .next ((settle s.rooms (raise .occupantCleared (.strongroom v) (some (.badge e.badge)) { heard 0x37 tag s with
           rooms := put s.rooms v { x with listed := x.listed.filter (fun e => e.slot ≠ slot) }
           locations := sparsePut .outside s.locations slot .outside })).withReply 0x37 tag .ok .none)) ∧
     (∀ slot : Nat, exec (.occupantClear tag (number v) 1 slot) s =
       .next ((if x.evidence then
           settle s.rooms (raise .occupantCleared (.strongroom v) (some (.named .evidence)) { heard 0x37 tag s with
             rooms := put s.rooms v { x with evidence := false } })
         else heard 0x37 tag s).withReply 0x37 tag .ok .none)) ∧
     (∀ slot : Nat, exec (.occupantClear tag (number v) 2 slot) s =
       .next ((if x.unknown then
           settle s.rooms (raise .occupantCleared (.strongroom v) (some (.named .unknown)) { heard 0x37 tag s with
             rooms := put s.rooms v { x with unknown := false } })
         else heard 0x37 tag s).withReply 0x37 tag .ok .none))) ∧

  (∀ (s : State) (tag : Nat) (v : RoomId) (o : DoorId), s.free → s.outerDoor v = some o →
     (∀ d g, d = o ∨ s.strongroomDoor v = some d → s.grants.get d = some g → g.stage ≠ .releasing ∧ g.stage ≠ .released) →
     exec (.vestibuleFlush tag (number v)) s = .next ((State.vestibuleEmptied v .vestibuleFlushed (heard 0x36 tag s)).withReply
       0x36 tag .ok (.flushed (s.vests.get v).occupants)))

/-! ## Credentials and access decisions -/

/-- Row programming: ROW_OPEN, SLOT_STAGE and ROW_DISCARD, each with its ROW_STATE; ROW_COMMIT checks the badges, then begins the
commit; a commit that completes writes the touched slots of its row and no other slot (R112, R115 to R118). That the other fields staged
with a badge of 0 stand in the stage until that write is the model's choice: entry 13. -/
def Obligations.RowProgrammingCommitsTouchedSlots : Prop :=
  (∀ (s : State) (tag : Nat), s.free →
     (∀ row : RowId, s.stage = .idle →
       ∃ staged : Vector Credential 8, (∀ j, staged.get j = s.nv.credential (rowSlot row j)) ∧
         exec (.rowOpen tag row.val) s = .next
           (({ heard 0x20 tag s with stage := .opened row staged (Vector.replicate 8 false) }).withReply 0x20 tag .ok .none)) ∧
     (∀ (row : RowId) (staged : Vector Credential 8) (touched : Vector Bool 8) (slot : SlotId) (badge priv win : Nat)
         (st : CredState) (f : CredFlags),
       s.stage = .opened row staged touched → slotRow slot = row → badge < 4294967295 → priv < 4096 → win < 65536 →
       exec (.slotStage tag slot.val badge (if st = .active then 0 else 1) priv win
           (switchCode f.afterHours + 2 * switchCode f.emergencyCrew + 4 * switchCode f.solo + 8 * switchCode f.perimeter)) s =
         .next (({ heard 0x21 tag s with
           stage := .opened row
             (put staged (slotPlace slot) ⟨badge, st, BitVec.ofNat 12 priv, BitVec.ofNat 16 win, f⟩)
             (put touched (slotPlace slot) true) }).withReply 0x21 tag .ok .none)) ∧
     (∀ row staged touched, s.stage = .opened row staged touched →
       exec (.rowDiscard tag) s = .next (({ heard 0x23 tag s with stage := .idle }).withReply 0x23 tag .ok .none)) ∧
     (∀ row : RowId, s.stage ≠ .idle →
       exec (.rowOpen tag row.val) s = .next ((heard 0x20 tag s).withReply 0x20 tag .rowState .none))) ∧
  (∀ (s : State) (tag : Nat) (row : RowId) (staged : Vector Credential 8) (touched : Vector Bool 8), s.free →
     s.stage = .opened row staged touched →
     ((∃ i j, i ≠ j ∧ (staged.get i).badge ≠ 0 ∧ (staged.get i).badge = (staged.get j).badge) →
       exec (.rowCommit tag) s = .next ((heard 0x22 tag s).withReply 0x22 tag .duplicateBadge .none)) ∧
     ((∃ (j : Fin 8) (slot : SlotId), (staged.get j).badge ≠ 0 ∧ slotRow slot ≠ row ∧
         (s.nv.credential slot).badge = (staged.get j).badge) →
       exec (.rowCommit tag) s = .next ((heard 0x22 tag s).withReply 0x22 tag .duplicateBadge .none)) ∧
     (s.duplicates row staged = false →
       (∃ j d g, touched.get j = true ∧ (staged.get j).badge ≠ (s.nv.credential (rowSlot row j)).badge ∧
         s.grants.get d = some g ∧ (∃ h ∈ g.holders, h.slot = rowSlot row j)) →
       exec (.rowCommit tag) s = .next ((heard 0x22 tag s).withReply 0x22 tag .occupantPresent .none)) ∧
     (s.duplicates row staged = false →
       (∃ j, touched.get j = true ∧ (staged.get j).badge ≠ (s.nv.credential (rowSlot row j)).badge ∧
         s.location (rowSlot row j) ≠ .outside) →
       exec (.rowCommit tag) s = .next ((heard 0x22 tag s).withReply 0x22 tag .occupantPresent .none)) ∧
     (s.duplicates row staged = false → s.occupantBlocks row staged touched = false →
       exec (.rowCommit tag) s = .next
         (({ heard 0x22 tag s with
             stage := .committing row staged touched, store := hostQueued (.commit row) s }).withReply 0x22 tag .ok .none))) ∧
  (∀ (s : State) (row row' : RowId) (staged : Vector Credential 8) (touched : Vector Bool 8) (dl : Nat), s.powered = true →
     s.store.running = some ⟨.commit row', dl⟩ → dl ≤ s.now → s.stage = .committing row staged touched →
     sparseOk Credential.empty s.nv.credentials = true →
     ∃ t, exec .commitDone s = .next t ∧ t.stage = .idle ∧
       (∀ j, touched.get j = true → t.nv.credential (rowSlot row j) =
         if (staged.get j).badge = 0 then Credential.empty else staged.get j) ∧
       (∀ j, touched.get j = false → t.nv.credential (rowSlot row j) = s.nv.credential (rowSlot row j)) ∧
       (∀ slot, slotRow slot ≠ row → t.nv.credential slot = s.nv.credential slot) ∧
       t.nv = { s.nv with credentials := t.nv.credentials } ∧
       t = { raise .commitDone .none none s with
         stage := .idle, nv := t.nv, store := ({ s.store with running := none }).startNext s.now }) ∧

  (∀ (s : State) (tag : Nat), s.free →
     (∀ (slot : SlotId) (badge priv win : Nat) (st : CredState) (f : CredFlags), badge < 4294967295 → priv < 4096 → win < 65536 →
       (∀ row staged touched, s.stage = .opened row staged touched → slotRow slot ≠ row) →
       exec (.slotStage tag slot.val badge (if st = .active then 0 else 1) priv win
           (switchCode f.afterHours + 2 * switchCode f.emergencyCrew + 4 * switchCode f.solo + 8 * switchCode f.perimeter)) s =
         .next ((heard 0x21 tag s).withReply 0x21 tag .rowState .none)) ∧
     ((∀ row staged touched, s.stage ≠ .opened row staged touched) →
       exec (.rowCommit tag) s = .next ((heard 0x22 tag s).withReply 0x22 tag .rowState .none) ∧
       exec (.rowDiscard tag) s = .next ((heard 0x23 tag s).withReply 0x23 tag .rowState .none)))

/-- A PRESENT that passes every step of the entry chain at a single AUTO door releases it; an exit at a door in SECURE and
AUTOMATIC releases it whatever the record says (R123, R124, R126, R128, R136, R145). -/
def Obligations.PresentReleasesDoor : Prop :=
  (∀ (s : State) (tag badge : Nat) (d : DoorId) (v : RoomId) (slot : SlotId) (c : Credential), s.free → s.sup.ready = true →
     s.role d = .strongroom v → s.hasVestibule v = false → (s.doorSettings d).grantMode = .auto →
     s.conflicts badge = false → s.nv.findBadge badge = some (slot, c) → c.state = .active →
     (c.windows = 0 ∨ s.clock.valid = true ∧ ∃ w, c.windows.getLsbD w.val = true ∧ s.clock.windows.get w = true) →
     (s.clock.mode = .day ∨ c.flags.afterHours = true) → c.privileges.getLsbD v.val = true →
     (s.freeze = false ∨ c.flags.emergencyCrew = true) →
     ((s.zones.get v).state = .quiet ∨ (s.zones.get v).state = .isolated ∨
       c.flags.emergencyCrew = true ∧ ((s.zones.get v).state = .alert ∨ (s.zones.get v).state = .discharged)) →
     s.location slot = .outside → (s.rooms.get v).listed.length < 16 → (s.doors.get d).state = .secure →
     (s.doors.get d).mode = .automatic → s.grants.get d = none → s.doorBand d = .bolted →
     (s.clock.mode = .day ∨ (s.rooms.get v).listed ≠ [] ∨ c.flags.solo = true ∨ c.flags.emergencyCrew = true) →
     exec (.present tag (number d) 0 badge) s = .next
       (({ heard 0x30 tag s with
           grants := put s.grants d (some ⟨[⟨slot, badge⟩], .entry, .outside, .releasing, none, none⟩)
           doors := put s.doors d { s.doors.get d with
             state := .releasing, bolt := .withdrawn, motion := .moving .withdrawn (s.now + 3000) } }).withReply 0x30 tag .ok
         (.outcome .granted slot))) ∧
  (∀ (s : State) (tag badge : Nat) (d : DoorId) (v : RoomId) (slot : SlotId) (c : Credential), s.free → s.sup.ready = true →
     s.role d = .strongroom v → s.hasVestibule v = false → s.conflicts badge = false →
     s.nv.findBadge badge = some (slot, c) → s.grants.get d = none → s.location slot = .inStrongroom v →
     (s.doors.get d).state = .secure → (s.doors.get d).mode = .automatic → s.doorBand d = .bolted →
     exec (.present tag (number d) 1 badge) s = .next
       (({ heard 0x30 tag s with
           grants := put s.grants d (some ⟨[⟨slot, badge⟩], .exit, .inside, .releasing, none, none⟩)
           doors := put s.doors d { s.doors.get d with
             state := .releasing, bolt := .withdrawn, motion := .moving .withdrawn (s.now + 3000) } }).withReply 0x30 tag .ok
         (.outcome .granted slot)))

/-- The first failing step of the entry chain at a single door gives the reason, and a denied presentation changes nothing; a
presentation at one door of a vestibule whose other door is not SECURE moves no bolt; one at an UNUSED door, at either reader, is
denied DOOR_UNAVAILABLE (R123, R124, R164). -/
def Obligations.PresentDeniedByFirstFailingStep : Prop :=
  (∀ (s : State) (tag badge : Nat) (d : DoorId) (v : RoomId) (slot : SlotId) (c : Credential) (r : Reason), s.free →
     s.sup.ready = true → s.role d = .strongroom v → s.hasVestibule v = false → s.grants.get d = none →
     s.conflicts badge = false → s.nv.findBadge badge = some (slot, c) →
     (if c.state = .suspended then some Reason.suspended
       else if c.windows ≠ 0 ∧ ¬(s.clock.valid = true ∧ ∃ w, c.windows.getLsbD w.val = true ∧ s.clock.windows.get w = true) then
         some .outsideWindow
       else if s.clock.mode = .afterHours ∧ c.flags.afterHours = false then some .outOfHours
       else if c.privileges.getLsbD v.val = false then some .noPrivilege
       else if s.freeze = true ∧ c.flags.emergencyCrew = false then some .frozen
       else if (s.zones.get v).state.refusesEntry c.flags.emergencyCrew = true then some .zoneHazard
       else if s.location slot ≠ .outside then some .passback
       else if 16 ≤ (s.rooms.get v).listed.length then some .strongroomFull
       else if (s.doors.get d).state ≠ .secure ∨ (s.doors.get d).mode = .manual then some .doorUnavailable
       else none) = some r →
     exec (.present tag (number d) 0 badge) s = .next ((heard 0x30 tag s).withReply 0x30 tag .denied (.reason r))) ∧
  (∀ (s : State) (w : WaitingPresent) (v : RoomId) (i o : DoorId), s.strongroomDoor v = some i → s.outerDoor v = some o →
     (w.door = i ∧ (s.doors.get o).state ≠ .secure ∨ w.door = o ∧ (s.doors.get i).state ≠ .secure) →
     (presentChain w s).doors = s.doors ∧ (presentChain w s).vests = s.vests ∧ (presentChain w s).rooms = s.rooms) ∧

  (∀ (s : State) (tag badge side : Nat) (d : DoorId), s.free → s.sup.ready = true → s.role d = .unused → side = 0 ∨ side = 1 →
     exec (.present tag (number d) side badge) s = .next ((heard 0x30 tag s).withReply 0x30 tag .denied (.reason .doorUnavailable)))

/-- Entry presentations at the two doors of a vestibule, at a single door and at a perimeter door: the first failing step, then the
vestibule checks, name the reason of a denial; one that passes is released in AUTO, waits for a partner at the inner door after hours, and
at a single door after hours where nobody is listed, and else goes by the grant mode (`grantMode` by GrantModeAndPairDecideEntry). A pair
that waits at the door is the matter of GrantModeAndPairDecideEntry (R123 to R126, R128, R145, R164, R165, R167). DOOR_BUSY before
DOOR_UNAVAILABLE: entry 10. -/
def Obligations.VestibuleAndPerimeterEntriesFollowTheirSteps : Prop :=
  ∀ (s : State) (tag badge : Nat) (d : DoorId) (slot : SlotId) (c : Credential), s.free → s.sup.ready = true →
    s.conflicts badge = false → s.nv.findBadge badge = some (slot, c) →
    (∀ g, s.grants.get d = some g → g.stage ≠ .awaitPartner) → ∀ u, heard 0x30 tag s = u →
    (∀ (v : RoomId) (why : Option Reason), s.role d = .vestibuleOuter v →
      (s.entryRefusal v c).or
        (if s.location slot ≠ .outside then some .passback
          else if 16 < (s.rooms.get v).listed.length + (s.vests.get v).occupants.length + 1 then some .strongroomFull
          else if s.grants.get d ≠ none then some .doorBusy
          else if ¬s.doorReady d then some .doorUnavailable
          else if (s.vests.get v).direction = .outbound then some .direction
          else if 2 ≤ (s.vests.get v).occupants.length then some .vestibuleFull
          else if ¬s.secureAt (s.strongroomDoor v) then some .interlock
          else none) = why →
      exec (.present tag (number d) 0 badge) s = .next
        (match why with
          | some r => u.withReply 0x30 tag .denied (.reason r)
          | none =>
            if (s.doorSettings d).grantMode = .auto then
              (u.releaseTo d [⟨slot, badge⟩] .entry .outside).withReply 0x30 tag .ok (.outcome .granted slot)
            else grantMode d [⟨slot, badge⟩] .outside slot true u)) ∧
    (∀ (v : RoomId) (why : Option Reason), s.role d = .strongroom v → s.hasVestibule v = true →
      (s.entryRefusal v c).or
        (if ∀ o ∈ (s.vests.get v).occupants, o.slot ≠ slot then some .passback
          else if 16 < (s.rooms.get v).listed.length + (s.vests.get v).occupants.length then some .strongroomFull
          else if s.grants.get d ≠ none then some .doorBusy
          else if ¬s.doorReady d then some .doorUnavailable
          else if (s.vests.get v).direction ≠ .inbound then some .direction
          else if ¬s.secureAt (s.outerDoor v) then some .interlock
          else none) = why →
      exec (.present tag (number d) 0 badge) s = .next
        (match why with
          | some r => u.withReply 0x30 tag .denied (.reason r)
          | none =>
            if s.clock.mode = .afterHours ∧ c.flags.solo = false ∧ c.flags.emergencyCrew = false then
              ({ u with grants := put s.grants d (some ⟨[⟨slot, badge⟩], .entry, .outside, .awaitPartner,
                some (s.now + (s.doorSettings d).pairWindow * 1000), none⟩) }).withReply 0x30 tag .pending
                  (.waiting .awaitPartner slot)
            else if (s.doorSettings d).grantMode = .auto then
              (u.releaseTo d [⟨slot, badge⟩] .entry .outside).withReply 0x30 tag .ok (.outcome .granted slot)
            else grantMode d [⟨slot, badge⟩] .outside slot true u)) ∧
    (∀ (v : RoomId) (why : Option Reason), s.role d = .strongroom v → s.hasVestibule v = false →
      (s.entryRefusal v c).or
        (if s.location slot ≠ .outside then some .passback
          else if 16 < (s.rooms.get v).listed.length + 1 then some .strongroomFull
          else if s.grants.get d ≠ none then some .doorBusy
          else if ¬s.doorReady d then some .doorUnavailable
          else none) = why →
      exec (.present tag (number d) 0 badge) s = .next
        (match why with
          | some r => u.withReply 0x30 tag .denied (.reason r)
          | none =>
            if s.clock.mode = .afterHours ∧ (s.rooms.get v).listed = [] ∧ c.flags.solo = false ∧ c.flags.emergencyCrew = false then
              ({ u with grants := put s.grants d (some ⟨[⟨slot, badge⟩], .entry, .outside, .awaitPartner,
                some (s.now + (s.doorSettings d).pairWindow * 1000), none⟩) }).withReply 0x30 tag .pending
                  (.waiting .awaitPartner slot)
            else if (s.doorSettings d).grantMode = .auto then
              (u.releaseTo d [⟨slot, badge⟩] .entry .outside).withReply 0x30 tag .ok (.outcome .granted slot)
            else grantMode d [⟨slot, badge⟩] .outside slot true u)) ∧
    (∀ (side : Nat) (reader : Reader) (why : Option Reason), s.role d = .perimeter →
      side = 0 ∧ reader = .outside ∨ side = 1 ∧ reader = .inside →
      (s.recordRefusal c c.flags.perimeter).or
        (if s.grants.get d ≠ none then some .doorBusy else if ¬s.doorReady d then some .doorUnavailable else none) = why →
      exec (.present tag (number d) side badge) s = .next
        (match why with
          | some r => u.withReply 0x30 tag .denied (.reason r)
          | none =>
            if (s.doorSettings d).grantMode = .auto then
              (u.releaseTo d [⟨slot, badge⟩] .entry reader).withReply 0x30 tag .ok (.outcome .granted slot)
            else grantMode d [⟨slot, badge⟩] reader slot true u))

/-- Exit presentations at a strongroom door, single or inner, and at the outer door of a vestibule, as a PRESENT and as one that has waited
for a commit: a door taken for a passage and the vestibule refuse one; one that passes cancels a waiting entry grant, with DENIED to a
CONFIRM that waits with it, is reported where the presenter is not listed, and releases the door where that is SECURE in AUTOMATIC,
whatever the record says (R119, R136, R137, R145, R170, R172). A CONFIRM and a PRESENT whose replies are both owed are not found together
(R190). GRANT_CANCELLED before EXIT_UNLISTED: entry 32; the index of a waiting PRESENT: entry 8. -/
def Obligations.ExitsFollowTheirSteps : Prop :=
  (∀ (s : State) (tag badge : Nat) (d : DoorId) (slot : SlotId) (c : Credential), s.free → s.sup.ready = true →
    s.conflicts badge = false → s.nv.findBadge badge = some (slot, c) →
    ∀ busy unfit : Bool,
      busy = (s.grants.get d).any (fun g => g.purpose = .exit || g.stage = .releasing || g.stage = .released) →
      (unfit = true ↔ (s.doors.get d).state ≠ .secure ∧ (s.doors.get d).state ≠ .driverLatched ∧
        (s.doors.get d).state ≠ .lineFault ∧ (s.doors.get d).mode = .automatic) →
      (∀ (v : RoomId) (why : Option Reason), s.role d = .strongroom v →
        (if busy then some .doorBusy
          else if s.hasVestibule v = true ∧ (s.vests.get v).direction = .inbound then some .direction
          else if s.hasVestibule v = true ∧ 2 ≤ (s.vests.get v).occupants.length then some .vestibuleFull
          else if s.hasVestibule v = true ∧ ¬s.secureAt (s.outerDoor v) then some .interlock
          else if unfit then some .doorUnavailable
          else none) = why →
        exec (.present tag (number d) 1 badge) s = .next
          (match why with
            | some r => (heard 0x30 tag s).withReply 0x30 tag .denied (.reason r)
            | none => (heard 0x30 tag s).exitPassed ⟨d, .inside, badge, true⟩ slot (s.location slot = .inStrongroom v))) ∧
      (∀ (v : RoomId) (why : Option Reason), s.role d = .vestibuleOuter v →
        (if busy then some .doorBusy
          else if ¬s.secureAt (s.strongroomDoor v) then some .interlock
          else if unfit then some .doorUnavailable
          else none) = why →
        exec (.present tag (number d) 1 badge) s = .next
          (match why with
            | some r => (heard 0x30 tag s).withReply 0x30 tag .denied (.reason r)
            | none => (heard 0x30 tag s).exitPassed ⟨d, .inside, badge, true⟩ slot
                ((s.vests.get v).occupants.any (fun o => o.slot = slot))))) ∧

  (∀ (s : State) (i : Nat) (w : WaitingPresent) (slot : SlotId) (c : Credential), s.powered = true → s.sup.ready = true →
    s.commitRunning = false → s.waitPresents[i]? = some w → w.reader = .inside → s.nv.findBadge w.badge = some (slot, c) →
    ∀ d, w.door = d → ∀ u, { s with waitPresents := s.waitPresents.eraseIdx i } = u →
    ∀ busy unfit : Bool,
      busy = (s.grants.get d).any (fun g => g.purpose = .exit || g.stage = .releasing || g.stage = .released) →
      (unfit = true ↔ (s.doors.get d).state ≠ .secure ∧ (s.doors.get d).state ≠ .driverLatched ∧
        (s.doors.get d).state ≠ .lineFault ∧ (s.doors.get d).mode = .automatic) →
      (∀ (v : RoomId) (why : Option Reason), s.role d = .strongroom v →
        (if busy then some .doorBusy
          else if s.hasVestibule v = true ∧ (s.vests.get v).direction = .inbound then some .direction
          else if s.hasVestibule v = true ∧ 2 ≤ (s.vests.get v).occupants.length then some .vestibuleFull
          else if s.hasVestibule v = true ∧ ¬s.secureAt (s.outerDoor v) then some .interlock
          else if unfit then some .doorUnavailable
          else none) = why →
        exec (.deferredPresent i) s = .next
          (match why with
            | some r => u.repliedTo w.owed .denied (.reason r)
            | none => u.exitPassed w slot (s.location slot = .inStrongroom v))) ∧
      (∀ (v : RoomId) (why : Option Reason), s.role d = .vestibuleOuter v →
        (if busy then some .doorBusy
          else if ¬s.secureAt (s.strongroomDoor v) then some .interlock
          else if unfit then some .doorUnavailable
          else none) = why →
        exec (.deferredPresent i) s = .next
          (match why with
            | some r => u.repliedTo w.owed .denied (.reason r)
            | none => u.exitPassed w slot ((s.vests.get v).occupants.any (fun o => o.slot = slot)))))

/-- The grant mode decides between a release, a wait and a refusal, which ends a pair that waits; the two-person rule makes the first
presenter wait for a partner, at a single door and at the inner door of a vestibule, whom a second badge completes where the first
holder passes steps 2 to 11 again, both counted, and else replaces (R113, R123 to R129, R165, R167). A pair is completed by day too, and
DOOR_BUSY before DOOR_UNAVAILABLE: entry 10; that a conflict of the first holder defers the PRESENT: entry 8. -/
def Obligations.GrantModeAndPairDecideEntry : Prop :=
  (∀ (s : State) (d : DoorId) (h : Holder) (reader : Reader) (r : Request), s.link.outstanding = some r →
     ((s.doorSettings d).grantMode = .delayed → s.hostPresent = true →
       grantMode d [h] reader h.slot true s =
         ({ s with grants := put s.grants d (some ⟨[h], .entry, reader, .awaitDelay,
             some (s.now + (s.doorSettings d).delayHold * 1000), none⟩) }).withReply r.kind r.tag .pending
           (.waiting .awaitDelay h.slot)) ∧
     ((s.doorSettings d).grantMode = .confirm → s.hostPresent = true →
       grantMode d [h] reader h.slot true s =
         ({ s with grants := put s.grants d (some ⟨[h], .entry, reader, .awaitConfirm,
             some (s.now + (s.doorSettings d).confirmTimeout * 1000), none⟩) }).withReply r.kind r.tag .pending
           (.waiting .awaitConfirm h.slot)) ∧
     ((s.doorSettings d).grantMode = .confirm → s.hostPresent = false → s.grants.get d = none →
       grantMode d [h] reader h.slot true s = s.withReply r.kind r.tag .denied (.reason .hostAbsent)) ∧
     (∀ (g : Grant) (hs : List Holder), (s.doorSettings d).grantMode = .confirm → s.hostPresent = false →
       s.grants.get d = some g → g.stage = .awaitPartner → g.recheck = none →
         grantMode d hs reader h.slot true s =
           (raise .grantCancelled (.door d) (some (.reason .hostAbsent))
             { s with grants := put s.grants d none }).withReply r.kind r.tag .denied (.reason .hostAbsent)) ∧
     ((s.doorSettings d).grantMode = .auto ∨ (s.doorSettings d).grantMode = .delayed ∧ s.hostPresent = false →
       grantMode d [h] reader h.slot true s =
         answerOutcome true .granted h.slot (releaseDoor d ⟨[h], .entry, reader, .releasing, none, none⟩ s))) ∧
  (∀ (s : State) (w : WaitingPresent) (d : DoorId) (v : RoomId) (slot : SlotId) (c : Credential) (r : Request),
     s.link.outstanding = some r → w.owed = true → w.door = d → s.grants.get d = none → s.clock.mode = .afterHours →
     (s.rooms.get v).listed = [] → c.flags.solo = false → c.flags.emergencyCrew = false →
     presenterPassed w (.single v) slot c s =
       ({ s with grants := put s.grants d (some ⟨[⟨slot, w.badge⟩], .entry, .outside, .awaitPartner,
           some (s.now + (s.doorSettings d).pairWindow * 1000), none⟩) }).withReply r.kind r.tag .pending
         (.waiting .awaitPartner slot)) ∧
  (∀ (s : State) (w : WaitingPresent) (d : DoorId) (v : RoomId) (slot : SlotId) (c : Credential) (r : Request) (g : Grant)
      (first : Holder), s.link.outstanding = some r → w.owed = true → w.door = d → s.grants.get d = some g →
     g.stage = .awaitPartner → g.recheck = none → g.holders = [first] →
     (first.badge = w.badge →
       presenterPassed w (.single v) slot c s = s.withReply r.kind r.tag .pending (.waiting .awaitPartner slot)) ∧
     (∀ i k, first.badge ≠ w.badge → s.judge d (.single v) true 2 first.badge = .passed i k →
       (s.doorSettings d).grantMode = .auto → s.doorBand d = .bolted →
       presenterPassed w (.single v) slot c s =
         ({ raise .grantOutcome (.door d) (some (.badge first.badge)) s with
             grants := put s.grants d (some ⟨[first, ⟨slot, w.badge⟩], .entry, .outside, .releasing, none, none⟩)
             doors := put s.doors d { s.doors.get d with
               state := .releasing, bolt := .withdrawn, motion := .moving .withdrawn (s.now + 3000) } }).withReply r.kind r.tag .ok
           (.outcome .granted slot)) ∧
     (∀ why, first.badge ≠ w.badge → s.judge d (.single v) true 2 first.badge = .denied why → s.clock.mode = .afterHours →
       (s.rooms.get v).listed = [] → c.flags.solo = false → c.flags.emergencyCrew = false →
       presenterPassed w (.single v) slot c s =
         ({ raise .grantCancelled (.door d) (some (.reason why)) s with
             grants := put s.grants d (some ⟨[⟨slot, w.badge⟩], .entry, .outside, .awaitPartner,
               some (s.now + (s.doorSettings d).pairWindow * 1000), none⟩) }).withReply r.kind r.tag .pending
           (.waiting .awaitPartner slot))) ∧

  ((∀ (s : State) (d : DoorId) (v : RoomId) (holders badge : Nat),
     s.judge d (.single v) true holders badge = s.verdictBy badge (s.singleRefusal d v holders) ∧
     s.judge d (.inner v) true holders badge = s.verdictBy badge (s.innerStepRefusal d v) ∧
     s.judge d (.outer v) true holders badge = s.verdictBy badge (s.outerStepRefusal d v holders) ∧
     s.judge d .perimeter true holders badge = s.verdictBy badge (fun _ c => s.perimeterStepRefusal d c)) ∧
   (∀ (s : State) (d : DoorId) (hs : List Holder) (reader : Reader) (slot : SlotId) (r : Request), s.link.outstanding = some r →
     ((s.doorSettings d).grantMode = .delayed → s.hostPresent = true →
       grantMode d hs reader slot true s =
         ({ s with grants := put s.grants d (some ⟨hs, .entry, reader, .awaitDelay,
             some (s.now + (s.doorSettings d).delayHold * 1000), none⟩) }).withReply r.kind r.tag .pending (.waiting .awaitDelay slot)) ∧
     ((s.doorSettings d).grantMode = .confirm → s.hostPresent = true →
       grantMode d hs reader slot true s =
         ({ s with grants := put s.grants d (some ⟨hs, .entry, reader, .awaitConfirm,
             some (s.now + (s.doorSettings d).confirmTimeout * 1000), none⟩) }).withReply r.kind r.tag .pending
           (.waiting .awaitConfirm slot)) ∧
     ((s.doorSettings d).grantMode = .auto ∨ (s.doorSettings d).grantMode = .delayed ∧ s.hostPresent = false →
       grantMode d hs reader slot true s =
         (s.releaseTo d hs .entry reader).withReply r.kind r.tag .ok (.outcome .granted slot)))) ∧
  (∀ (s : State) (tag badge : Nat) (d : DoorId) (v : RoomId) (slot : SlotId) (c : Credential) (g : Grant) (first : Holder)
      (k : EntryKind) (why : Option Reason), s.free → s.sup.ready = true → s.role d = .strongroom v →
     s.conflicts badge = false → s.nv.findBadge badge = some (slot, c) → s.grants.get d = some g → g.stage = .awaitPartner →
     g.holders.head? = some first →
     (s.hasVestibule v = true ∧ k = .inner v ∧ s.innerStepRefusal d v slot c = why ∨
       s.hasVestibule v = false ∧ k = .single v ∧ s.singleRefusal d v (if first.badge = badge then 1 else 2) slot c = why) →
     exec (.present tag (number d) 0 badge) s = .next
       (match why with
         | some r => (heard 0x30 tag s).withReply 0x30 tag .denied (.reason r)
         | none => presenterPassed ⟨d, .outside, badge, true⟩ k slot c (heard 0x30 tag s))) ∧
  (∀ (s : State) (w : WaitingPresent) (d : DoorId) (v : RoomId) (slot : SlotId) (c : Credential) (r : Request) (g : Grant)
      (first : Holder), s.link.outstanding = some r → w.owed = true → w.door = d → s.grants.get d = some g →
     g.stage = .awaitPartner → g.recheck = none → g.holders = [first] →
     (∀ why, s.innerRefusal v = some why →
       presenterPassed w (.inner v) slot c s = s.withReply r.kind r.tag .denied (.reason why)) ∧
     (∀ (k : EntryKind) (alone : Bool),
       k = .single v ∧ alone = (s.rooms.get v).listed.isEmpty ∨ k = .inner v ∧ s.innerRefusal v = none ∧ alone = true →
       (first.badge = w.badge →
         presenterPassed w k slot c s = s.withReply r.kind r.tag .pending (.waiting .awaitPartner slot)) ∧
       (first.badge ≠ w.badge →
         (s.judge d k true 2 first.badge = .deferred →
           presenterPassed w k slot c s = { s with waitPresents := s.waitPresents ++ [w] }) ∧
         (∀ i l, s.judge d k true 2 first.badge = .passed i l →
           presenterPassed w k slot c s = grantMode d [first, ⟨slot, w.badge⟩] .outside slot true
             (raise .grantOutcome (.door d) (some (.badge first.badge)) s)) ∧
         (∀ why, s.judge d k true 2 first.badge = .denied why →
           presenterPassed w k slot c s =
             if s.clock.mode = .afterHours ∧ alone = true ∧ c.flags.solo = false ∧ c.flags.emergencyCrew = false then
               ({ raise .grantCancelled (.door d) (some (.reason why)) s with
                 grants := put s.grants d (some ⟨[⟨slot, w.badge⟩], .entry, .outside, .awaitPartner,
                   some (s.now + (s.doorSettings d).pairWindow * 1000), none⟩) }).withReply r.kind r.tag .pending
                 (.waiting .awaitPartner slot)
             else grantMode d [⟨slot, w.badge⟩] w.reader slot true
               (raise .grantCancelled (.door d) (some (.reason why)) { s with grants := put s.grants d none })))))

/-- A deferred PRESENT is evaluated from its first step once no commit runs, as a PRESENT is: a badge that the row under commit holds
or stages waits, an unknown badge is denied. A GET_CREDENTIAL of the committing row waits, and reports when the commit has ended
(R113, R114, R119, R123). The index of a waiting request is the model's: entry 8. That a PRESENT before READY is NOT_READY for any door
and reader number, also one out of range, is deduced: entry 10. -/
def Obligations.DeferredRequestsAreTakenAfresh : Prop :=
  ((∀ (s : State) (i : Nat) (w : WaitingPresent), s.powered = true → s.commitRunning = false → s.waitPresents[i]? = some w →
     exec (.deferredPresent i) s = .next (presentChain w { s with waitPresents := s.waitPresents.eraseIdx i })) ∧
   (∀ (s : State) (tag badge : Nat) (d : DoorId), s.free → s.sup.ready = true →
     exec (.present tag (number d) 0 badge) s = .next (presentChain ⟨d, .outside, badge, true⟩ (heard 0x30 tag s)) ∧
     exec (.present tag (number d) 1 badge) s = .next (presentChain ⟨d, .inside, badge, true⟩ (heard 0x30 tag s))) ∧
   (∀ (s : State) (tag door reader badge : Nat), s.free → s.sup.ready = false →
     exec (.present tag door reader badge) s = .next ((heard 0x30 tag s).withReply 0x30 tag .notReady .none)) ∧
   (∀ (s : State) (tag badge side : Nat) (d : DoorId) (reader : Reader), s.free → s.sup.ready = true → s.role d ≠ .unused →
     side = 0 ∧ reader = .outside ∨ side = 1 ∧ reader = .inside →
     (∀ row staged touched j, s.stage = .committing row staged touched →
       (s.nv.credential (rowSlot row j)).badge = badge ∨ touched.get j = true ∧ (staged.get j).badge = badge →
       exec (.present tag (number d) side badge) s = .next
         { heard 0x30 tag s with waitPresents := s.waitPresents ++ [⟨d, reader, badge, true⟩] }) ∧
     (s.commitRunning = false → badge = 0 ∨ 4294967295 ≤ badge ∨ (∀ e ∈ s.nv.credentials, e.2.badge ≠ badge) →
       exec (.present tag (number d) side badge) s = .next
         ((heard 0x30 tag s).withReply 0x30 tag .denied (.reason .unknownBadge))))) ∧
  ((∀ (s : State) (tag : Nat) (slot : SlotId), s.free → s.slotCommitting slot = true →
     exec (.getCredential tag slot.val) s =
       .next { heard 0x09 tag s with waitGets := s.waitGets ++ [⟨slot, true⟩] }) ∧
   (∀ (s : State) (i : Nat) (w : WaitingGet) (r : Request), s.powered = true → s.commitRunning = false →
     s.waitGets[i]? = some w → s.link.outstanding = some r →
     exec (.deferredGetCredential i) s = .next
       (if w.owed then
         ({ s with waitGets := s.waitGets.eraseIdx i }).withReply r.kind r.tag .ok (.credential (s.credentialReply w.slot))
       else { s with waitGets := s.waitGets.eraseIdx i })))

/-- A re-check that every holder passes releases the door, one that a holder or the vestibule fails cancels the grant, and one that
meets a running commit waits for it, be it reached by CONFIRM, by the end of the delay hold or after a commit; a CONFIRM is answered
with it. The re-check is the first failing step of the holders in their order, the grant's own record disregarded, at a single, an
inner, an outer and a perimeter door, and then the vestibule checks. DENY and the timeout of a confirmation cancel the waiting grant;
the lapse of the pair window removes it; CONFIRM and DENY without such a grant are BAD_STATE (R119, R123 to R125, R129 to R131, R133,
R165, R167, R168). That a CONFIRM which finds a re-check waiting already takes it over, and that holders are judged one after another,
are the model's choices: entry 8. -/
def Obligations.WaitingGrantEndsByItsCommand : Prop :=
  (∀ (s : State) (d : DoorId) (g : Grant) (t : State), s.grants.get d = some g → s.recheckVerdict d g = none →
     raise .grantOutcome (.door d) (some (.badge g.firstBadge)) (s.releaseTo d g.holders g.purpose g.reader) = t →
     (∀ dl, s.powered = true → g.stage = .awaitDelay → g.deadline = some dl → dl ≤ s.now →
       exec (.delayHoldEnd d) s = .next t) ∧
     (s.powered = true → s.commitRunning = false → g.recheck = some ⟨false⟩ → exec (.deferredRecheck d) s = .next t) ∧
     (∀ r, s.powered = true → s.commitRunning = false → g.recheck = some ⟨true⟩ → s.link.outstanding = some r →
       exec (.deferredRecheck d) s = .next (t.withReply r.kind r.tag .ok .none)) ∧
     (∀ tag, s.free → g.stage = .awaitConfirm → ∀ u, heard 0x31 tag s = u →
       exec (.confirm tag (number d)) s = .next
         ((raise .grantOutcome (.door d) (some (.badge g.firstBadge)) (u.releaseTo d g.holders g.purpose g.reader)).withReply
           0x31 tag .ok .none))) ∧
  (∀ (s : State) (d : DoorId) (g : Grant) (why : Reason) (t : State), s.grants.get d = some g →
     s.recheckVerdict d g = some (.denied why) → g.stage = .awaitDelay ∨ g.stage = .awaitConfirm →
     raise .grantCancelled (.door d) (some (.reason why)) { s with grants := put s.grants d none } = t →
     (∀ dl, s.powered = true → g.stage = .awaitDelay → g.deadline = some dl → dl ≤ s.now →
       exec (.delayHoldEnd d) s = .next t) ∧
     (s.powered = true → s.commitRunning = false → g.recheck = some ⟨false⟩ → exec (.deferredRecheck d) s = .next t) ∧
     (∀ r, s.powered = true → s.commitRunning = false → g.recheck = some ⟨true⟩ → s.link.outstanding = some r →
       exec (.deferredRecheck d) s = .next (t.withReply r.kind r.tag .denied (.reason why))) ∧
     (∀ tag, s.free → g.stage = .awaitConfirm →
       exec (.confirm tag (number d)) s = .next ((heard 0x31 tag t).withReply 0x31 tag .denied (.reason why)))) ∧
  (∀ (s : State) (d : DoorId) (g : Grant), s.grants.get d = some g → s.recheckVerdict d g = some .deferred →
     (∀ dl, s.powered = true → g.stage = .awaitDelay → g.deadline = some dl → dl ≤ s.now →
       exec (.delayHoldEnd d) s = .next
         { s with grants := put s.grants d (some { g with deadline := none, recheck := some ⟨false⟩ }) }) ∧
     (∀ tag, s.free → g.stage = .awaitConfirm →
       exec (.confirm tag (number d)) s = .next
         { heard 0x31 tag s with grants := put s.grants d (some { g with deadline := none, recheck := some ⟨true⟩ }) })) ∧
  (∀ (s : State) (d : DoorId) (v : RoomId) (g : Grant) (h : Holder), s.role d = .strongroom v → s.hasVestibule v = false →
     g.holders = [h] →
     (s.conflicts h.badge = true → s.recheckVerdict d g = some .deferred) ∧
     (s.conflicts h.badge = false → s.nv.findBadge h.badge = none →
       s.recheckVerdict d g = some (.denied .unknownBadge)) ∧
     (∀ slot c, s.conflicts h.badge = false → s.nv.findBadge h.badge = some (slot, c) →
       s.recheckVerdict d g = ((s.entryRefusal v c).or
         (if s.location slot ≠ .outside then some .passback
           else if 16 < (s.rooms.get v).listed.length + 1 then some .strongroomFull
           else if ¬s.doorReady d then some .doorUnavailable
           else none)).map .denied)) ∧
  (∀ (s : State) (d : DoorId) (g : Grant), s.grants.get d = some g → g.recheck = none →
     (∀ tag, s.free → g.stage = .awaitDelay ∨ g.stage = .awaitConfirm →
       exec (.deny tag (number d)) s = .next
         ((raise .grantCancelled (.door d) (some (.reason .hostDenied))
           { heard 0x32 tag s with grants := put s.grants d none }).withReply 0x32 tag .ok .none)) ∧
     (∀ dl, s.powered = true → g.stage = .awaitConfirm → g.deadline = some dl → dl ≤ s.now →
       exec (.confirmTimeout d) s = .next (raise .grantCancelled (.door d) (some (.reason .confirmTimeout))
         { s with grants := put s.grants d none })) ∧
     (∀ dl, s.powered = true → g.stage = .awaitPartner → g.deadline = some dl → dl ≤ s.now →
       exec (.pairWindowLapse d) s = .next (raise .grantExpired (.door d) (some (.badge g.firstBadge))
         { s with grants := put s.grants d none }))) ∧

  (∀ (s : State) (d : DoorId) (g : Grant),
     (∀ v, s.role d = .strongroom v → s.hasVestibule v = false →
       s.recheckVerdict d g = firstStopped (fun b => s.verdictBy b (s.singleRefusal d v g.holders.length)) g.holders) ∧
     (∀ v, s.role d = .strongroom v → s.hasVestibule v = true →
       s.recheckVerdict d g =
         (firstStopped (fun b => s.verdictBy b (s.innerStepRefusal d v)) g.holders).or ((s.innerRefusal v).map .denied)) ∧
     (∀ v, s.role d = .vestibuleOuter v →
       s.recheckVerdict d g =
         (firstStopped (fun b => s.verdictBy b (s.outerStepRefusal d v g.holders.length)) g.holders).or
           ((s.outerRefusal v).map .denied)) ∧
     (s.role d = .perimeter →
       s.recheckVerdict d g = firstStopped (fun b => s.verdictBy b (fun _ c => s.perimeterStepRefusal d c)) g.holders)) ∧
  (∀ (s : State) (d : DoorId) (g : Grant) (dl : Nat), s.powered = true → s.grants.get d = some g → g.stage = .awaitDelay →
     g.deadline = some dl → dl ≤ s.now → exec (.delayHoldEnd d) s = .next (startRecheck d false s)) ∧
  (∀ (s : State) (tag : Nat) (d : DoorId), s.free →
     ((∀ g, s.grants.get d = some g → g.stage ≠ .awaitConfirm) →
       exec (.confirm tag (number d)) s = .next ((heard 0x31 tag s).withReply 0x31 tag .badState .none)) ∧
     ((∀ g, s.grants.get d = some g → g.stage ≠ .awaitDelay ∧ g.stage ≠ .awaitConfirm) →
       exec (.deny tag (number d)) s = .next ((heard 0x32 tag s).withReply 0x32 tag .badState .none))) ∧

  (∀ (s : State) (tag : Nat) (d : DoorId) (g : Grant), s.free → s.grants.get d = some g →
     g.stage = .awaitDelay ∨ g.stage = .awaitConfirm →
     exec (.deny tag (number d)) s = .next (((heard 0x32 tag s).grantDropped d .hostDenied).withReply 0x32 tag .ok .none))

/-- The freeze leaves no entry grant before RELEASED, exit grants and RELEASED entry grants stand, and FREEZE_CLEAR clears the overlay
alone (R121, R135). How the freeze and a zone's change of state cancel (`setFreeze`, `handZone`): door by door in ascending number, each
entry grant they reach; on entry to RELEASE the resting closed doors at UNBOLTED throw their bolts (R59, R135, R159). What a
cancellation does (`cancelGrant`): GRANT_CANCELLED, a waiting CONFIRM answered DENIED, and at a door in RELEASING or RELEASED a throw
that keeps the trip count, or the cool-down run to its end (R119, R129, R134, R148). The order of the doors: entry 9; the trip count of
a throw complete at once, and the bolt command after a cool-down: entry 14. -/
def Obligations.FreezeCancelsEntryGrants : Prop :=
  (∀ (s : State) (tag : Nat), s.free →
    (s.freeze = false →
      ∃ t, exec (.freezeSet tag) s = .next t ∧ t.freeze = true ∧
        (∀ d g, t.grants.get d = some g → g.purpose = .entry → g.stage = .released ∧ s.grants.get d = some g) ∧
        (∀ d g, s.grants.get d = some g → g.purpose = .exit ∨ g.stage = .released → t.grants.get d = some g) ∧
        t = { s with hostPresent := true, freeze := true, grants := t.grants, doors := t.doors, vests := t.vests,
                     locations := t.locations, link := t.link }) ∧
    (s.freeze = true → exec (.freezeSet tag) s = .next ((heard 0x33 tag s).withReply 0x33 tag .ok .none)) ∧
    exec (.freezeClear tag) s = .next (({ heard 0x34 tag s with freeze := false }).withReply 0x34 tag .ok .none)) ∧

  (∀ s : State, s.freeze = false →
    setFreeze s = (every 20).foldl (fun t d =>
      if (t.grants.get d).any (fun g => g.purpose = .entry && g.stage ≠ .released) then cancelGrant d .frozen t else t)
      { s with freeze := true } ∧
    (∀ tag, s.free → exec (.freezeSet tag) s = .next ((setFreeze (heard 0x33 tag s)).withReply 0x33 tag .ok .none))) ∧
  (∀ (s : State) (z : ZoneId) (t : State),
    (every 20).foldl (fun u d => if u.hazardReaches z d then cancelGrant d .zoneHazard u else u) s = t →
    ((s.zones.get z).state ≠ .release → handZone z s = t) ∧
    ((s.zones.get z).state = .release →
      handZone z s = (every 20).foldl (fun u d =>
        if (u.role d).room = some z ∧ ((u.doors.get d).state = .relocking ∨ (u.doors.get d).state = .insecure) ∧
            (u.doors.get d).motion = .idle ∧ u.doorBand d = .unbolted then
          { u with doors := put u.doors d { u.doors.get d with bolt := .thrown, motion := .moving .thrown (u.now + 3000) } }
        else u) t)) ∧
  (∀ (s : State) (d : DoorId) (why : Reason),
    (s.grants.get d = none → cancelGrant d why s = s) ∧
    (∀ g x, s.grants.get d = some g → s.doors.get d = x → ∀ u,
      State.confirmDenied g why
        (raise .grantCancelled (.door d) (some (.reason why)) { s with grants := put s.grants d none }) = u →
      (g.stage = .awaitPartner ∨ g.stage = .awaitDelay ∨ g.stage = .awaitConfirm → cancelGrant d why s = u) ∧
      (g.stage = .releasing ∨ g.stage = .released →
        (∀ retry until_, x.state = .releasing → x.motion = .cooling retry until_ →
          cancelGrant d why s =
            { u with doors := put s.doors d { x with state := .relocking, bolt := .thrown, motion := .cooling .thrown until_ } }) ∧
        (x.state = .releasing ∧ (∀ retry until_, x.motion ≠ .cooling retry until_) ∨ x.state = .released →
          (s.doorBand d ≠ .bolted → cancelGrant d why s = { u with doors := put s.doors d (x.throwing .relocking s.now) }) ∧
          (s.role d ≠ .unused → s.doorBand d = .bolted →
            cancelGrant d why s = handSecure d false ((if x.alarm then raise .doorSecured (.door d) none else id)
              { u with doors := put s.doors d x.shut }))) ∧
        (x.state ≠ .releasing → x.state ≠ .released → cancelGrant d why s = u))))

/-! ## Door channels -/

/-- What a door in AUTOMATIC does at each band its line confirms, by its state, where the band before hid nothing (R138, R142, R145
to R152). A passage moves the grant's holders, an opening without one is an egress passage or forced, and a door that is bolted is
SECURE. That a bolt found thrown without a motion keeps the trip count is deduced: entry 14. -/
def Obligations.AutomaticDoorTakesEachBand : Prop :=
  ∀ (s : State) (d : DoorId) (b previous : Band), s.sup.ready = true → s.role d ≠ .unused → s.doorBand d = b →
    previous = .bolted ∨ previous = .unbolted ∨ previous = .opened ∨ previous = .egress →
    ∀ x, s.doors.get d = x → ∀ opening, x.opening (s.now + (s.doorSettings d).heldOpen * 1000) = opening →
    ∀ t, doorChange d b previous s = t →
    (∀ y, (match x.state, b with
        | .secure, .egress => some { x with egress := true }
        | .secure, .bolted => some { x with egress := false }
        | .secure, .unbolted => if x.egress then some (x.throwing .relocking s.now) else none
        | .releasing, .bolted | .released, .unbolted | .released, .egress | .opened, .opened | .opened, .egress => some x
        | .releasing, .unbolted | .releasing, .egress =>
          if (s.grants.get d).isSome then none
          else some { x with
            state := .released, bolt := .withdrawn, motion := .idle, trips := 0
            releaseDl := some (s.now + (s.doorSettings d).releaseTime * 1000) }
        | .opened, .unbolted => some (x.throwing .relocking s.now)
        | .relocking, .unbolted | .insecure, .unbolted =>
          some (if x.motion = .idle then { x with bolt := .thrown, motion := .moving .thrown (s.now + 3000) } else x)
        | .relocking, .egress | .insecure, .egress => some { x with egress := true, motion := .idle }
        | _, _ => none) = some y →
      t = showBand d b { s with doors := put s.doors d y }) ∧
    (x.state = .secure → b = .unbolted → x.egress = false →
      t = showBand d b (raise .doorInsecure (.door d) none
        { s with doors := put s.doors d { x.throwing .insecure s.now with alarm := true } })) ∧
    (∀ g, x.state = .releasing → b = .unbolted ∨ b = .egress → s.grants.get d = some g →
      t = showBand d b { s with
        grants := put s.grants d (some { g with stage := .released })
        doors := put s.doors d { x with
          state := .released, bolt := .withdrawn, motion := .idle, trips := 0
          releaseDl := some (s.now + (s.doorSettings d).releaseTime * 1000) } }) ∧
    (∀ g, s.grants.get d = some g → b = .opened →
      (x.state = .releasing →
        t = showBand d b (settled (movePassage d g)
          { s with grants := put s.grants d none, doors := put s.doors d { opening with bolt := .withdrawn, trips := 0 } })) ∧
      (x.state = .released →
        t = showBand d b (settled (movePassage d g) { s with grants := put s.grants d none, doors := put s.doors d opening }))) ∧
    (∀ g, x.state = .released → b = .bolted → s.grants.get d = some g → g.stage.waits = false →
      t = showBand d b (handSecure d false (raise .doorSecured (.door d) none
        (raise .grantFailed (.door d) (some (.badge g.firstBadge)) (raise .doorFault (.door d) (some (.named .boltReturned))
          { s with grants := put s.grants d none, doors := put s.doors d x.shut }))))) ∧
    (x.state = .opened ∨ x.state = .relocking ∨ x.state = .insecure → b = .bolted →
      t = showBand d b (handSecure d false ((if x.alarm then raise .doorSecured (.door d) none else id)
        { s with
          doors := put s.doors d
            { x.shut with trips := if x.state ≠ .opened ∧ x.motion ≠ .idle then 0 else x.trips } }))) ∧
    (x.state = .secure ∨ x.state = .relocking ∨ x.state = .insecure → b = .opened →
      t = showBand d b (if x.egress then
          egressPassage d (raise .doorEgress (.door d) none { s with doors := put s.doors d { opening with egress := false } })
        else
          raise .doorForced (.door d) (some (.named (.doorState x.state)))
            { s with doors := put s.doors d { opening with alarm := true } }))

/-- A fault band hides a door, and its return from one, or from UNKNOWN, re-derives it without an alarm; in DRIVER_LATCHED and MANUAL
the line is followed, a motion completes, a withdraw at OPEN too, and an opening is reported; an UNUSED door keeps position and egress
flag alone (R138, R140 to R142, R153, R154). That DOOR_DRIVE_DONE comes before the notice of that opening: entry 32. Every re-derivation
(`rederive`) follows the line's band (R141, R151). Which bands move the egress flag of an UNUSED door, and that a SECURE door makes no
new entry to SECURE, is deduced: entry 14; before READY the band is UNKNOWN: entry 25. -/
def Obligations.HiddenAndOverlaidDoorsTakeEachBand : Prop :=
  (∀ (s : State) (d : DoorId) (b previous : Band), s.sup.ready = true → s.doorBand d = b →
    ∀ x, s.doors.get d = x → ∀ opening, x.opening (s.now + (s.doorSettings d).heldOpen * 1000) = opening →
    ∀ t, doorChange d b previous s = t →
    (s.role d = .unused → t = showBand d b { s with
      doors := put s.doors d { x with egress := if b = .egress then true else if b = .unbolted then x.egress else false } }) ∧
    (s.role d ≠ .unused → b = .short ∨ b = .openLine ∨ b = .unclassified →
      ∀ hidden : Door, { x with
        state := .lineFault, motion := .idle, egress := false, position := none, releaseDl := none, heldOpenDl := none } = hidden →
      (s.grantMoving d = false → t = { s with doors := put s.doors d hidden }) ∧
      (∀ g, s.grants.get d = some g → g.stage.waits = false →
        t = raise .grantFailed (.door d) (some (.badge g.firstBadge))
          { s with grants := put s.grants d none, doors := put s.doors d hidden })) ∧
    (s.role d ≠ .unused → previous = .unknown ∨ previous = .short ∨ previous = .openLine ∨ previous = .unclassified →
      x.state = .lineFault → s.grantMoving d = false →
      (x.latch = false → x.mode = .automatic →
        (b = .bolted →
          t = showBand d b (handSecure d true ((if x.alarm then raise .doorSecured (.door d) none else id)
            { s with doors := put s.doors d x.shut }))) ∧
        (∀ y, (match b with
            | .unbolted => some (x.throwing .relocking s.now)
            | .opened => some opening
            | .egress =>
              some (if x.position = some .opened then opening
                else { x with
                  state := .relocking, bolt := .thrown, motion := .idle, egress := true, releaseDl := none, heldOpenDl := none })
            | _ => none) = some y →
          t = showBand d b { s with doors := put s.doors d y })) ∧
      (x.latch = true ∨ x.mode = .manual → b = .bolted ∨ b = .unbolted ∨ b = .opened ∨ b = .egress →
        t = showBand d b { s with doors := put s.doors d { x with
          state := if x.latch then .driverLatched else .manual
          motion := .idle, releaseDl := none, heldOpenDl := none
          bolt := if b = .opened ∨ b = .egress ∧ x.position = some .opened then x.bolt else .thrown
          egress := if b = .bolted then false else if b = .egress ∧ x.position ≠ some .opened then true else x.egress } })) ∧
    (s.role d ≠ .unused → x.state = .driverLatched ∨ x.state = .manual →
      previous = .bolted ∨ previous = .unbolted ∨ previous = .opened ∨ previous = .egress →
      b = .bolted ∨ b = .unbolted ∨ b = .opened ∨ b = .egress →
      (x.state = .driverLatched ∨
          (∀ target dl, x.motion = .moving target dl ∨ x.motion = .cooling target dl → target.reachedAt b = false) →
        (b ≠ .opened ∨ x.position = some .opened →
          t = showBand d b { s with doors := put s.doors d { x with
            egress := if b = .bolted then false else if b = .egress ∧ x.position ≠ some .opened then true else x.egress } }) ∧
        (b = .opened → x.position ≠ some .opened →
          t = showBand d b (if x.egress then
              egressPassage d (raise .doorEgress (.door d) none { s with doors := put s.doors d { x with egress := false } })
            else if x.state = .driverLatched then
              raise .doorForced (.door d) (some (.named (.doorState .driverLatched)))
                { s with doors := put s.doors d { x with alarm := true } }
            else raise .doorOpened (.door d) none s))) ∧
      (∀ target dl, x.state = .manual → x.motion = .moving target dl ∨ x.motion = .cooling target dl →
        target.reachedAt b = true → b ≠ .opened →
        t = showBand d b (raise .doorDriveDone (.door d) (some (.named (.bolt target)))
          { s with doors := put s.doors d { x with
              bolt := target, motion := .idle, trips := 0
              egress := if b = .bolted then false else if b = .egress ∧ x.position ≠ some .opened then true else x.egress } })) ∧
      (∀ target dl, x.state = .manual → x.motion = .moving target dl ∨ x.motion = .cooling target dl →
        target.reachedAt b = true → b = .opened → ∀ y, { x with bolt := .withdrawn, motion := .idle, trips := 0 } = y →
        ∀ u, raise .doorDriveDone (.door d) (some (.named (.bolt .withdrawn))) { s with doors := put s.doors d y } = u →
        target = .withdrawn ∧
        (x.position = some .opened → t = showBand d b u) ∧
        (x.position ≠ some .opened → x.egress = false → t = showBand d b (raise .doorOpened (.door d) none u)) ∧
        (x.position ≠ some .opened → x.egress = true →
          t = showBand d b (egressPassage d (raise .doorEgress (.door d) none
            { u with doors := put s.doors d { y with egress := false } })))))) ∧

  (∀ (s : State) (d : DoorId) (b : Band) (x y opening : Door), s.doors.get d = x → s.doorBand d = b →
    { x with motion := .idle, releaseDl := none, heldOpenDl := none } = y →
    x.opening (s.now + (s.doorSettings d).heldOpen * 1000) = opening →
    (b = .unknown ∨ b = .short ∨ b = .openLine ∨ b = .unclassified →
      rederive d s = { s with doors := put s.doors d { y with state := .lineFault } }) ∧
    (x.latch = true ∨ x.mode = .manual → b = .bolted ∨ b = .unbolted ∨ b = .opened ∨ b = .egress →
      rederive d s = { s with doors := put s.doors d { y with
        state := if x.latch then .driverLatched else .manual
        bolt := if b = .opened ∨ b = .egress ∧ x.position = some .opened then x.bolt else .thrown
        egress := if b = .bolted then false else if b = .egress ∧ x.position ≠ some .opened then true else x.egress } }) ∧
    (x.latch = false → x.mode = .automatic →
      (b = .bolted → s.role d ≠ .unused →
        rederive d s = (if x.state = .secure then id else handSecure d true)
          ((if x.alarm then raise .doorSecured (.door d) none else id) { s with doors := put s.doors d x.shut })) ∧
      (b = .unbolted → rederive d s = { s with doors := put s.doors d (x.throwing .relocking s.now) }) ∧
      (b = .opened → rederive d s = { s with doors := put s.doors d opening }) ∧
      (b = .egress → rederive d s = { s with doors := put s.doors d (if x.position = some .opened then opening
        else { y with state := .relocking, bolt := .thrown, egress := true }) })))

/-- Overcurrent trips: a cool-down below the fifth, the latch at the fifth, and none without a motion; a motion begins again at
the end of its cool-down, and is complete at once where the line shows its target. The motion timeout: a failed withdraw throws, and is
SECURE at once at BOLTED, a failed throw is INSECURE; the release deadline passes unopened; the held-open deadline raises its alarm once.
The next states are given in full, with DRIVER_LATCHED, DOOR_FAULT, GRANT_FAILED, GRANT_EXPIRED, DOOR_HELD_OPEN and DOOR_SECURED (R134,
R142 to R147, R149 to R151; `handSecure`, `movePassage` and `settle` by VestibulePassagesMoveOccupants, PassagesMoveSlots and
LoneWorkerTimerFollowsPressesAndDeadlines). That a trip without a motion does nothing is the model's choice: entry 3; the trip count of
a motion complete at once, and no notice of an UNUSED door or before READY: entry 14. -/
def Obligations.DoorMotionsTripTimeOutAndRelock : Prop :=
  (∀ (s : State) (d : DoorId) (x : Door), s.powered = true → s.doors.get d = x →
     (∀ target dl, x.motion = .moving target dl → x.trips < 4 →
       exec (.overcurrentTrip d) s = .next { s with
         doors := put s.doors d
           { x with trips := x.trips + 1, motion := .cooling target (s.now + 2000) } }) ∧
     (∀ target dl, x.motion = .moving target dl → 4 ≤ x.trips →
       ∃ t, exec (.overcurrentTrip d) s = .next t ∧
         t.doors = put s.doors d { x with
           trips := x.trips + 1, latch := true, alarm := true, motion := .idle, state := .driverLatched
           releaseDl := none, heldOpenDl := none } ∧
         t.grants = (if s.grantMoving d then put s.grants d none else s.grants) ∧
         t = { s with doors := t.doors, grants := t.grants, link := t.link }) ∧
     ((∀ target dl, x.motion ≠ .moving target dl) → exec (.overcurrentTrip d) s = .next s)) ∧
  (∀ (s : State) (d : DoorId) (target : Bolt) (dl : Nat), s.powered = true → (s.doors.get d).motion = .cooling target dl →
     dl ≤ s.now → target.reachedAt (s.doorBand d) = false →
     exec (.coolDownEnd d) s = .next { s with
       doors := put s.doors d
         { s.doors.get d with bolt := target, motion := .moving target (s.now + 3000) } }) ∧
  (∀ (s : State) (d : DoorId) (x : Door) (target : Bolt) (dl : Nat), s.powered = true → s.doors.get d = x →
     x.motion = .moving target dl → dl ≤ s.now → s.doorBand d ≠ .bolted →
     ∃ t, exec (.motionTimeout d) s = .next t ∧
       (target = .withdrawn → x.state = .releasing →
         t.doors = put s.doors d { x with
           state := .relocking, bolt := .thrown, motion := .moving .thrown (s.now + 3000), alarm := true
           releaseDl := none, heldOpenDl := none } ∧
         t.grants = (if s.grantMoving d then put s.grants d none else s.grants)) ∧
       (target = .thrown → x.state = .relocking ∨ x.state = .insecure →
         t.doors = put s.doors d { x with state := .insecure, motion := .idle, alarm := true } ∧ t.grants = s.grants) ∧
       (x.state = .manual → t.doors = put s.doors d { x with motion := .idle, alarm := true } ∧ t.grants = s.grants) ∧
       t = { s with doors := t.doors, grants := t.grants, link := t.link }) ∧
  (∀ (s : State) (d : DoorId) (dl : Nat), s.powered = true →
     ((s.doors.get d).state = .released → (s.doors.get d).releaseDl = some dl → dl ≤ s.now → s.doorBand d ≠ .bolted →
       ∃ t, exec (.releaseDeadline d) s = .next t ∧ t.grants = put s.grants d none ∧
         t.doors = put s.doors d { s.doors.get d with
           state := .relocking, bolt := .thrown, motion := .moving .thrown (s.now + 3000), releaseDl := none
           heldOpenDl := none } ∧
         t = { s with doors := t.doors, grants := t.grants, link := t.link }) ∧
     ((s.doors.get d).state = .opened → (s.doors.get d).heldOpenDl = some dl → dl ≤ s.now →
       ∃ t, exec (.heldOpenDeadline d) s = .next t ∧
         t.doors = put s.doors d { s.doors.get d with heldOpenDl := none, alarm := true } ∧
         t = { s with doors := t.doors, link := t.link })) ∧

  (∀ (s : State) (d : DoorId) (x : Door) (target : Bolt) (dl : Nat), s.powered = true → s.doors.get d = x →
     (x.motion = .moving target dl → 4 ≤ x.trips →
       exec (.overcurrentTrip d) s = .next (State.withdrawFailed d (State.doorNotice .driverLatched d (some (.named (.bolt target))) { s with
         doors := put s.doors d { x with
           trips := x.trips + 1, latch := true, alarm := true, motion := .idle, state := .driverLatched
           releaseDl := none, heldOpenDl := none } }))) ∧
     (x.motion = .moving target dl → dl ≤ s.now →
       ∀ u, State.doorNotice .doorFault d
         (some (.named (if target = .withdrawn then .withdrawTimeout else .throwTimeout)))
         { s with doors := put s.doors d { x with motion := .idle, alarm := true } } = u →
       (x.state = .manual → exec (.motionTimeout d) s = .next u) ∧
       (target = .thrown → x.state = .relocking ∨ x.state = .insecure →
         exec (.motionTimeout d) s = .next { u with
           doors := put s.doors d { x with state := .insecure, motion := .idle, alarm := true } }) ∧
       (target = .withdrawn → x.state = .releasing → ∀ w, State.withdrawFailed d u = w →
         (s.doorBand d ≠ .bolted →
           exec (.motionTimeout d) s = .next { w with
             doors := put s.doors d { x.throwing .relocking s.now with alarm := true } }) ∧
         (s.doorBand d = .bolted →
           exec (.motionTimeout d) s = .next (handSecure d false (State.doorNotice .doorSecured d none { w with
             doors := put s.doors d { x.shut with trips := 0 } }))))) ∧
     (x.motion = .cooling target dl → dl ≤ s.now → target.reachedAt (s.doorBand d) = true →
       (x.state = .manual →
         exec (.coolDownEnd d) s = .next (State.doorNotice .doorDriveDone d (some (.named (.bolt target))) { s with
           doors := put s.doors d { x with bolt := target, motion := .idle, trips := 0 } })) ∧
       (target = .thrown → x.state = .relocking ∨ x.state = .insecure →
         exec (.coolDownEnd d) s = .next (handSecure d false ((if x.alarm then State.doorNotice .doorSecured d none else id) { s with
           doors := put s.doors d { x.shut with trips := 0 } }))) ∧
       (∀ g, target = .withdrawn → x.state = .releasing → s.grants.get d = some g →
         (s.doorBand d ≠ .opened →
           exec (.coolDownEnd d) s = .next { s with
             grants := put s.grants d (some { g with stage := .released })
             doors := put s.doors d { x with
               state := .released, bolt := .withdrawn, motion := .idle, trips := 0
               releaseDl := some (s.now + (s.doorSettings d).releaseTime * 1000) } }) ∧
         (s.doorBand d = .opened →
           exec (.coolDownEnd d) s = .next (settle s.rooms (movePassage d g { s with
             grants := put s.grants d none
             doors := put s.doors d { x.opening (s.now + (s.doorSettings d).heldOpen * 1000) with
               bolt := .withdrawn, trips := 0 } })))))) ∧
  (∀ (s : State) (d : DoorId) (x : Door) (dl : Nat), s.powered = true → s.doors.get d = x → dl ≤ s.now →
     (∀ u, x.state = .released → x.releaseDl = some dl →
       (match s.grants.get d with
         | some g => State.doorNotice .grantExpired d (some (.badge g.firstBadge)) { s with grants := put s.grants d none }
         | none => s) = u →
       (s.doorBand d ≠ .bolted →
         exec (.releaseDeadline d) s = .next { u with doors := put s.doors d (x.throwing .relocking s.now) }) ∧
       (s.doorBand d = .bolted →
         exec (.releaseDeadline d) s = .next (handSecure d false ((if x.alarm then State.doorNotice .doorSecured d none else id) { u with
           doors := put s.doors d { x.shut with trips := 0 } })))) ∧
     (x.state = .opened → x.heldOpenDl = some dl →
       exec (.heldOpenDeadline d) s = .next (State.doorNotice .doorHeldOpen d none { s with
         doors := put s.doors d { x with heldOpenDl := none, alarm := true } })))

/-- DOOR_MODE; DOOR_DRIVE with the checks of a WITHDRAW in their order, either door of a vestibule refused while the other is not shut, and
either direction complete at once, with DOOR_DRIVE_DONE, where the line shows its target (the trip count then: entry 14);
DOOR_SERVICE clears the latch and re-derives the door (`rederive`, by HiddenAndOverlaidDoorsTakeEachBand); an UNUSED door, and for
DOOR_SERVICE one with a moving grant, is BAD_STATE (R140 to R142, R155 to R157). The codes of modes and directions are the model's:
entry 5. -/
def Obligations.DoorRequestsModeDriveService : Prop :=
  (∀ (s : State) (tag : Nat) (d : DoorId), s.free → s.role d ≠ .unused →
     (s.grants.get d = none → (s.doors.get d).mode = .automatic → (s.doors.get d).state.overlay = false →
       exec (.doorMode tag (number d) 1) s = .next (({ heard 0x48 tag s with
         doors := put s.doors d
           { s.doors.get d with
             mode := .manual, state := .manual, motion := .idle, releaseDl := none
             heldOpenDl := none } }).withReply 0x48 tag .ok .none)) ∧
     (∀ g, s.grants.get d = some g →
       exec (.doorMode tag (number d) 1) s = .next ((heard 0x48 tag s).withReply 0x48 tag .badState .none)) ∧
     ((s.doors.get d).mode = .manual → (s.doors.get d).latch = false → s.doorBand d = .unbolted →
       exec (.doorMode tag (number d) 0) s = .next (({ heard 0x48 tag s with
         doors := put s.doors d
           { s.doors.get d with
             mode := .automatic, state := .relocking, bolt := .thrown, motion := .moving .thrown (s.now + 3000)
             releaseDl := none, heldOpenDl := none } }).withReply 0x48 tag .ok .none))) ∧
  (∀ (s : State) (tag : Nat) (d : DoorId), s.free →
     ((s.doors.get d).mode = .automatic ∨ (s.doors.get d).state = .lineFault ∨ (s.doors.get d).state = .driverLatched →
       ∀ b, b = 0 ∨ b = 1 →
         exec (.doorDrive tag (number d) b) s = .next ((heard 0x49 tag s).withReply 0x49 tag .badState .none)) ∧
     ((s.doors.get d).mode = .manual → (s.doors.get d).state = .manual →
       (s.doorBand d ≠ .bolted →
         exec (.doorDrive tag (number d) 0) s = .next (({ heard 0x49 tag s with
           doors := put s.doors d
             { s.doors.get d with bolt := .thrown, motion := .moving .thrown (s.now + 3000) } }).withReply 0x49 tag .ok .none)) ∧
       (∀ v, (s.role d).room = some v → (s.zones.get v).state.refusesAll = true →
         exec (.doorDrive tag (number d) 1) s = .next ((heard 0x49 tag s).withReply 0x49 tag .zoneHazard .none)) ∧
       (s.sup.ready = true → s.role d ≠ .unused → s.doorBand d = .bolted →
         exec (.doorDrive tag (number d) 0) s = .next ((raise .doorDriveDone (.door d) (some (.named (.bolt .thrown)))
           { heard 0x49 tag s with
             doors := put s.doors d { s.doors.get d with bolt := .thrown, motion := .idle, trips := 0 } }).withReply 0x49 tag .ok
               .none)) ∧
       (∀ v e, s.role d = .vestibuleOuter v ∧ s.strongroomDoor v = some e ∨ s.role d = .strongroom v ∧ s.outerDoor v = some e →
         (s.zones.get v).state.refusesAll = false → ¬s.countsShut e →
         exec (.doorDrive tag (number d) 1) s = .next ((heard 0x49 tag s).withReply 0x49 tag .interlock .none)) ∧
       ((∃ v, (s.zones.get v).state.refusesAll = false ∧
           ((∃ e, s.countsShut e ∧
             (s.role d = .vestibuleOuter v ∧ s.strongroomDoor v = some e ∨ s.role d = .strongroom v ∧ s.outerDoor v = some e)) ∨
           s.role d = .strongroom v ∧ s.hasVestibule v = false)) ∨ s.role d = .perimeter → s.doorBand d = .bolted →
         exec (.doorDrive tag (number d) 1) s = .next (({ heard 0x49 tag s with
           doors := put s.doors d
             { s.doors.get d with
               bolt := .withdrawn, motion := .moving .withdrawn (s.now + 3000) } }).withReply 0x49 tag .ok .none)) ∧
       ((∃ v, (s.zones.get v).state.refusesAll = false ∧
           ((∃ e, s.countsShut e ∧
             (s.role d = .vestibuleOuter v ∧ s.strongroomDoor v = some e ∨ s.role d = .strongroom v ∧ s.outerDoor v = some e)) ∨
           s.role d = .strongroom v ∧ s.hasVestibule v = false)) ∨ s.role d = .perimeter →
         s.doorBand d = .unbolted ∨ s.doorBand d = .opened ∨ s.doorBand d = .egress →
         exec (.doorDrive tag (number d) 1) s = .next ((raise .doorDriveDone (.door d) (some (.named (.bolt .withdrawn)))
           { heard 0x49 tag s with
             doors := put s.doors d { s.doors.get d with bolt := .withdrawn, motion := .idle, trips := 0 } }).withReply 0x49 tag .ok
               .none)))) ∧
  (∀ (s : State) (tag : Nat) (d : DoorId), s.free → s.role d ≠ .unused → s.grantMoving d = false →
     (s.doors.get d).mode = .automatic → s.doorBand d = .unbolted →
     exec (.doorService tag (number d)) s = .next (({ heard 0x4A tag s with
       doors := put s.doors d
         { s.doors.get d with
           latch := false, trips := 0, state := .relocking, bolt := .thrown, motion := .moving .thrown (s.now + 3000)
           releaseDl := none, heldOpenDl := none } }).withReply 0x4A tag .ok .none)) ∧

  (∀ (s : State) (tag : Nat) (d : DoorId), s.free → ∀ x, s.doors.get d = x →
     (s.role d = .unused →
       (∀ m, m = 0 ∨ m = 1 → exec (.doorMode tag (number d) m) s = .next ((heard 0x48 tag s).withReply 0x48 tag .badState .none)) ∧
       exec (.doorService tag (number d)) s = .next ((heard 0x4A tag s).withReply 0x4A tag .badState .none)) ∧
     (∀ g, s.grants.get d = some g → g.stage = .releasing ∨ g.stage = .released →
       exec (.doorService tag (number d)) s = .next ((heard 0x4A tag s).withReply 0x4A tag .badState .none)) ∧
     (s.role d ≠ .unused →
       (s.grants.get d = none → x.mode = .manual →
         exec (.doorMode tag (number d) 1) s = .next ((heard 0x48 tag s).withReply 0x48 tag .ok .none)) ∧
       (s.grants.get d = none → x.mode = .automatic → x.state = .lineFault ∨ x.state = .driverLatched →
         exec (.doorMode tag (number d) 1) s = .next (({ heard 0x48 tag s with
           doors := put s.doors d { x with mode := .manual } }).withReply 0x48 tag .ok .none)) ∧
       (x.mode = .automatic →
         exec (.doorMode tag (number d) 0) s = .next ((heard 0x48 tag s).withReply 0x48 tag .ok .none)) ∧
       (x.mode = .manual →
         exec (.doorMode tag (number d) 0) s = .next ((rederive d { heard 0x48 tag s with
           doors := put s.doors d { x with mode := .automatic } }).withReply 0x48 tag .ok .none)) ∧
       ((∀ g, s.grants.get d = some g → g.stage ≠ .releasing ∧ g.stage ≠ .released) →
         exec (.doorService tag (number d)) s = .next ((rederive d { heard 0x4A tag s with
           doors := put s.doors d { x with latch := false, trips := 0 } }).withReply 0x4A tag .ok .none))))

/-! ## Vestibules -/

/-- Passages through a vestibule: inbound and outbound at the outer door, the exit at the inner door into the chamber, each for holders
found in any place, and the egress at the outer door; each removal drops a waiting inner grant of that holder. The inner door's entry to
SECURE releases the outer door of an OUTBOUND chamber. The next states are given in full, with the notices and, after the passage of a
grant, the reports of E and the lone-worker condition (`settle`, by LoneWorkerTimerFollowsPressesAndDeadlines; R97, R100, R102, R163,
R166, R170, R171, R173, R174). The order of the notices of several blocks: entry 9; the object of a correction for a vestibule: entry
28; a release whose line shows OPEN, which no SECURE door does: entry 14. -/
def Obligations.VestibulePassagesMoveOccupants : Prop :=
  (∀ (s : State) (d : DoorId) (v : RoomId) (g : Grant) (h : Holder), s.role d = .vestibuleOuter v → s.grants.get d = some g →
     g.purpose = .entry → g.holders = [h] → s.location h.slot = .outside →
     passage d s = raise .vestibuleIn (.strongroom v) (some (.badge h.badge))
       { s with
         grants := put s.grants d none, locations := sparsePut .outside s.locations h.slot (.inVestibule v)
         vests := put s.vests v
           { direction := .inbound, occupants := (s.vests.get v).occupants ++ [⟨h.slot, h.badge, s.clockTime⟩] } }) ∧
  (∀ (s : State) (d : DoorId) (v : RoomId) (g : Grant), s.role d = .vestibuleOuter v → s.grants.get d = some g →
     g.purpose = .exit → ∀ gone, (s.vests.get v).occupants = gone → (∀ h ∈ g.holders, ∃ o ∈ gone, o.slot = h.slot) →
     sparseOk .outside s.locations = true → ∀ t, passage d s = t →
     t.vests = put s.vests v { direction := .none, occupants := [] } ∧ t.grants.get d = none ∧
     (∀ o ∈ gone, t.location o.slot = .outside) ∧
     (∀ slot, (∀ o ∈ gone, o.slot ≠ slot) → t.location slot = s.location slot) ∧
     (∀ e w, e ≠ d → s.grants.get e = some w →
       t.grants.get e = if s.strongroomDoor v = some e ∧ w.purpose = .entry ∧ w.stage.waits = true ∧
           (∃ o ∈ gone, w.holds o.slot = true) then none else some w) ∧
     t = { s with vests := t.vests, grants := t.grants, locations := t.locations, link := t.link }) ∧
  (∀ (s : State) (d : DoorId) (v : RoomId) (g : Grant), s.role d = .vestibuleOuter v → s.grants.get d = some g →
     g.purpose = .exit →
     passage d s = settle s.rooms (g.holders.foldl (fun u h => u.slotMoved v h.slot h.badge .outside .outside)
       (State.vestibuleEmptied v .vestibuleOut { s with grants := put s.grants d none }))) ∧
  (∀ (s : State) (d : DoorId) (v : RoomId) (g : Grant), s.role d = .vestibuleOuter v → s.grants.get d = some g →
     g.purpose = .entry →
     passage d s = settle s.rooms (g.holders.foldl (fun u h => raise .vestibuleIn (.strongroom v) (some (.badge h.badge))
       ((u.slotMoved v h.slot h.badge .outside (.inVestibule v)).chamberEntered v h.slot h.badge .inbound))
       { s with grants := put s.grants d none })) ∧
  (∀ (s : State) (d : DoorId) (v : RoomId) (g : Grant) (h : Holder), s.role d = .strongroom v → s.hasVestibule v = true →
     s.grants.get d = some g → g.purpose = .exit → g.holders = [h] → s.location h.slot = .inStrongroom v →
     (s.zones.get v).state ≠ .heldOccupied → ∀ t, passage d s = t →
     t.vests = put s.vests v
       { direction := .outbound, occupants := (s.vests.get v).occupants ++ [⟨h.slot, h.badge, s.clockTime⟩] } ∧
     (t.rooms.get v).listed = (s.rooms.get v).listed.filter (fun e => e.slot ≠ h.slot) ∧
     t.locations = sparsePut .outside s.locations h.slot (.inVestibule v) ∧ t.grants = put s.grants d none ∧
     (∀ w, w ≠ v → t.rooms.get w = s.rooms.get w) ∧ (∀ z, z ≠ v → t.zones.get z = s.zones.get z) ∧
     ((∀ c, (s.zones.get v).countdown = some c → c.kind = .automatic → (t.rooms.get v).effective ≤ (s.zones.get v).peak) →
       t.zones = s.zones) ∧
     t = { s with vests := t.vests, rooms := t.rooms, locations := t.locations, grants := t.grants, zones := t.zones,
                  link := t.link }) ∧
  (∀ (s : State) (d : DoorId) (v : RoomId) (g : Grant) (h : Holder), s.role d = .strongroom v → s.hasVestibule v = true →
     s.grants.get d = some g → g.purpose = .exit → g.holders = [h] →
     s.location h.slot = .inStrongroom v ∨ s.location h.slot = .outside → ∀ x, s.rooms.get v = x →
     passage d s = settle s.rooms (raise .exit (.strongroom v) (some (.badge h.badge)) { s with
       grants := put s.grants d none, locations := sparsePut .outside s.locations h.slot (.inVestibule v)
       rooms := put s.rooms v (if s.location h.slot = .outside then x
         else { x with listed := x.listed.filter (fun e => e.slot ≠ h.slot) })
       vests := put s.vests v
         { direction := .outbound, occupants := (s.vests.get v).occupants ++ [⟨h.slot, h.badge, s.clockTime⟩] } })) ∧
  (∀ (s : State) (d : DoorId) (v : RoomId), s.role d = .vestibuleOuter v → ∀ t, egressPassage d s = t →
     ((s.vests.get v).occupants = [] → t = s) ∧
     (∀ o rest, (s.vests.get v).occupants = o :: rest → (∀ p ∈ rest, p.slot ≠ o.slot) → sparseOk .outside s.locations = true →
       t.vests = put s.vests v { direction := if rest = [] then .none else (s.vests.get v).direction, occupants := rest } ∧
       t.locations = sparsePut .outside s.locations o.slot .outside ∧
       (∀ e w, s.grants.get e = some w →
         t.grants.get e = if s.strongroomDoor v = some e ∧ w.purpose = .entry ∧ w.stage.waits = true ∧ w.holds o.slot = true
           then none else some w) ∧
       t = { s with vests := t.vests, locations := t.locations, grants := t.grants, link := t.link }) ∧
     (∀ o rest, (s.vests.get v).occupants = o :: rest → (∀ p ∈ rest, p.slot ≠ o.slot) →
       t = raise .vestibuleEgress (.strongroom v) (some (.badge o.badge)) (State.removalHanded v o.slot { s with
         locations := sparsePut .outside s.locations o.slot .outside
         vests := put s.vests v
           { direction := if rest = [] then .none else (s.vests.get v).direction, occupants := rest } }))) ∧
  (∀ (s : State) (v : RoomId) (i o d : DoorId) (rederived : Bool), s.strongroomDoor v = some i → s.outerDoor v = some o →
     s.role i = .strongroom v → s.role o = .vestibuleOuter v → d = i ∨ d = o ∧ rederived = true →
     ((s.vests.get v).direction ≠ .outbound ∨ (s.doors.get i).state ≠ .secure ∨ (s.doors.get o).state ≠ .secure ∨
         (∃ g, s.grants.get o = some g ∧ (g.purpose = .exit ∨ g.stage.waits = false)) →
       handSecure d rederived s = s) ∧
     ((s.vests.get v).direction = .outbound → (s.doors.get i).state = .secure → (s.doors.get o).state = .secure →
       s.doorBand o = .bolted →
       (s.grants.get o = none ∨ (∃ g, s.grants.get o = some g ∧ g.purpose = .entry ∧ g.stage.waits = true ∧ g.recheck = none)) →
       handSecure d rederived s =
         { (if s.grants.get o = none then id else raise .grantCancelled (.door o) (some (.reason .direction))) s with
           grants := put s.grants o
             (some ⟨(s.vests.get v).occupants.map (fun p => ⟨p.slot, p.badge⟩), .exit, .inside, .releasing, none, none⟩)
           doors := put s.doors o { s.doors.get o with
             state := .releasing, bolt := .withdrawn, motion := .moving .withdrawn (s.now + 3000) } })) ∧

  (∀ (s : State) (v : RoomId) (i o d : DoorId) (rederived : Bool), s.strongroomDoor v = some i → s.outerDoor v = some o →
     s.role i = .strongroom v → s.role o = .vestibuleOuter v → d = i ∨ d = o ∧ rederived = true →
     (s.vests.get v).direction = .outbound → (s.doors.get i).state = .secure → (s.doors.get o).state = .secure →
     (∀ g, s.grants.get o = some g → g.purpose = .entry ∧ g.stage.waits = true) → ∀ u, s.grantDropped o .direction = u →
     (s.doorBand o ≠ .opened →
       handSecure d rederived s =
         u.releaseTo o ((s.vests.get v).occupants.map (fun p => ⟨p.slot, p.badge⟩)) .exit .inside) ∧
     (s.doorBand o = .opened →
       handSecure d rederived s = State.vestibuleEmptied v .vestibuleOut { u with
         grants := put s.grants o none
         doors := put s.doors o { (s.doors.get o).opening (s.now + (s.doorSettings o).heldOpen * 1000) with
           bolt := .withdrawn, trips := 0 } })) ∧
  (∀ (s : State) (d : DoorId) (rederived : Bool),
     (∀ v, s.role d = .vestibuleOuter v → rederived = false → handSecure d rederived s = s) ∧
     (s.role d = .perimeter ∨ s.role d = .unused → handSecure d rederived s = s) ∧
     (∀ v, s.role d = .strongroom v ∨ s.role d = .vestibuleOuter v → s.strongroomDoor v = none ∨ s.outerDoor v = none →
       handSecure d rederived s = s))

/-! ## Week clock -/

/-- A window is active by its record at a minute of the week, across midnight where its end lies before its start; the minute boundary,
TIME_SET and MODE_SET leave the windows evaluated and the mode as the table of R183 gives it. Their next states are given in full:
WINDOW_EDGE, MODE_CHANGE, the grants that a change to AFTER_HOURS cancels (`cancelGrant` by FreezeCancelsEntryGrants), and each
lone-worker condition evaluated again; while the clock is INVALID a boundary evaluates nothing (R106, R126, R135, R168, R179, R181 to
R185). The codes of MODE_SET are the model's: entry 5; when a boundary falls due: entry 3; the order of several doors and strongrooms:
entry 9. -/
def Obligations.ClockEventsEvaluateWindowsAndMode : Prop :=
  (∀ (p : WindowSettings) (day m : Nat), day < 7 → m < 1440 →
     (p.start < p.stop → (p.activeAt (day * 1440 + m) = true ↔ p.days.getLsbD day = true ∧ p.start ≤ m ∧ m < p.stop)) ∧
     (p.stop < p.start → (p.activeAt (day * 1440 + m) = true ↔
       p.days.getLsbD day = true ∧ p.start ≤ m ∨ p.days.getLsbD ((day + 6) % 7) = true ∧ m < p.stop))) ∧
  ((∀ s : State, s.powered = true → s.clock.boundaryDue = true → s.clock.valid = true →
     ∃ t, exec .minuteBoundary s = .next t ∧
       (∀ w, t.clock.windows.get w = (s.windowSettings w).activeAt s.clock.minute) ∧
       t.clock = { s.clock with windows := t.clock.windows, mode := modeGiven t.clock, boundaryDue := false } ∧
       t = { s with clock := t.clock, rooms := t.rooms, grants := t.grants, doors := t.doors, vests := t.vests,
                    locations := t.locations, link := t.link }) ∧
   (∀ (s : State) (tag minute second : Nat), s.free → minute < 10080 → second < 60 →
     ∃ t, exec (.timeSet tag minute second) s = .next t ∧
       (∀ w, t.clock.windows.get w = (s.windowSettings w).activeAt minute) ∧
       t.clock = ⟨minute, second, 0, true, s.clock.override, t.clock.windows, modeGiven t.clock, false⟩ ∧
       t = { s with hostPresent := true, clock := t.clock, rooms := t.rooms, grants := t.grants, doors := t.doors,
                    vests := t.vests, locations := t.locations, link := t.link }) ∧
   (∀ (s : State) (tag : Nat) (o : ModeOverride), s.free →
     ∃ t, exec (.modeSet tag (match o with | .auto => 0 | .forceDay => 1 | .forceAfterHours => 2)) s = .next t ∧
       t.clock = { s.clock with override := o, mode := modeGiven t.clock } ∧
       (t.clock.mode = s.clock.mode →
         t = ({ heard 0x35 tag s with clock := { s.clock with override := o } }).withReply 0x35 tag .ok .none) ∧
       (t.clock.mode ≠ s.clock.mode →
         (∀ v, t.rooms.get v = { s.rooms.get v with
           lone := if t.clock.mode = .afterHours ∧ (s.rooms.get v).listed.length = 1 then
               (if (s.rooms.get v).lone = .off then .running (s.now + (s.loneSettings v).loneInterval * 60000)
                 else (s.rooms.get v).lone)
             else .off }) ∧
         ((∀ d, s.grants.get d = none) →
           t = ({ raise .modeChange .none (some (.named (.mode t.clock.mode)))
               { heard 0x35 tag s with clock := t.clock } with rooms := t.rooms }).withReply 0x35 tag .ok .none)) ∧
       t = { s with hostPresent := true, clock := t.clock, rooms := t.rooms, grants := t.grants, doors := t.doors,
                    vests := t.vests, locations := t.locations, link := t.link })) ∧

  (∀ s : State, s.powered = true →
     (s.clock.boundaryDue = false → exec .minuteBoundary s = .next s) ∧
     (s.clock.boundaryDue = true → s.clock.valid = false →
       exec .minuteBoundary s = .next { s with clock := { s.clock with boundaryDue := false } }) ∧
     (s.clock.boundaryDue = true → s.clock.valid = true →
       exec .minuteBoundary s = .next { s with clock := { s.clock with boundaryDue := false } }.windowsTaken.modeTaken)) ∧
  (∀ (s : State) (tag : Nat), s.free →
     (∀ minute second : Nat, minute < 10080 → second < 60 →
       exec (.timeSet tag minute second) s = .next ({ heard 0x50 tag s with
         clock := ⟨minute, second, 0, true, s.clock.override, s.clock.windows, s.clock.mode, false⟩
         }.windowsTaken.modeTaken.withReply 0x50 tag .ok .none)) ∧
     (∀ o : ModeOverride,
       exec (.modeSet tag (match o with | .auto => 0 | .forceDay => 1 | .forceAfterHours => 2)) s = .next
         ({ heard 0x35 tag s with clock := { s.clock with override := o } }.modeTaken.withReply 0x35 tag .ok .none)))

/-! ## Panel link -/

/-- The register ends at 0x29B1 over the nine bytes 0x31 to 0x39; the frame receiver moves by the byte; a frame whose CRC differs is
discarded, a low stop bit or a gap ends a partial frame. A whole frame that arrives byte by byte does what its request does; a valid
frame of an unknown kind is answered UNKNOWN_KIND and one whose body has another length FRAME_LENGTH, with no other effect than hearing
the host (R187, R188, R190, R192). That a request stands for its frame is the model's choice: entry 6; the lengths of the bodies
that 11.6 does not lay out are the model's: entry 5. -/
def Obligations.ReceiverTakesFramesByByte : Prop :=
  (crcOf [0x31#8, 0x32#8, 0x33#8, 0x34#8, 0x35#8, 0x36#8, 0x37#8, 0x38#8, 0x39#8] = 0x29B1#16) ∧
  (∀ (s t : State) (b : Byte) (r : Receiver), s.powered = true → t = { s with link := { s.link with receiver := r } } →
     (s.link.receiver = .hunt → (if b = 0xA5#8 then .length else .hunt) = r → exec (.byteReceived b true) s = .next t) ∧
     (s.link.receiver = .length → (if 2 ≤ b.toNat ∧ b.toNat ≤ 250 then .body b.toNat [] else .hunt) = r →
       exec (.byteReceived b true) s = .next t) ∧
     (∀ len got, s.link.receiver = .body len got → got.length + 1 < len + 2 → .body len (got ++ [b]) = r →
       exec (.byteReceived b true) s = .next t) ∧
     (∀ len got, s.link.receiver = .body len got → got.length + 1 = len + 2 → crcAgrees len (got ++ [b]) = false → .hunt = r →
       exec (.byteReceived b true) s = .next t) ∧
     (.hunt = r → exec (.byteReceived b false) s = .next t ∧ exec .byteGapTimeout s = .next t)) ∧
  (∀ (i : Instr) (f : RequestFrame) (s : State), i.wellFormed = true → encodeRequest i = some f → s.powered = true →
    s.link.receiver = .hunt → receiveAll (frameBytes f.kind f.tag f.body) s = exec i s) ∧

  (∀ (kind tag : Nat) (body : List Byte) (s : State), kind < 256 → tag < 256 → body.length ≤ 248 → s.free →
    s.link.receiver = .hunt →
    (bodyLength kind body = none →
      receiveAll (frameBytes kind tag body) s = .next ((heard kind tag s).withReply kind tag .unknownKind .none)) ∧
    (∀ n, bodyLength kind body = some n → body.length ≠ n →
      receiveAll (frameBytes kind tag body) s = .next ((heard kind tag s).withReply kind tag .frameLength .none)))

/-- A request that finds another outstanding is answered LINK_BUSY, at most three of which wait; one that names no object, or a
value out of its range, is answered BAD_VALUE and changes nothing else (R190, R192; R6, R16, R17, R36, R46, R54, R56, R57, R60, R61, R80,
R91, R92, R104, R110, R114 to R116, R123, R130, R155 to R158, R160, R176, R177, R180, R184, R185, R194, R202). The codes of modes,
directions, targets, classes, roles, grant modes and switches are the model's: entry 5. That the three which wait are counted with the
one in transmission is the model's choice: entry 6; that the roles and assignments of requests that wait in the store count: entries 26
and 33. -/
def Obligations.RefusedFramesChangeNothingElse : Prop :=
  (∀ (i : Instr) (f : RequestFrame) (s : State) (r : Request), encodeRequest i = some f → s.powered = true →
     s.link.outstanding = some r →
     exec i s = .next { s with
       hostPresent := true
       link := { s.link with
         presenceDl := some (s.now + 10000)
         tx := if (s.link.tx.filter (fun x => x.role = .busy)).length < 3 then
             s.link.tx ++ [⟨f.kind, f.tag, .linkBusy, .none, .busy⟩]
           else s.link.tx } }) ∧
  (∀ (i : Instr) (f : RequestFrame) (s : State), encodeRequest i = some f → s.free →
     (match i with
       | .status _ a => 4 ≤ a
       | .measureLine _ a | .getLine _ a => 64 ≤ a
       | .getZone _ a | .getVestibule _ a | .getOccupancy _ a | .zoneIsolate _ a | .zoneDeisolate _ a | .zoneReset _ a
       | .releaseZone _ a | .vestibuleFlush _ a => a = 0 ∨ 13 ≤ a
       | .getActuator _ a | .actuatorRearm _ a => a = 0 ∨ 33 ≤ a
       | .getDoor _ a | .confirm _ a | .deny _ a | .doorService _ a => a = 0 ∨ 21 ≤ a
       | .getCredential _ a => 2048 ≤ a
       | .rowOpen _ a => 256 ≤ a
       | .modeSet _ a => 3 ≤ a
       | .doorMode _ d m => d = 0 ∨ 21 ≤ d ∨ 2 ≤ m
       | .doorDrive _ d m => d = 0 ∨ 21 ≤ d ∨ 2 ≤ m
       | .present _ d r _ => s.sup.ready = true ∧ (d = 0 ∨ 21 ≤ d ∨ 2 ≤ r)
       | .occupantClear _ v t slot => v = 0 ∨ 13 ≤ v ∨ 3 ≤ t ∨ (t = 0 ∧ 2048 ≤ slot)
       | .timeSet _ m n => 10080 ≤ m ∨ 60 ≤ n
       | .setClass _ cls n h bands => 4 ≤ cls ∨ n = 0 ∨ 16 ≤ n ∨ 32 ≤ h ∨ 11 ≤ bands.length ∨
         (∃ b ∈ bands, b.high < b.low ∨ 1024 ≤ b.high ∨
           ∀ (c : LineClass) (x : Band), (classIndex c).val = cls → x.code = b.code → c.hasName x = false) ∨
         ¬bands.Pairwise (fun a b => a.high < b.low ∨ b.high < a.low)
       | .setLoop _ k e d t sw p1 p2 p3 p4 p5 p6 => k = 0 ∨ 9 ≤ k ∨ e < 50 ∨ 1000 < e ∨ d < 500 ∨ 10000 < d ∨ t < 10 ∨ 600 < t ∨
         d ≤ e ∨ t * 1000 ≤ d ∨ 2 ≤ sw ∨ (∃ p ∈ [p1, p2, p3, p4, p5, p6], 13 ≤ p)
       | .setZone _ z base ext tMax tMan tResume sw limit soak vent => z = 0 ∨ 13 ≤ z ∨ 120 < base ∨ 30 < ext ∨ tMax < 10 ∨
         180 < tMax ∨ tMax < base ∨ 60 < tMan ∨ tMax < tMan ∨ tMax < tResume ∨ 2 ≤ sw ∨ limit < 30 ∨ 900 < limit ∨ soak = 0 ∨
         60 < soak ∨ vent = 0 ∨ 120 < vent
       | .setActuator _ a z => a = 0 ∨ 33 ≤ a ∨ 13 ≤ z ∨
         (∃ y : ZoneId, z = number y ∧ 4 ≤ ((every 32).filter (fun b => number b ≠ a && s.heldFor y b)).length)
       | .setDoor _ door role room gm dh ct pw rt ho li lw => door = 0 ∨ 21 ≤ door ∨ (∀ r : Role, roleCode r ≠ (role, room)) ∨
         3 ≤ gm ∨ ¬DoorFigures dh ct pw rt ho li lw ∨
         (∃ (d : DoorId) (r : Role), number d = door ∧ roleCode r = (role, room) ∧ ¬s.RoleAllowed d r)
       | .setWindow _ w days start stop sw =>
         16 ≤ w ∨ 128 ≤ days ∨ 1440 ≤ start ∨ stop = 0 ∨ 1441 ≤ stop ∨ start = stop ∨ 2 ≤ sw
       | .setNoticeMask _ pairs => pairs = [] ∨ 57 ≤ pairs.length ∨
         (∃ p ∈ pairs, 2 ≤ p.2 ∨ ∀ k : NoticeKind, k.code = p.1 → k.cls = .life)
       | .slotStage _ slot badge st priv win flags =>
         2048 ≤ slot ∨ 4294967295 ≤ badge ∨ 2 ≤ st ∨ 4096 ≤ priv ∨ 65536 ≤ win ∨ 16 ≤ flags
       | _ => False) →
     exec i s = .next ((heard f.kind f.tag s).withReply f.kind f.tag .badValue .none))

/-- The reading requests answer a snapshot, field by field, and change nothing else (R37, R58, R60, R78, R92, R94, R110, R114, R160,
R177, R186, R202). The time left to an overdue test is the model's choice: entry 27; that the staged record of a badge of 0 shows the
other fields staged with it: entry 13. -/
def Obligations.ReadRequestsReportAndChangeNothing : Prop :=
  ∀ (s : State) (tag : Nat), s.free →
    (∀ count : NoticeClass → Nat, (∀ c, count c = (s.link.notices.filter (fun n => n.kind.cls = c)).length) →
      exec (.status tag 0) s = .next ((heard 0x01 tag s).withReply 0x01 tag .ok (.device
        { ready := s.sup.ready, lastStart := s.lastStart, hostPresent := true
          noticesLife := count .life, noticesAlarm := count .alarm, noticesSupervisory := count .supervisory
          noticesRoutine := count .routine, lost := s.link.lost, masks := s.link.masks
          running := s.store.running.map (fun r => r.op), marksWaiting := s.store.marks.length
          hostWaiting := s.store.host.length
          stage := match s.stage with
            | .idle => .none
            | .opened row _ _ => .opened row
            | .committing row _ _ => .committing row
          clockValid := s.clock.valid, override := s.clock.override, mode := s.clock.mode, freeze := s.freeze }))) ∧
    (∀ (loops : Vector LoopReply 8) (zones : Vector ZoneBrief 12),
      (∀ k, loops.get k = ⟨(s.loops.get k).state, (s.loops.get k).station, (s.loops.get k).pressAt⟩) →
      (∀ z, zones.get z = ⟨(s.zones.get z).state, (s.zones.get z).latchA, (s.zones.get z).latchB, (s.zones.get z).degraded⟩) →
      exec (.status tag 1) s = .next ((heard 0x01 tag s).withReply 0x01 tag .ok (.alarms ⟨loops, zones⟩))) ∧
    (∀ acts : Vector (ActState × Bool) 32, (∀ a, acts.get a = ((s.acts.get a).state, (s.acts.get a).fault)) →
      exec (.status tag 2) s = .next ((heard 0x01 tag s).withReply 0x01 tag .ok (.suppression
        ⟨acts, s.bank.queue, s.bank.inFlight, s.bank.pulseCount, s.bank.pauseEnd.map (fun dl => dl - s.now)⟩))) ∧
    (∀ (lone : RoomId → LoneReply) (rooms : Vector RoomBrief 12) (vests : Vector (Option (Direction × Nat)) 12)
        (doors : Vector DoorBrief 20),
      (∀ v, lone v = match (s.rooms.get v).lone with
        | .off => .off
        | .running dl => .running (dl - s.now)
        | .prompt dl => .prompt (dl - s.now)) →
      (∀ v, rooms.get v = ⟨(s.rooms.get v).listed.length, (s.rooms.get v).evidence, (s.rooms.get v).unknown,
        (s.rooms.get v).listed.length + (if (s.rooms.get v).evidence then 1 else 0) + (if (s.rooms.get v).unknown then 1 else 0),
        lone v⟩) →
      (∀ v, vests.get v = if s.outerDoor v = none then none else
        some ((s.vests.get v).direction, (s.vests.get v).occupants.length)) →
      (∀ d, doors.get d = ⟨(s.doors.get d).state, (s.doors.get d).mode, (s.doors.get d).trips,
        (s.grants.get d).map (fun g => g.stage)⟩) →
      exec (.status tag 3) s = .next ((heard 0x01 tag s).withReply 0x01 tag .ok (.access ⟨rooms, vests, doors⟩)) ∧
      (∀ v, exec (.getOccupancy tag (number v)) s = .next ((heard 0x08 tag s).withReply 0x08 tag .ok (.occupancy
        { listed := (s.rooms.get v).listed, count := (rooms.get v).count, evidence := (s.rooms.get v).evidence
          unknown := (s.rooms.get v).unknown, effective := (rooms.get v).effective
          assumedOut := (s.rooms.get v).assumedOut.reverse, lone := lone v
          buzzer := match (s.rooms.get v).lone with | .prompt _ => true | _ => false
          interval := (s.loneSettings v).loneInterval, window := (s.loneSettings v).loneWindow })))) ∧
    (∀ (z : ZoneId) (x : Zone) (outputs : ZoneOutputs), s.zones.get z = x →
      (match x.state with
        | .quiet | .isolated => ⟨.off, false, false⟩
        | .alert => ⟨.alertTone, false, false⟩
        | .predischarge => ⟨.evacTone, false, false⟩
        | .held | .heldOccupied => ⟨.holdTone, false, false⟩
        | .release | .soak | .discharged | .releaseFailed => ⟨.off, true, false⟩
        | .vent => ⟨.off, true, true⟩) = outputs →
      exec (.getZone tag (number z)) s = .next ((heard 0x04 tag s).withReply 0x04 tag .ok (.zone
        { state := x.state, latchA := x.latchA, latchB := x.latchB, degraded := x.degraded, countdown := x.countdown
          override := x.override, peak := x.peak, holdLeft := x.holdDl.map (fun dl => dl - s.now)
          stageLeft := x.stageDl.map (fun dl => dl - s.now), outstanding := x.outstanding, isolate := x.isolate
          discharge := x.discharge, outputs := outputs, settings := s.zoneSettings z }))) ∧
    (∀ (a : ActId) (x : Actuator) (position : Option Nat), s.acts.get a = x →
      (x.state ≠ .queued ∧ position = none ∨
        x.state = .queued ∧ (∃ pre post, s.bank.queue = pre ++ a :: post ∧ a ∉ pre ∧ position = some (pre.length + 1))) →
      exec (.getActuator tag (number a)) s = .next ((heard 0x05 tag s).withReply 0x05 tag .ok (.actuator
        { state := x.state, zone := x.zone, fault := x.fault, lastTest := x.lastTest
          testLeft := x.nextTest.map (fun dl => dl - s.now), attempts := x.attempts
          pulseLeft := x.pulseEnd.map (fun dl => dl - s.now), spent := x.spent, queuePosition := position }))) ∧
    (∀ (d : DoorId) (x : Door) (motion : MotionReply), s.doors.get d = x →
      (match x.motion with
        | .idle => .idle
        | .moving target dl => .moving target (dl - s.now)
        | .cooling retry dl => .cooling retry (dl - s.now)) = motion →
      exec (.getDoor tag (number d)) s = .next ((heard 0x06 tag s).withReply 0x06 tag .ok (.door
        { state := x.state, mode := x.mode, latch := x.latch, position := x.position, egress := x.egress, alarm := x.alarm
          bolt := x.bolt, motion := motion, trips := x.trips, releaseLeft := x.releaseDl.map (fun dl => dl - s.now)
          heldOpenLeft := x.heldOpenDl.map (fun dl => dl - s.now), band := (s.lines.get (doorLine d)).confirmed
          grant := s.grants.get d, settings := s.doorSettings d }))) ∧
    (∀ v : RoomId, exec (.getVestibule tag (number v)) s =
      .next ((heard 0x07 tag s).withReply 0x07 tag .ok (.vestibule (if s.outerDoor v = none then none else some
        { inner := s.strongroomDoor v, outer := s.outerDoor v, direction := (s.vests.get v).direction
          occupants := (s.vests.get v).occupants })))) ∧
    (∀ (slot : SlotId) (holding : List DoorId) (staged : Option (Option Credential)),
      (∀ row st touched, s.stage = .committing row st touched → slotRow slot ≠ row) →
      (every 20).filter (fun d => (s.grants.get d).any (fun g => g.holders.any (fun h => h.slot = slot))) = holding →
      (match s.stage with
        | .opened row st touched =>
          if slotRow slot = row then
            some (if touched.get (slotPlace slot) then some (st.get (slotPlace slot)) else none)
          else none
        | _ => none) = staged →
      exec (.getCredential tag slot.val) s = .next ((heard 0x09 tag s).withReply 0x09 tag .ok (.credential
        { record := s.nv.credential slot, location := s.location slot, holderOf := holding, staged := staged }))) ∧
    (∀ settings : Vector WindowSettings 16, (∀ w, settings.get w = s.windowSettings w) →
      exec (.getClock tag) s = .next ((heard 0x0A tag s).withReply 0x0A tag .ok (.clock
        { minute := s.clock.minute, second := s.clock.second, ms := s.clock.ms, day := s.clock.minute / 1440
          minuteOfDay := s.clock.minute % 1440, valid := s.clock.valid, override := s.clock.override, mode := s.clock.mode
          windows := s.clock.windows, settings := settings })))

/-- Settings requests in range become settings writes whose replies wait, or are refused with BAD_STATE where the object's state does
not let them (R6, R36, R61, R79, R80, R139, R158, R180, R191). What counts for a zone's four actuators is said actuator by actuator
(`heldFor`). The codes of classes, roles, grant modes and switches are the model's: entry 5; that assignments and roles of requests that
wait in the store count: entries 26 and 33. -/
def Obligations.SettingsRequestsBecomeWrites : Prop :=
  ∀ (s : State) (tag : Nat), s.free →
    (∀ (c : LineClass) (n h : Nat) (bands : List BandRange), 1 ≤ n → n ≤ 15 → h ≤ 31 → bands.length ≤ 10 →
      (∀ r ∈ bands, c.hasName r.band = true ∧ r.low ≤ r.high ∧ r.high ≤ 1023) →
      bands.Pairwise (fun a b => a.high < b.low ∨ b.high < a.low) →
      exec (.setClass tag (classIndex c).val n h (bands.map (fun r => ⟨r.band.code, r.low, r.high⟩))) s =
        .next { heard 0x10 tag s with store := hostQueued (.settings (.cls c ⟨n, h, bands⟩) true) s }) ∧
    (∀ (k : LoopId) (e d t : Nat) (f : Bool) (p1 p2 p3 p4 p5 p6 : Option RoomId), 50 ≤ e → e ≤ 1000 → 500 ≤ d → d ≤ 10000 →
      10 ≤ t → t ≤ 600 → e < d → d < t * 1000 →
      exec (.setLoop tag (number k) e d t (switchCode f) (placeCode p1) (placeCode p2) (placeCode p3) (placeCode p4)
          (placeCode p5) (placeCode p6)) s =
        .next (if (s.loops.get k).state = .idle then
            { heard 0x11 tag s with
              store := hostQueued (.settings (.loop k ⟨e, d, t, f, #v[p1, p2, p3, p4, p5, p6]⟩) true) s }
          else (heard 0x11 tag s).withReply 0x11 tag .badState .none)) ∧
    (∀ (z : ZoneId) (base ext tMax tMan tResume limit soak vent : Nat) (hold : Bool), base ≤ 120 → ext ≤ 30 → 10 ≤ tMax →
      tMax ≤ 180 → base ≤ tMax → tMan ≤ 60 → tMan ≤ tMax → tResume ≤ tMax → 30 ≤ limit → limit ≤ 900 → 1 ≤ soak → soak ≤ 60 →
      1 ≤ vent → vent ≤ 120 →
      exec (.setZone tag (number z) base ext tMax tMan tResume (switchCode hold) limit soak vent) s =
        .next (if (s.zones.get z).state = .quiet ∨ (s.zones.get z).state = .isolated then
            { heard 0x12 tag s with
              store := hostQueued (.settings (.zone z ⟨base, ext, tMax, tMan, tResume, hold, limit, soak, vent⟩) true) s }
          else (heard 0x12 tag s).withReply 0x12 tag .badState .none)) ∧
    (∀ (z : ZoneId) (b : ActId), s.heldFor z b = true ↔
      (s.acts.get b).zone = some z ∨ s.nv.assignments.get b = some z ∨
      (∃ owed, .settings (.actuator b (some z)) owed ∈ s.store.host) ∨
      (∃ owed dl, s.store.running = some ⟨.settings (.actuator b (some z)) owed, dl⟩)) ∧
    (∀ (d : DoorId) (r : Role), r ∈ s.rolesAhead d ↔
      s.role d = r ∨ (∃ p owed, .settings (.door d p) owed ∈ s.store.host ∧ p.role = r) ∨
      (∃ p owed dl, s.store.running = some ⟨.settings (.door d p) owed, dl⟩ ∧ p.role = r)) ∧
    (∀ (a : ActId) (z : Option ZoneId),
      (∀ y, z = some y → ((every 32).filter (fun b => b ≠ a && s.heldFor y b)).length < 4) →
      (((s.acts.get a).state = .unassigned ∨ (s.acts.get a).state = .armed) →
        (∀ y, (s.acts.get a).zone = some y ∨ z = some y →
          (s.zones.get y).state = .quiet ∨ (s.zones.get y).state = .isolated) →
        exec (.setActuator tag (number a) (placeCode z)) s =
          .next { heard 0x13 tag s with store := hostQueued (.settings (.actuator a z) true) s }) ∧
      (((s.acts.get a).state ≠ .unassigned ∧ (s.acts.get a).state ≠ .armed) ∨
          (∃ y, ((s.acts.get a).zone = some y ∨ z = some y) ∧
            (s.zones.get y).state ≠ .quiet ∧ (s.zones.get y).state ≠ .isolated) →
        exec (.setActuator tag (number a) (placeCode z)) s =
          .next ((heard 0x13 tag s).withReply 0x13 tag .badState .none))) ∧
    (∀ (d : DoorId) (r : Role) (g : GrantMode) (dh ct pw rt ho li lw : Nat), DoorFigures dh ct pw rt ho li lw →
      s.RoleAllowed d r →
      (s.DoorChangeable d r →
        exec (.setDoor tag (number d) (roleCode r).1 (roleCode r).2 (grantModeCode g) dh ct pw rt ho li lw) s =
          .next { heard 0x14 tag s with
            store := hostQueued (.settings (.door d ⟨r, g, dh, ct, pw, rt, ho, li, lw⟩) true) s }) ∧
      (¬s.DoorChangeable d r →
        exec (.setDoor tag (number d) (roleCode r).1 (roleCode r).2 (grantModeCode g) dh ct pw rt ho li lw) s =
          .next ((heard 0x14 tag s).withReply 0x14 tag .badState .none))) ∧
    (∀ (w : WindowId) (days start stop : Nat) (report : Bool), days < 128 → start ≤ 1439 → 1 ≤ stop → stop ≤ 1440 →
      start ≠ stop →
      exec (.setWindow tag w.val days start stop (switchCode report)) s =
        .next { heard 0x15 tag s with
          store := hostQueued (.settings (.window w ⟨BitVec.ofNat 7 days, start, stop, report⟩) true) s })

/-- A controller that is free starts the oldest mark, else the oldest host operation; a mark for a waiting item takes its place; a mark
stands written, or a settings record takes effect, with its reply where that is owed still, at the end of its write: the effect of each
of the six (R12, R36, R71, R80, R81, R106, R135, R141, R158, R162, R180, R182, R183, R189, R191, R200). A SET_LOOP recomputes the
deadlines of a press and takes those that lie in the past at once, the duress deadline first (R25, R26, R34 to R36); a SET_DOOR with a
changed role cancels a grant made meanwhile, empties the vestibules it removes and makes, and then re-derives the door (`cancelGrant` by
FreezeCancelsEntryGrants, `rederive` by HiddenAndOverlaidDoorsTakeEachBand). An assignment for a concluded actuator: entry 12; a
vestibule removed with someone in it: entry 15; that a recomputed loop deadline equal to the present is left to its own event: entry 16;
that a press which began, or a grant that was made, while the request still waited is treated as one in the write: entry 34; what an
UNUSED door keeps, and the order of a changed role's effects: entry 17; effect, reply and next operation in this order: entry 23. -/
def Obligations.StoreCompletesWrites : Prop :=
  ((∀ (now : Nat) (st : Store), st.running.isSome = true → st.startNext now = st) ∧
   (∀ (now : Nat) (st : Store) (m : MarkRequest) (rest : List MarkRequest), st.running = none → st.marks = m :: rest →
     st.startNext now = ⟨some ⟨.mark m.item m.value, now + 10⟩, rest, st.host⟩) ∧
   (∀ (now : Nat) (st : Store) (op : StoreOp) (rest : List StoreOp), st.running = none → st.marks = [] →
     st.host = op :: rest →
     st.startNext now = ⟨some ⟨op, now + (match op with | .commit _ => 40 | _ => 10)⟩, [], rest⟩) ∧
   (∀ (item : MarkItem) (value : Bool) (pre post : List MarkRequest) (old : Bool), (∀ m ∈ pre, m.item ≠ item) →
     joinMarks item value (pre ++ ⟨item, old⟩ :: post) = pre ++ ⟨item, value⟩ :: post) ∧
   (∀ (item : MarkItem) (value : Bool) (marks : List MarkRequest), (∀ m ∈ marks, m.item ≠ item) →
     joinMarks item value marks = marks ++ [⟨item, value⟩])) ∧
  ((∀ (s : State) (item : MarkItem) (value : Bool) (dl : Nat), s.powered = true →
     s.store.running = some ⟨.mark item value, dl⟩ → dl ≤ s.now →
     ∃ t, exec .markWriteDone s = .next t ∧
       (∀ z, item = .discharge z → t.nv = { s.nv with discharge := put s.nv.discharge z value }) ∧
       (∀ a, item = .spent a → t.nv = { s.nv with spent := put s.nv.spent a value }) ∧
       (∀ z, item = .isolate z → t.nv = { s.nv with isolate := put s.nv.isolate z value }) ∧
       t = { s with nv := t.nv, store := ({ s.store with running := none }).startNext s.now }) ∧
   (∀ (s : State) (item : SettingsItem) (owed : Bool) (dl : Nat), s.powered = true →
     s.store.running = some ⟨.settings item owed, dl⟩ → dl ≤ s.now →
     ∃ t, exec .settingsWriteDone s = .next t ∧ t.nv = s.nv.writeSettings item ∧
       (∀ done,
         { s with nv := s.nv.writeSettings item, store := ({ s.store with running := none }).startNext s.now } = done →
         (∀ c p, item = .cls c p →
           t = ({ done with lines := t.lines }).repliedTo owed .ok .none ∧
           ∀ l, t.lines.get l =
             if lineClass l = c then { s.lines.get l with candidate := none, count := 0 } else s.lines.get l) ∧
         (∀ k p x, item = .loop k p → s.loops.get k = x → x.state = .idle ∨ x.state = .stuck ∨ x.state = .fault →
           t = done.repliedTo owed .ok .none) ∧
         (∀ k p x t0 st, item = .loop k p → s.loops.get k = x → x.pressAt = some t0 → x.station = some st →
           x.state = .pressed ∨ x.state = .unresolved ∨ x.state = .duress ∨ x.state = .unresolvedDuress →
           ∀ u w,
           { done with loops := put s.loops k { x with
             duressDl := if x.state = LoopState.pressed ∨ x.state = LoopState.unresolved then some (t0 + p.tDuress) else none
             stuckDl := some (t0 + p.tStuck * 1000) } } = u →
           (if (x.state = LoopState.pressed ∨ x.state = LoopState.unresolved) ∧ t0 + p.tDuress < s.now then u.duressTaken k st
             else u) = w →
           t = (if t0 + p.tStuck * 1000 < s.now then w.stuckTaken k st else w).repliedTo owed .ok .none) ∧
         (∀ k p x t0, item = .loop k p → s.loops.get k = x → x.pressAt = some t0 →
           (x.state = .idle ∨ x.state = .stuck ∨ x.state = .fault → t = done.repliedTo owed .ok .none) ∧
           (x.state = .pressed ∨ x.state = .unresolved → s.now ≤ t0 + p.tDuress → s.now ≤ t0 + p.tStuck * 1000 →
             t = ({ done with loops := put s.loops k { x with
               duressDl := some (t0 + p.tDuress), stuckDl := some (t0 + p.tStuck * 1000) } }).repliedTo owed .ok .none) ∧
           (x.state = .duress ∨ x.state = .unresolvedDuress → s.now ≤ t0 + p.tStuck * 1000 →
             t = ({ done with loops := put s.loops k { x with
               duressDl := none, stuckDl := some (t0 + p.tStuck * 1000) } }).repliedTo owed .ok .none)) ∧
         (∀ z p, item = .zone z p →
           t = ({ done with zones := put s.zones z { s.zones.get z with
             countdown := (s.zones.get z).countdown.map (fun c : Countdown => ⟨c.kind, min c.remaining (p.tMax * 1000)⟩) } }).repliedTo
               owed .ok .none) ∧
         (∀ a z x, item = .actuator a z → s.acts.get a = x →
           (x.state = .queued ∨ x.state = .firing ∨ (x.state = .unassigned ∨ x.state = .armed) ∧ x.zone = z →
             t = done.repliedTo owed .ok .none) ∧
           (x.state = .fired ∨ x.state = .failed →
             t = ({ done with acts := put s.acts a { x with zone := z } }).repliedTo owed .ok .none) ∧
           (x.state = .unassigned ∨ x.state = .armed → x.zone ≠ z →
             t = ({ done with acts := put s.acts a (if z = none then
                 { x with state := .unassigned, zone := none, fault := false, lastTest := none, nextTest := none }
               else { x with state := .armed, zone := z, fault := false, attempts := 0, nextTest := some s.now }) }).repliedTo
                 owed .ok .none)) ∧
         (∀ d p x, item = .door d p → s.doors.get d = x →
           (s.role d = p.role → t = done.repliedTo owed .ok .none) ∧
           (s.role d ≠ p.role → s.grants.get d = none → (∀ v, s.role d ≠ .vestibuleOuter v) →
             (p.role = .unused → t = ({ done with doors := put s.doors d { x with
               state := .secure, mode := .automatic, bolt := .thrown, motion := .idle, releaseDl := none
               heldOpenDl := none } }).repliedTo owed .ok .none) ∧
             (p.role ≠ .unused → x.latch = false → x.mode = .automatic → s.doorBand d = .unbolted →
               t = ({ done with
                 doors := put s.doors d (x.throwing .relocking s.now), vests := t.vests
                 locations := t.locations }).repliedTo owed .ok .none ∧
               (∀ v, p.role = .vestibuleOuter v → t.vests = put s.vests v { direction := .none, occupants := [] }) ∧
               ((∀ v, p.role ≠ .vestibuleOuter v) → t.vests = s.vests ∧ t.locations = s.locations)))) ∧
         (∀ d p, item = .door d p → s.role d ≠ p.role →
           ∀ u, (cancelGrant d .doorUnavailable s).vestibuleCleared (s.role d) = u →
           ∀ y, { u with nv := done.nv, store := done.store }.vestibuleCleared p.role = y →
           (p.role = .unused → t = ({ y with doors := put y.doors d { y.doors.get d with
             state := .secure, mode := .automatic, bolt := .thrown, motion := .idle, releaseDl := none
             heldOpenDl := none } }).repliedTo owed .ok .none) ∧
           (p.role ≠ .unused → t = (rederive d y).repliedTo owed .ok .none)) ∧
         (∀ p, item = .window 0 p → ∀ after, (s.clock.valid && p.activeAt s.clock.minute) = after →
           t = (State.modeTaken ((if s.clock.windows.get 0 ≠ after ∧ p.report = true then
               raise .windowEdge (.window 0) (some (.named (if after then .windowActive else .windowInactive)))
             else id) { done with clock := { s.clock with windows := put s.clock.windows 0 after } })).repliedTo owed .ok .none) ∧
         (∀ w p, item = .window w p → w ≠ 0 → ∀ after, (s.clock.valid && p.activeAt s.clock.minute) = after →
           t = ((if s.clock.windows.get w ≠ after ∧ p.report = true then
               raise .windowEdge (.window w) (some (.named (if after then .windowActive else .windowInactive)))
             else id) { done with clock := { s.clock with windows := put s.clock.windows w after } }).repliedTo owed .ok .none) ∧
         (∀ p, item = .window 0 p →
           t.clock.windows = put s.clock.windows 0 (s.clock.valid && p.activeAt s.clock.minute) ∧
           t.clock.mode = modeGiven t.clock))))

/-- FETCH_NOTICE selects the oldest entry of the highest class present and puts it in transmission (R198). -/
def Obligations.FetchSelectsOldestOfHighestClass : Prop :=
  ∀ (s : State) (tag : Nat), s.free →
    (s.link.notices = [] →
      exec (.fetchNotice tag) s = .next { heard 0x0B tag s with
        link := { (heard 0x0B tag s).link with
          tx := s.link.tx ++ [⟨0x0B, tag, .ok, .notice s.link.lost 0 none, .fetch s.link.lost⟩] } }) ∧
    (s.link.notices ≠ [] →
      ∃ pre n post, s.link.notices = pre ++ n :: post ∧ (∀ e ∈ pre, n.kind.cls.code < e.kind.cls.code) ∧
        (∀ e ∈ post, n.kind.cls.code ≤ e.kind.cls.code) ∧
        exec (.fetchNotice tag) s = .next { heard 0x0B tag s with
          link := { (heard 0x0B tag s).link with
            notices := pre ++ { n with inTx := true } :: post
            tx := s.link.tx ++
              [⟨0x0B, tag, .ok, .notice s.link.lost (pre.length + post.length) (some n), .fetch s.link.lost⟩] } })

/-- A notice coalesces into the oldest entry of its kind, object and detail that is not in transmission (R195). -/
def Obligations.NoticeCoalescesIntoOldest : Prop :=
  ∀ (lk : Link) (n e : Notice) (pre post : List Notice), n.kind ∉ lk.masks → lk.notices = pre ++ e :: post →
    (∀ x ∈ pre, x.inTx = true ∨ x.kind ≠ n.kind ∨ x.object ≠ n.object ∨ x.detail ≠ n.detail) →
    e.inTx = false → e.kind = n.kind → e.object = n.object → e.detail = n.detail → e.repeats ≤ 255 →
    lk.take n = { lk with notices := pre ++ { e with repeats := min 255 (e.repeats + 1) } :: post }

/-- Admission of a notice, and its displacement by class: a masked one is not taken; one without room takes the place of the oldest entry
of the lowest class below its own, a LIFE one that of the oldest entry that is not LIFE and else of the oldest LIFE entry, and is lost
where there is none; the lost count stays at 255. SET_NOTICE_MASK with every pair in range: the last pair of a kind stands, and other
masks are kept (R194, R196, R197). -/
def Obligations.NoticeAdmissionFollowsMaskAndClass : Prop :=
  (∀ (lk : Link) (n : Notice) (q : List Notice), lk.notices = q →
     (∀ x ∈ q, x.inTx = true ∨ x.kind ≠ n.kind ∨ x.object ≠ n.object ∨ x.detail ≠ n.detail) → lk.lost ≤ 255 →
     (n.kind ∈ lk.masks → lk.take n = lk) ∧
     (n.kind ∉ lk.masks → q.length < 64 → n.kind.cls = .life ∨ (q.filter Notice.nonLife).length < 48 →
       lk.take n = { lk with notices := q ++ [n] }) ∧
     (n.kind ∉ lk.masks → 64 ≤ q.length ∨ 48 ≤ (q.filter Notice.nonLife).length → n.kind.cls = .routine →
       lk.take n = { lk with lost := min 255 (lk.lost + 1) }) ∧
     (∀ pre e post, n.kind ∉ lk.masks → 64 ≤ q.length → n.kind.cls = .life → q = pre ++ e :: post →
       (∀ x ∈ pre, x.inTx = true ∨ x.kind.cls = .life) → e.inTx = false → e.kind.cls ≠ .life →
       lk.take n = { lk with notices := pre ++ post ++ [n], lost := min 255 (lk.lost + 1) }) ∧
     (∀ pre e post, n.kind ∉ lk.masks → 64 ≤ q.length ∨ 48 ≤ (q.filter Notice.nonLife).length → n.kind.cls = .alarm →
       q = pre ++ e :: post → (∀ x ∈ pre, x.inTx = true ∨ x.kind.cls ≠ .routine) → e.inTx = false → e.kind.cls = .routine →
       lk.take n = { lk with notices := pre ++ post ++ [n], lost := min 255 (lk.lost + 1) }) ∧
     (n.kind ∉ lk.masks → 64 ≤ q.length ∨ 48 ≤ (q.filter Notice.nonLife).length → n.kind.cls = .supervisory →
       (∀ pre e post, q = pre ++ e :: post → (∀ x ∈ pre, x.inTx = true ∨ x.kind.cls ≠ .routine) → e.inTx = false →
         e.kind.cls = .routine → lk.take n = { lk with notices := pre ++ post ++ [n], lost := min 255 (lk.lost + 1) }) ∧
       ((∀ x ∈ q, x.inTx = true ∨ x.kind.cls ≠ .routine) → lk.take n = { lk with lost := min 255 (lk.lost + 1) })) ∧
     (n.kind ∉ lk.masks → 64 ≤ q.length ∨ 48 ≤ (q.filter Notice.nonLife).length → n.kind.cls = .alarm →
       (∀ x ∈ q, x.inTx = true ∨ x.kind.cls ≠ .routine) →
       (∀ pre e post, q = pre ++ e :: post → (∀ x ∈ pre, x.inTx = true ∨ x.kind.cls ≠ .supervisory) → e.inTx = false →
         e.kind.cls = .supervisory → lk.take n = { lk with notices := pre ++ post ++ [n], lost := min 255 (lk.lost + 1) }) ∧
       ((∀ x ∈ q, x.inTx = true ∨ x.kind.cls ≠ .supervisory) → lk.take n = { lk with lost := min 255 (lk.lost + 1) })) ∧
     (∀ pre e post, n.kind ∉ lk.masks → 64 ≤ q.length → n.kind.cls = .life → (∀ x ∈ q, x.inTx = true ∨ x.kind.cls = .life) →
       q = pre ++ e :: post → (∀ x ∈ pre, x.inTx = true) → e.inTx = false →
       lk.take n = { lk with notices := pre ++ post ++ [n], lost := min 255 (lk.lost + 1) })) ∧
  (∀ (s : State) (tag : Nat) (pairs : List (NoticeKind × Bool)), s.free → 1 ≤ pairs.length → pairs.length ≤ 56 →
     (∀ p ∈ pairs, p.1.cls ≠ .life) →
     ∃ t, exec (.setNoticeMask tag (pairs.map (fun p => (p.1.code, switchCode p.2)))) s = .next t ∧
       (∀ k v pre post, pairs = pre ++ (k, v) :: post → (∀ p ∈ post, p.1 ≠ k) → (k ∈ t.link.masks ↔ v = true)) ∧
       (∀ k, (∀ p ∈ pairs, p.1 ≠ k) → (k ∈ t.link.masks ↔ k ∈ s.link.masks)) ∧
       t = ({ heard 0x16 tag s with
         link := { (heard 0x16 tag s).link with masks := t.link.masks } }).withReply 0x16 tag .ok .none)

/-- The end of a reply's transmission, by what the reply is for; RESTART is answered OK where its three conditions pass, and else
refused (R190, R198, R203, R204). -/
def Obligations.RestartFollowsItsSentReply : Prop :=
  (∀ (s : State) (r : Reply) (rest : List Reply), s.powered = true → s.link.tx = r :: rest →
     (r.role = .busy → exec .replySent s = .next { s with link := { s.link with tx := rest } }) ∧
     (r.role = .plain → exec .replySent s = .next { s with link := { s.link with tx := rest, outstanding := none } }) ∧
     (∀ carried, r.role = .fetch carried → exec .replySent s = .next { s with link := { s.link with
       tx := rest, outstanding := none, notices := s.link.notices.filter (fun e => !e.inTx)
       lost := s.link.lost - carried } }) ∧
     (r.role = .restart → s.mayRestart = true →
       ∃ t, exec .replySent s = .next t ∧ StartValues .restart s t ∧ Retained s t ∧ t.clock.total = s.clock.total) ∧
     (r.role = .restart → s.mayRestart = false →
       exec .replySent s = .next { s with link := { s.link with tx := rest, outstanding := none } })) ∧
  (∀ (s : State) (tag : Nat), s.free →
     ((∀ z, (s.zones.get z).state ≠ .predischarge ∧ (s.zones.get z).state ≠ .held ∧ (s.zones.get z).state ≠ .heldOccupied ∧
         (s.zones.get z).state ≠ .release) → s.commitRunning = false → s.store = ⟨none, [], []⟩ →
       exec (.restart tag) s = .next { heard 0x51 tag s with
         link := { (heard 0x51 tag s).link with tx := s.link.tx ++ [⟨0x51, tag, .ok, .none, .restart⟩] } }) ∧
     ((∃ z, (s.zones.get z).state = .predischarge ∨ (s.zones.get z).state = .held ∨ (s.zones.get z).state = .heldOccupied ∨
         (s.zones.get z).state = .release) ∨ s.commitRunning = true ∨ s.store.running.isSome = true →
       exec (.restart tag) s = .next ((heard 0x51 tag s).withReply 0x51 tag .badState .none)))

/-- A BREAK clears the receiver, the outstanding request and the transmit queue; the entry in transmission stays queued, and what waits
goes on without a reply: a measurement, a write, a deferred PRESENT or GET_CREDENTIAL, a re-check; nothing else changes (R20, R189,
R198, R204). When the host becomes absent, each grant that awaits a confirmation is cancelled and each that awaits its delay goes to its
re-check (R122, R132, R192; `cancelGrant` by FreezeCancelsEntryGrants, `startRecheck` by WaitingGrantEndsByItsCommand). A BREAK that
discards the reply of a RESTART makes its test: entry 18; a re-check that waits already is left, and a CONFIRM's is cancelled: entry 8;
the order of the doors: entry 9. -/
def Obligations.BreakAndHostAbsence : Prop :=
  (∀ (s t : State), s.powered = true →
     { s with
       link := { s.link with
         receiver := .hunt, outstanding := none, tx := [], notices := s.link.notices.map (fun e => { e with inTx := false }) }
       sup := { s.sup with
         pending := s.sup.pending.map (fun m => { m with owed := false })
         converting := ⟨s.sup.converting.line, match s.sup.converting.grantor with
           | .measurement _ => .measurement false
           | other => other⟩ }
       waitPresents := s.waitPresents.map (fun w => { w with owed := false })
       waitGets := s.waitGets.map (fun w => { w with owed := false })
       grants := s.grants.map (fun g => g.map (fun x => { x with recheck := x.recheck.map (fun _ => ⟨false⟩) }))
       store := { s.store with
         running := s.store.running.map (fun r => { r with op := r.op.withoutReply })
         host := s.store.host.map StoreOp.withoutReply } } = t →
     ((∀ r ∈ s.link.tx, r.role ≠ .restart) → exec .linkBreak s = .next t) ∧
     ((∃ r ∈ s.link.tx, r.role = .restart) →
       (s.mayRestart = false → exec .linkBreak s = .next t) ∧
       (s.mayRestart = true →
         ∃ u, exec .linkBreak s = .next u ∧ StartValues .restart s u ∧ Retained s u ∧ u.clock.total = s.clock.total))) ∧
  (∀ (s : State) (dl : Nat), s.powered = true → s.link.presenceDl = some dl → dl ≤ s.now →
     exec .hostPresenceTimeout s = .next ((every 20).foldl (fun t d =>
       match t.grants.get d with
       | some g =>
         if g.stage = .awaitConfirm then cancelGrant d .hostAbsent t
         else if g.stage = .awaitDelay ∧ g.recheck = none then startRecheck d false t
         else t
       | none => t) { s with hostPresent := false, link := { s.link with presenceDl := none } })) ∧
  (∀ (s : State) (dl : Nat), s.powered = true → s.link.presenceDl = some dl → dl ≤ s.now →
     (∀ d g, s.grants.get d = some g → g.stage ≠ .awaitDelay) →
     ∃ t, exec .hostPresenceTimeout s = .next t ∧ t.hostPresent = false ∧ t.link.presenceDl = none ∧
       (∀ d g, s.grants.get d = some g → t.grants.get d = if g.stage = .awaitConfirm then none else some g) ∧
       (∀ d, s.grants.get d = none → t.grants.get d = none) ∧
       t = { s with hostPresent := false, grants := t.grants, link := t.link })

/-! ## The part as a whole -/

/-- Decoding the kind, tag and body of a well-formed request gives that request. Bodies that 11.6 does not lay out are the
model's: entry 5. -/
def Obligations.RequestDecodesFromItsEncoding : Prop :=
  ∀ (i : Instr) (f : RequestFrame), i.wellFormed = true → encodeRequest i = some f →
    decodeRequest f.kind f.tag f.body = .request i

/-- The bounds of the notice queue and of the transmit queue hold after every step. -/
def Obligations.QueueBoundsAreKept : Prop :=
  ∀ s t : State, QueueBounds s → step s = .next t → QueueBounds t

/-- No countdown ever exceeds its zone's T_max. -/
def Obligations.CountdownNeverExceedsTMax : Prop :=
  ∀ s t : State, CountdownBounds s → step s = .next t → CountdownBounds t

/-- A zone has a countdown in PREDISCHARGE and HELD alone, and a held one is automatic with the override clear. -/
def Obligations.CountdownShapeIsKept : Prop :=
  ∀ s t : State, (∀ z, CountdownShape (s.zones.get z)) → step s = .next t → ∀ z, CountdownShape (t.zones.get z)

/-- The week clock stays in range, and the mode is always the one the table of R183 gives (R178, R183). -/
def Obligations.ClockShapeIsKept : Prop :=
  ∀ s t : State, ClockShape s.clock → step s = .next t → ClockShape t.clock

/-- The tables of places, credentials, occupants and pulses keep their forms and, but for the places of a vestibule
(VestibuleShapeIsKept), their capacities; a zone keeps to its four actuators (R79). That assignments which wait count: entry 26. -/
def Obligations.TablesShapeIsKept : Prop :=
  ∀ s t : State, TablesShape s → step s = .next t → TablesShape t

/-- Every door keeps its shape, and a releasing or released grant stands exactly in a door of that state; the direction last
commanded is the target of a motion whatever else holds (R129, R134, R138, R140, R142, R143, R145, R148, R149). -/
def Obligations.DoorShapesAreKept : Prop :=
  (∀ s t : State, (∀ d, DriveFollowsBolt (s.doors.get d)) → step s = .next t → ∀ d, DriveFollowsBolt (t.doors.get d)) ∧
  (∀ s t : State, DoorsShape s → step s = .next t → DoorsShape t)

/-- No strongroom ever has two doors of one role; no vestibule ever holds more than its two occupants, and its two doors never hold a
moving grant together (R158, R162, R164, R166). That the roles of requests that wait in the store count: entry 33. -/
def Obligations.VestibuleShapeIsKept : Prop :=
  (∀ s t : State, RolesUnique s → step s = .next t → RolesUnique t) ∧
  (∀ s t : State, DoorsShape s → VestibuleShape s → RolesUnique s → step s = .next t → VestibuleShape t)

/-- No two non-empty credential slots hold the same badge number. -/
def Obligations.BadgesStayUnique : Prop :=
  ∀ s t : State, BadgesUnique s → step s = .next t → BadgesUnique t

/-- A zone leaves ISOLATED by its ZONE_DEISOLATE, as a request or by the byte that completes the frame of one, or by a start or the
loss of power (R56, R57, R62). -/
def Obligations.IsolatedZoneLeavesByDeisolateOnly : Prop :=
  ∀ (c : Instr) (s t : State) (z : ZoneId), exec c s = .next t → (s.zones.get z).state = .isolated →
    (t.zones.get z).state = .isolated ∨ (∃ tag, c = .zoneDeisolate tag (number z)) ∨
    (∃ b, c = .byteReceived b true ∧ CompletesDeisolate b z s) ∨ c = .coldStart ∨ (∃ off, c = .warmStart off) ∨ (∃ w, c = .powerLoss w) ∨
    (s.owesRestart = true ∧ (c = .replySent ∨ c = .linkBreak))

/-- The state after reset has every shape that the steps keep, each in a statement of its own
above. Which start reset is is the model's choice: entry 21. -/
def Obligations.ResetStateIsSafe : Prop :=
  SafeState State.reset
end

