-- ==== Sys2Proof/Laws/Accepted.lean ====
section
/-! SUPPORT. Laws of the requests that wait in the store: what the roles and the assignments ahead of the part depend on, and
that the store controller keeps them as it starts its operations (R79, R80, R158, R200). -/

namespace Sys2Proof.Machine

theorem Store.mem_accepted (op : StoreOp) (st : Store) :
    op ∈ st.accepted ↔ (∃ dl, st.running = some ⟨op, dl⟩) ∨ op ∈ st.host := by
  rcases st with ⟨_ | ⟨o, dl⟩, m, h⟩ <;> simp [Store.accepted, eq_comm]

/-- A controller that starts its next operation keeps every settings record that waits (R200). -/
theorem Store.mem_accepted_startNext (now : Nat) (item : SettingsItem) (owed : Bool) (st : Store) :
    .settings item owed ∈ (st.startNext now).accepted ↔ .settings item owed ∈ st.accepted := by
  rcases st with ⟨_ | r, _ | ⟨m, ms⟩, _ | ⟨o, h⟩⟩ <;> simp [Store.startNext, Store.accepted]

theorem State.mem_rolesAhead (s : State) (d : DoorId) (r : Role) :
    r ∈ s.rolesAhead d ↔ s.role d = r ∨ ∃ p owed, .settings (.door d p) owed ∈ s.store.accepted ∧ p.role = r := by
  simp only [State.rolesAhead, List.mem_cons, List.mem_filterMap]
  constructor
  · rintro (rfl | ⟨op, h, e⟩)
    · exact .inl rfl
    · split at e
      · rename_i c p owed
        split at e
        · subst_vars
          exact .inr ⟨p, owed, h, by simpa using e⟩
        · cases e
      · cases e
  · rintro (rfl | ⟨p, owed, h, rfl⟩)
    · exact .inl rfl
    · exact .inr ⟨_, h, by simp⟩

theorem State.heldFor_eq_true (s : State) (z : ZoneId) (b : ActId) :
    s.heldFor z b = true ↔
      (s.acts.get b).zone = some z ∨ s.nv.assignments.get b = some z ∨
      ∃ owed, .settings (.actuator b (some z)) owed ∈ s.store.accepted := by
  have h : s.store.assigns z b = true ↔ ∃ owed, .settings (.actuator b (some z)) owed ∈ s.store.accepted := by
    simp only [Store.assigns, List.any_eq_true]
    constructor
    · rintro ⟨op, h, e⟩
      split at e
      · simp only [Bool.and_eq_true, decide_eq_true_eq] at e
        obtain ⟨rfl, rfl⟩ := e
        exact ⟨_, h⟩
      · cases e
    · rintro ⟨owed, h⟩
      exact ⟨_, h, by simp⟩
  simp [State.heldFor, h, or_assoc]

/-- The roles ahead are a matter of the stored records and the store alone. -/
theorem State.rolesAhead_congr {s t : State} (h : t.nv = s.nv) (k : t.store = s.store) (d : DoorId) :
    t.rolesAhead d = s.rolesAhead d := by
  simp [State.rolesAhead, State.role, State.doorSettings, h, k]

/-- The actuators that a zone holds are a matter of the actuator records, the stored records and the store alone. -/
theorem State.heldFor_congr {s t : State} (g : t.acts = s.acts) (h : t.nv = s.nv) (k : t.store = s.store) (z : ZoneId) (b : ActId) :
    t.heldFor z b = s.heldFor z b := by
  simp [State.heldFor, g, h, k]

end Sys2Proof.Machine
end

