-- ==== Sys2Proof/Laws/State.lean ====
section
/-! SUPPORT. Laws of the state: what each update of one record does to each field, so that no proof unfolds an
update. -/

namespace Sys2Proof.Machine

/-! ## Tables -/

theorem get_eq_getElem {n : Nat} {α : Type} (t : Vector α n) (i : Fin n) : t.get i = t[i.val]'i.isLt := rfl

@[simp] theorem put_get_same {n : Nat} {α : Type} (t : Vector α n) (i : Fin n) (x : α) : (put t i x).get i = x := by
  simp [put, get_eq_getElem]

theorem put_get {n : Nat} {α : Type} (t : Vector α n) (i j : Fin n) (x : α) :
    (put t i x).get j = if j = i then x else t.get j := by
  by_cases h : j = i
  · subst h; simp
  · rw [if_neg h]
    simp only [put, get_eq_getElem]
    exact Vector.getElem_set_ne _ _ (fun e => h (Fin.ext e.symm))

@[simp] theorem put_get_other {n : Nat} {α : Type} (t : Vector α n) {i j : Fin n} (x : α) (h : j ≠ i) :
    (put t i x).get j = t.get j := by
  rw [put_get, if_neg h]

/-- Two tables with the same entries are equal. -/
theorem table_ext {n : Nat} {α : Type} {t u : Vector α n} (h : ∀ i, t.get i = u.get i) : t = u := by
  apply Vector.ext
  intro i hi
  simpa [get_eq_getElem] using h ⟨i, hi⟩

@[simp] theorem put_same {n : Nat} {α : Type} (t : Vector α n) (i : Fin n) : put t i (t.get i) = t := by
  apply table_ext
  intro j
  by_cases h : j = i
  · subst h; simp
  · simp [h]

@[simp] theorem put_put {n : Nat} {α : Type} (t : Vector α n) (i : Fin n) (x y : α) : put (put t i x) i y = put t i y := by
  apply table_ext
  intro j
  by_cases h : j = i
  · subst h; simp
  · simp [h]

@[simp] theorem replicate_get {n : Nat} {α : Type} (x : α) (i : Fin n) : (Vector.replicate n x).get i = x := by
  simp [get_eq_getElem]

@[simp] theorem ofFn_get {n : Nat} {α : Type} (f : Fin n → α) (i : Fin n) : (Vector.ofFn f).get i = f i := by
  simp [get_eq_getElem]

@[simp] theorem map_get {n : Nat} {α β : Type} (f : α → β) (t : Vector α n) (i : Fin n) : (t.map f).get i = f (t.get i) := by
  simp [get_eq_getElem]

/-! ## Updates of one record: the record updated, and every other field -/

@[simp] theorem State.setLine_pending (l : LineId) (x : LineRecord) (s : State) : (s.setLine l x).pending = s.pending := rfl

@[simp] theorem State.setLine_powered (l : LineId) (x : LineRecord) (s : State) : (s.setLine l x).powered = s.powered := rfl

@[simp] theorem State.setLine_lastStart (l : LineId) (x : LineRecord) (s : State) : (s.setLine l x).lastStart = s.lastStart := rfl

@[simp] theorem State.setLine_quarters (l : LineId) (x : LineRecord) (s : State) : (s.setLine l x).quarters = s.quarters := rfl

@[simp] theorem State.setLine_lines (l : LineId) (x : LineRecord) (s : State) : (s.setLine l x).lines = put s.lines l x := rfl

@[simp] theorem State.setLine_sup (l : LineId) (x : LineRecord) (s : State) : (s.setLine l x).sup = s.sup := rfl

@[simp] theorem State.setLine_loops (l : LineId) (x : LineRecord) (s : State) : (s.setLine l x).loops = s.loops := rfl

@[simp] theorem State.setLine_zones (l : LineId) (x : LineRecord) (s : State) : (s.setLine l x).zones = s.zones := rfl

@[simp] theorem State.setLine_acts (l : LineId) (x : LineRecord) (s : State) : (s.setLine l x).acts = s.acts := rfl

@[simp] theorem State.setLine_bank (l : LineId) (x : LineRecord) (s : State) : (s.setLine l x).bank = s.bank := rfl

@[simp] theorem State.setLine_rooms (l : LineId) (x : LineRecord) (s : State) : (s.setLine l x).rooms = s.rooms := rfl

@[simp] theorem State.setLine_locations (l : LineId) (x : LineRecord) (s : State) : (s.setLine l x).locations = s.locations := rfl

@[simp] theorem State.setLine_stage (l : LineId) (x : LineRecord) (s : State) : (s.setLine l x).stage = s.stage := rfl

@[simp] theorem State.setLine_grants (l : LineId) (x : LineRecord) (s : State) : (s.setLine l x).grants = s.grants := rfl

@[simp] theorem State.setLine_freeze (l : LineId) (x : LineRecord) (s : State) : (s.setLine l x).freeze = s.freeze := rfl

@[simp] theorem State.setLine_hostPresent (l : LineId) (x : LineRecord) (s : State) : (s.setLine l x).hostPresent = s.hostPresent := rfl

@[simp] theorem State.setLine_waitPresents (l : LineId) (x : LineRecord) (s : State) : (s.setLine l x).waitPresents = s.waitPresents := rfl

@[simp] theorem State.setLine_waitGets (l : LineId) (x : LineRecord) (s : State) : (s.setLine l x).waitGets = s.waitGets := rfl

@[simp] theorem State.setLine_doors (l : LineId) (x : LineRecord) (s : State) : (s.setLine l x).doors = s.doors := rfl

@[simp] theorem State.setLine_vests (l : LineId) (x : LineRecord) (s : State) : (s.setLine l x).vests = s.vests := rfl

@[simp] theorem State.setLine_clock (l : LineId) (x : LineRecord) (s : State) : (s.setLine l x).clock = s.clock := rfl

@[simp] theorem State.setLine_link (l : LineId) (x : LineRecord) (s : State) : (s.setLine l x).link = s.link := rfl

@[simp] theorem State.setLine_store (l : LineId) (x : LineRecord) (s : State) : (s.setLine l x).store = s.store := rfl

@[simp] theorem State.setLine_nv (l : LineId) (x : LineRecord) (s : State) : (s.setLine l x).nv = s.nv := rfl

@[simp] theorem State.setLoop_pending (k : LoopId) (x : Loop) (s : State) : (s.setLoop k x).pending = s.pending := rfl

@[simp] theorem State.setLoop_powered (k : LoopId) (x : Loop) (s : State) : (s.setLoop k x).powered = s.powered := rfl

@[simp] theorem State.setLoop_lastStart (k : LoopId) (x : Loop) (s : State) : (s.setLoop k x).lastStart = s.lastStart := rfl

@[simp] theorem State.setLoop_quarters (k : LoopId) (x : Loop) (s : State) : (s.setLoop k x).quarters = s.quarters := rfl

@[simp] theorem State.setLoop_lines (k : LoopId) (x : Loop) (s : State) : (s.setLoop k x).lines = s.lines := rfl

@[simp] theorem State.setLoop_sup (k : LoopId) (x : Loop) (s : State) : (s.setLoop k x).sup = s.sup := rfl

@[simp] theorem State.setLoop_loops (k : LoopId) (x : Loop) (s : State) : (s.setLoop k x).loops = put s.loops k x := rfl

@[simp] theorem State.setLoop_zones (k : LoopId) (x : Loop) (s : State) : (s.setLoop k x).zones = s.zones := rfl

@[simp] theorem State.setLoop_acts (k : LoopId) (x : Loop) (s : State) : (s.setLoop k x).acts = s.acts := rfl

@[simp] theorem State.setLoop_bank (k : LoopId) (x : Loop) (s : State) : (s.setLoop k x).bank = s.bank := rfl

@[simp] theorem State.setLoop_rooms (k : LoopId) (x : Loop) (s : State) : (s.setLoop k x).rooms = s.rooms := rfl

@[simp] theorem State.setLoop_locations (k : LoopId) (x : Loop) (s : State) : (s.setLoop k x).locations = s.locations := rfl

@[simp] theorem State.setLoop_stage (k : LoopId) (x : Loop) (s : State) : (s.setLoop k x).stage = s.stage := rfl

@[simp] theorem State.setLoop_grants (k : LoopId) (x : Loop) (s : State) : (s.setLoop k x).grants = s.grants := rfl

@[simp] theorem State.setLoop_freeze (k : LoopId) (x : Loop) (s : State) : (s.setLoop k x).freeze = s.freeze := rfl

@[simp] theorem State.setLoop_hostPresent (k : LoopId) (x : Loop) (s : State) : (s.setLoop k x).hostPresent = s.hostPresent := rfl

@[simp] theorem State.setLoop_waitPresents (k : LoopId) (x : Loop) (s : State) : (s.setLoop k x).waitPresents = s.waitPresents := rfl

@[simp] theorem State.setLoop_waitGets (k : LoopId) (x : Loop) (s : State) : (s.setLoop k x).waitGets = s.waitGets := rfl

@[simp] theorem State.setLoop_doors (k : LoopId) (x : Loop) (s : State) : (s.setLoop k x).doors = s.doors := rfl

@[simp] theorem State.setLoop_vests (k : LoopId) (x : Loop) (s : State) : (s.setLoop k x).vests = s.vests := rfl

@[simp] theorem State.setLoop_clock (k : LoopId) (x : Loop) (s : State) : (s.setLoop k x).clock = s.clock := rfl

@[simp] theorem State.setLoop_link (k : LoopId) (x : Loop) (s : State) : (s.setLoop k x).link = s.link := rfl

@[simp] theorem State.setLoop_store (k : LoopId) (x : Loop) (s : State) : (s.setLoop k x).store = s.store := rfl

@[simp] theorem State.setLoop_nv (k : LoopId) (x : Loop) (s : State) : (s.setLoop k x).nv = s.nv := rfl

@[simp] theorem State.setZone_pending (z : ZoneId) (x : Zone) (s : State) : (s.setZone z x).pending = s.pending := rfl

@[simp] theorem State.setZone_powered (z : ZoneId) (x : Zone) (s : State) : (s.setZone z x).powered = s.powered := rfl

@[simp] theorem State.setZone_lastStart (z : ZoneId) (x : Zone) (s : State) : (s.setZone z x).lastStart = s.lastStart := rfl

@[simp] theorem State.setZone_quarters (z : ZoneId) (x : Zone) (s : State) : (s.setZone z x).quarters = s.quarters := rfl

@[simp] theorem State.setZone_lines (z : ZoneId) (x : Zone) (s : State) : (s.setZone z x).lines = s.lines := rfl

@[simp] theorem State.setZone_sup (z : ZoneId) (x : Zone) (s : State) : (s.setZone z x).sup = s.sup := rfl

@[simp] theorem State.setZone_loops (z : ZoneId) (x : Zone) (s : State) : (s.setZone z x).loops = s.loops := rfl

@[simp] theorem State.setZone_zones (z : ZoneId) (x : Zone) (s : State) : (s.setZone z x).zones = put s.zones z x := rfl

@[simp] theorem State.setZone_acts (z : ZoneId) (x : Zone) (s : State) : (s.setZone z x).acts = s.acts := rfl

@[simp] theorem State.setZone_bank (z : ZoneId) (x : Zone) (s : State) : (s.setZone z x).bank = s.bank := rfl

@[simp] theorem State.setZone_rooms (z : ZoneId) (x : Zone) (s : State) : (s.setZone z x).rooms = s.rooms := rfl

@[simp] theorem State.setZone_locations (z : ZoneId) (x : Zone) (s : State) : (s.setZone z x).locations = s.locations := rfl

@[simp] theorem State.setZone_stage (z : ZoneId) (x : Zone) (s : State) : (s.setZone z x).stage = s.stage := rfl

@[simp] theorem State.setZone_grants (z : ZoneId) (x : Zone) (s : State) : (s.setZone z x).grants = s.grants := rfl

@[simp] theorem State.setZone_freeze (z : ZoneId) (x : Zone) (s : State) : (s.setZone z x).freeze = s.freeze := rfl

@[simp] theorem State.setZone_hostPresent (z : ZoneId) (x : Zone) (s : State) : (s.setZone z x).hostPresent = s.hostPresent := rfl

@[simp] theorem State.setZone_waitPresents (z : ZoneId) (x : Zone) (s : State) : (s.setZone z x).waitPresents = s.waitPresents := rfl

@[simp] theorem State.setZone_waitGets (z : ZoneId) (x : Zone) (s : State) : (s.setZone z x).waitGets = s.waitGets := rfl

@[simp] theorem State.setZone_doors (z : ZoneId) (x : Zone) (s : State) : (s.setZone z x).doors = s.doors := rfl

@[simp] theorem State.setZone_vests (z : ZoneId) (x : Zone) (s : State) : (s.setZone z x).vests = s.vests := rfl

@[simp] theorem State.setZone_clock (z : ZoneId) (x : Zone) (s : State) : (s.setZone z x).clock = s.clock := rfl

@[simp] theorem State.setZone_link (z : ZoneId) (x : Zone) (s : State) : (s.setZone z x).link = s.link := rfl

@[simp] theorem State.setZone_store (z : ZoneId) (x : Zone) (s : State) : (s.setZone z x).store = s.store := rfl

@[simp] theorem State.setZone_nv (z : ZoneId) (x : Zone) (s : State) : (s.setZone z x).nv = s.nv := rfl

@[simp] theorem State.setAct_pending (a : ActId) (x : Actuator) (s : State) : (s.setAct a x).pending = s.pending := rfl

@[simp] theorem State.setAct_powered (a : ActId) (x : Actuator) (s : State) : (s.setAct a x).powered = s.powered := rfl

@[simp] theorem State.setAct_lastStart (a : ActId) (x : Actuator) (s : State) : (s.setAct a x).lastStart = s.lastStart := rfl

@[simp] theorem State.setAct_quarters (a : ActId) (x : Actuator) (s : State) : (s.setAct a x).quarters = s.quarters := rfl

@[simp] theorem State.setAct_lines (a : ActId) (x : Actuator) (s : State) : (s.setAct a x).lines = s.lines := rfl

@[simp] theorem State.setAct_sup (a : ActId) (x : Actuator) (s : State) : (s.setAct a x).sup = s.sup := rfl

@[simp] theorem State.setAct_loops (a : ActId) (x : Actuator) (s : State) : (s.setAct a x).loops = s.loops := rfl

@[simp] theorem State.setAct_zones (a : ActId) (x : Actuator) (s : State) : (s.setAct a x).zones = s.zones := rfl

@[simp] theorem State.setAct_acts (a : ActId) (x : Actuator) (s : State) : (s.setAct a x).acts = put s.acts a x := rfl

@[simp] theorem State.setAct_bank (a : ActId) (x : Actuator) (s : State) : (s.setAct a x).bank = s.bank := rfl

@[simp] theorem State.setAct_rooms (a : ActId) (x : Actuator) (s : State) : (s.setAct a x).rooms = s.rooms := rfl

@[simp] theorem State.setAct_locations (a : ActId) (x : Actuator) (s : State) : (s.setAct a x).locations = s.locations := rfl

@[simp] theorem State.setAct_stage (a : ActId) (x : Actuator) (s : State) : (s.setAct a x).stage = s.stage := rfl

@[simp] theorem State.setAct_grants (a : ActId) (x : Actuator) (s : State) : (s.setAct a x).grants = s.grants := rfl

@[simp] theorem State.setAct_freeze (a : ActId) (x : Actuator) (s : State) : (s.setAct a x).freeze = s.freeze := rfl

@[simp] theorem State.setAct_hostPresent (a : ActId) (x : Actuator) (s : State) : (s.setAct a x).hostPresent = s.hostPresent := rfl

@[simp] theorem State.setAct_waitPresents (a : ActId) (x : Actuator) (s : State) : (s.setAct a x).waitPresents = s.waitPresents := rfl

@[simp] theorem State.setAct_waitGets (a : ActId) (x : Actuator) (s : State) : (s.setAct a x).waitGets = s.waitGets := rfl

@[simp] theorem State.setAct_doors (a : ActId) (x : Actuator) (s : State) : (s.setAct a x).doors = s.doors := rfl

@[simp] theorem State.setAct_vests (a : ActId) (x : Actuator) (s : State) : (s.setAct a x).vests = s.vests := rfl

@[simp] theorem State.setAct_clock (a : ActId) (x : Actuator) (s : State) : (s.setAct a x).clock = s.clock := rfl

@[simp] theorem State.setAct_link (a : ActId) (x : Actuator) (s : State) : (s.setAct a x).link = s.link := rfl

@[simp] theorem State.setAct_store (a : ActId) (x : Actuator) (s : State) : (s.setAct a x).store = s.store := rfl

@[simp] theorem State.setAct_nv (a : ActId) (x : Actuator) (s : State) : (s.setAct a x).nv = s.nv := rfl

@[simp] theorem State.setRoom_pending (v : RoomId) (x : Room) (s : State) : (s.setRoom v x).pending = s.pending := rfl

@[simp] theorem State.setRoom_powered (v : RoomId) (x : Room) (s : State) : (s.setRoom v x).powered = s.powered := rfl

@[simp] theorem State.setRoom_lastStart (v : RoomId) (x : Room) (s : State) : (s.setRoom v x).lastStart = s.lastStart := rfl

@[simp] theorem State.setRoom_quarters (v : RoomId) (x : Room) (s : State) : (s.setRoom v x).quarters = s.quarters := rfl

@[simp] theorem State.setRoom_lines (v : RoomId) (x : Room) (s : State) : (s.setRoom v x).lines = s.lines := rfl

@[simp] theorem State.setRoom_sup (v : RoomId) (x : Room) (s : State) : (s.setRoom v x).sup = s.sup := rfl

@[simp] theorem State.setRoom_loops (v : RoomId) (x : Room) (s : State) : (s.setRoom v x).loops = s.loops := rfl

@[simp] theorem State.setRoom_zones (v : RoomId) (x : Room) (s : State) : (s.setRoom v x).zones = s.zones := rfl

@[simp] theorem State.setRoom_acts (v : RoomId) (x : Room) (s : State) : (s.setRoom v x).acts = s.acts := rfl

@[simp] theorem State.setRoom_bank (v : RoomId) (x : Room) (s : State) : (s.setRoom v x).bank = s.bank := rfl

@[simp] theorem State.setRoom_rooms (v : RoomId) (x : Room) (s : State) : (s.setRoom v x).rooms = put s.rooms v x := rfl

@[simp] theorem State.setRoom_locations (v : RoomId) (x : Room) (s : State) : (s.setRoom v x).locations = s.locations := rfl

@[simp] theorem State.setRoom_stage (v : RoomId) (x : Room) (s : State) : (s.setRoom v x).stage = s.stage := rfl

@[simp] theorem State.setRoom_grants (v : RoomId) (x : Room) (s : State) : (s.setRoom v x).grants = s.grants := rfl

@[simp] theorem State.setRoom_freeze (v : RoomId) (x : Room) (s : State) : (s.setRoom v x).freeze = s.freeze := rfl

@[simp] theorem State.setRoom_hostPresent (v : RoomId) (x : Room) (s : State) : (s.setRoom v x).hostPresent = s.hostPresent := rfl

@[simp] theorem State.setRoom_waitPresents (v : RoomId) (x : Room) (s : State) : (s.setRoom v x).waitPresents = s.waitPresents := rfl

@[simp] theorem State.setRoom_waitGets (v : RoomId) (x : Room) (s : State) : (s.setRoom v x).waitGets = s.waitGets := rfl

@[simp] theorem State.setRoom_doors (v : RoomId) (x : Room) (s : State) : (s.setRoom v x).doors = s.doors := rfl

@[simp] theorem State.setRoom_vests (v : RoomId) (x : Room) (s : State) : (s.setRoom v x).vests = s.vests := rfl

@[simp] theorem State.setRoom_clock (v : RoomId) (x : Room) (s : State) : (s.setRoom v x).clock = s.clock := rfl

@[simp] theorem State.setRoom_link (v : RoomId) (x : Room) (s : State) : (s.setRoom v x).link = s.link := rfl

@[simp] theorem State.setRoom_store (v : RoomId) (x : Room) (s : State) : (s.setRoom v x).store = s.store := rfl

@[simp] theorem State.setRoom_nv (v : RoomId) (x : Room) (s : State) : (s.setRoom v x).nv = s.nv := rfl

@[simp] theorem State.setGrant_pending (d : DoorId) (x : Option Grant) (s : State) : (s.setGrant d x).pending = s.pending := rfl

@[simp] theorem State.setGrant_powered (d : DoorId) (x : Option Grant) (s : State) : (s.setGrant d x).powered = s.powered := rfl

@[simp] theorem State.setGrant_lastStart (d : DoorId) (x : Option Grant) (s : State) : (s.setGrant d x).lastStart = s.lastStart := rfl

@[simp] theorem State.setGrant_quarters (d : DoorId) (x : Option Grant) (s : State) : (s.setGrant d x).quarters = s.quarters := rfl

@[simp] theorem State.setGrant_lines (d : DoorId) (x : Option Grant) (s : State) : (s.setGrant d x).lines = s.lines := rfl

@[simp] theorem State.setGrant_sup (d : DoorId) (x : Option Grant) (s : State) : (s.setGrant d x).sup = s.sup := rfl

@[simp] theorem State.setGrant_loops (d : DoorId) (x : Option Grant) (s : State) : (s.setGrant d x).loops = s.loops := rfl

@[simp] theorem State.setGrant_zones (d : DoorId) (x : Option Grant) (s : State) : (s.setGrant d x).zones = s.zones := rfl

@[simp] theorem State.setGrant_acts (d : DoorId) (x : Option Grant) (s : State) : (s.setGrant d x).acts = s.acts := rfl

@[simp] theorem State.setGrant_bank (d : DoorId) (x : Option Grant) (s : State) : (s.setGrant d x).bank = s.bank := rfl

@[simp] theorem State.setGrant_rooms (d : DoorId) (x : Option Grant) (s : State) : (s.setGrant d x).rooms = s.rooms := rfl

@[simp] theorem State.setGrant_locations (d : DoorId) (x : Option Grant) (s : State) : (s.setGrant d x).locations = s.locations := rfl

@[simp] theorem State.setGrant_stage (d : DoorId) (x : Option Grant) (s : State) : (s.setGrant d x).stage = s.stage := rfl

@[simp] theorem State.setGrant_grants (d : DoorId) (x : Option Grant) (s : State) : (s.setGrant d x).grants = put s.grants d x := rfl

@[simp] theorem State.setGrant_freeze (d : DoorId) (x : Option Grant) (s : State) : (s.setGrant d x).freeze = s.freeze := rfl

@[simp] theorem State.setGrant_hostPresent (d : DoorId) (x : Option Grant) (s : State) : (s.setGrant d x).hostPresent = s.hostPresent := rfl

@[simp] theorem State.setGrant_waitPresents (d : DoorId) (x : Option Grant) (s : State) : (s.setGrant d x).waitPresents = s.waitPresents := rfl

@[simp] theorem State.setGrant_waitGets (d : DoorId) (x : Option Grant) (s : State) : (s.setGrant d x).waitGets = s.waitGets := rfl

@[simp] theorem State.setGrant_doors (d : DoorId) (x : Option Grant) (s : State) : (s.setGrant d x).doors = s.doors := rfl

@[simp] theorem State.setGrant_vests (d : DoorId) (x : Option Grant) (s : State) : (s.setGrant d x).vests = s.vests := rfl

@[simp] theorem State.setGrant_clock (d : DoorId) (x : Option Grant) (s : State) : (s.setGrant d x).clock = s.clock := rfl

@[simp] theorem State.setGrant_link (d : DoorId) (x : Option Grant) (s : State) : (s.setGrant d x).link = s.link := rfl

@[simp] theorem State.setGrant_store (d : DoorId) (x : Option Grant) (s : State) : (s.setGrant d x).store = s.store := rfl

@[simp] theorem State.setGrant_nv (d : DoorId) (x : Option Grant) (s : State) : (s.setGrant d x).nv = s.nv := rfl

@[simp] theorem State.setDoor_pending (d : DoorId) (x : Door) (s : State) : (s.setDoor d x).pending = s.pending := rfl

@[simp] theorem State.setDoor_powered (d : DoorId) (x : Door) (s : State) : (s.setDoor d x).powered = s.powered := rfl

@[simp] theorem State.setDoor_lastStart (d : DoorId) (x : Door) (s : State) : (s.setDoor d x).lastStart = s.lastStart := rfl

@[simp] theorem State.setDoor_quarters (d : DoorId) (x : Door) (s : State) : (s.setDoor d x).quarters = s.quarters := rfl

@[simp] theorem State.setDoor_lines (d : DoorId) (x : Door) (s : State) : (s.setDoor d x).lines = s.lines := rfl

@[simp] theorem State.setDoor_sup (d : DoorId) (x : Door) (s : State) : (s.setDoor d x).sup = s.sup := rfl

@[simp] theorem State.setDoor_loops (d : DoorId) (x : Door) (s : State) : (s.setDoor d x).loops = s.loops := rfl

@[simp] theorem State.setDoor_zones (d : DoorId) (x : Door) (s : State) : (s.setDoor d x).zones = s.zones := rfl

@[simp] theorem State.setDoor_acts (d : DoorId) (x : Door) (s : State) : (s.setDoor d x).acts = s.acts := rfl

@[simp] theorem State.setDoor_bank (d : DoorId) (x : Door) (s : State) : (s.setDoor d x).bank = s.bank := rfl

@[simp] theorem State.setDoor_rooms (d : DoorId) (x : Door) (s : State) : (s.setDoor d x).rooms = s.rooms := rfl

@[simp] theorem State.setDoor_locations (d : DoorId) (x : Door) (s : State) : (s.setDoor d x).locations = s.locations := rfl

@[simp] theorem State.setDoor_stage (d : DoorId) (x : Door) (s : State) : (s.setDoor d x).stage = s.stage := rfl

@[simp] theorem State.setDoor_grants (d : DoorId) (x : Door) (s : State) : (s.setDoor d x).grants = s.grants := rfl

@[simp] theorem State.setDoor_freeze (d : DoorId) (x : Door) (s : State) : (s.setDoor d x).freeze = s.freeze := rfl

@[simp] theorem State.setDoor_hostPresent (d : DoorId) (x : Door) (s : State) : (s.setDoor d x).hostPresent = s.hostPresent := rfl

@[simp] theorem State.setDoor_waitPresents (d : DoorId) (x : Door) (s : State) : (s.setDoor d x).waitPresents = s.waitPresents := rfl

@[simp] theorem State.setDoor_waitGets (d : DoorId) (x : Door) (s : State) : (s.setDoor d x).waitGets = s.waitGets := rfl

@[simp] theorem State.setDoor_doors (d : DoorId) (x : Door) (s : State) : (s.setDoor d x).doors = put s.doors d x := rfl

@[simp] theorem State.setDoor_vests (d : DoorId) (x : Door) (s : State) : (s.setDoor d x).vests = s.vests := rfl

@[simp] theorem State.setDoor_clock (d : DoorId) (x : Door) (s : State) : (s.setDoor d x).clock = s.clock := rfl

@[simp] theorem State.setDoor_link (d : DoorId) (x : Door) (s : State) : (s.setDoor d x).link = s.link := rfl

@[simp] theorem State.setDoor_store (d : DoorId) (x : Door) (s : State) : (s.setDoor d x).store = s.store := rfl

@[simp] theorem State.setDoor_nv (d : DoorId) (x : Door) (s : State) : (s.setDoor d x).nv = s.nv := rfl

@[simp] theorem State.setVest_pending (v : RoomId) (x : Vestibule) (s : State) : (s.setVest v x).pending = s.pending := rfl

@[simp] theorem State.setVest_powered (v : RoomId) (x : Vestibule) (s : State) : (s.setVest v x).powered = s.powered := rfl

@[simp] theorem State.setVest_lastStart (v : RoomId) (x : Vestibule) (s : State) : (s.setVest v x).lastStart = s.lastStart := rfl

@[simp] theorem State.setVest_quarters (v : RoomId) (x : Vestibule) (s : State) : (s.setVest v x).quarters = s.quarters := rfl

@[simp] theorem State.setVest_lines (v : RoomId) (x : Vestibule) (s : State) : (s.setVest v x).lines = s.lines := rfl

@[simp] theorem State.setVest_sup (v : RoomId) (x : Vestibule) (s : State) : (s.setVest v x).sup = s.sup := rfl

@[simp] theorem State.setVest_loops (v : RoomId) (x : Vestibule) (s : State) : (s.setVest v x).loops = s.loops := rfl

@[simp] theorem State.setVest_zones (v : RoomId) (x : Vestibule) (s : State) : (s.setVest v x).zones = s.zones := rfl

@[simp] theorem State.setVest_acts (v : RoomId) (x : Vestibule) (s : State) : (s.setVest v x).acts = s.acts := rfl

@[simp] theorem State.setVest_bank (v : RoomId) (x : Vestibule) (s : State) : (s.setVest v x).bank = s.bank := rfl

@[simp] theorem State.setVest_rooms (v : RoomId) (x : Vestibule) (s : State) : (s.setVest v x).rooms = s.rooms := rfl

@[simp] theorem State.setVest_locations (v : RoomId) (x : Vestibule) (s : State) : (s.setVest v x).locations = s.locations := rfl

@[simp] theorem State.setVest_stage (v : RoomId) (x : Vestibule) (s : State) : (s.setVest v x).stage = s.stage := rfl

@[simp] theorem State.setVest_grants (v : RoomId) (x : Vestibule) (s : State) : (s.setVest v x).grants = s.grants := rfl

@[simp] theorem State.setVest_freeze (v : RoomId) (x : Vestibule) (s : State) : (s.setVest v x).freeze = s.freeze := rfl

@[simp] theorem State.setVest_hostPresent (v : RoomId) (x : Vestibule) (s : State) : (s.setVest v x).hostPresent = s.hostPresent := rfl

@[simp] theorem State.setVest_waitPresents (v : RoomId) (x : Vestibule) (s : State) : (s.setVest v x).waitPresents = s.waitPresents := rfl

@[simp] theorem State.setVest_waitGets (v : RoomId) (x : Vestibule) (s : State) : (s.setVest v x).waitGets = s.waitGets := rfl

@[simp] theorem State.setVest_doors (v : RoomId) (x : Vestibule) (s : State) : (s.setVest v x).doors = s.doors := rfl

@[simp] theorem State.setVest_vests (v : RoomId) (x : Vestibule) (s : State) : (s.setVest v x).vests = put s.vests v x := rfl

@[simp] theorem State.setVest_clock (v : RoomId) (x : Vestibule) (s : State) : (s.setVest v x).clock = s.clock := rfl

@[simp] theorem State.setVest_link (v : RoomId) (x : Vestibule) (s : State) : (s.setVest v x).link = s.link := rfl

@[simp] theorem State.setVest_store (v : RoomId) (x : Vestibule) (s : State) : (s.setVest v x).store = s.store := rfl

@[simp] theorem State.setVest_nv (v : RoomId) (x : Vestibule) (s : State) : (s.setVest v x).nv = s.nv := rfl

@[simp] theorem State.setLocation_pending (slot : SlotId) (p : Location) (s : State) : (s.setLocation slot p).pending = s.pending := rfl

@[simp] theorem State.setLocation_powered (slot : SlotId) (p : Location) (s : State) : (s.setLocation slot p).powered = s.powered := rfl

@[simp] theorem State.setLocation_lastStart (slot : SlotId) (p : Location) (s : State) : (s.setLocation slot p).lastStart = s.lastStart := rfl

@[simp] theorem State.setLocation_quarters (slot : SlotId) (p : Location) (s : State) : (s.setLocation slot p).quarters = s.quarters := rfl

@[simp] theorem State.setLocation_lines (slot : SlotId) (p : Location) (s : State) : (s.setLocation slot p).lines = s.lines := rfl

@[simp] theorem State.setLocation_sup (slot : SlotId) (p : Location) (s : State) : (s.setLocation slot p).sup = s.sup := rfl

@[simp] theorem State.setLocation_loops (slot : SlotId) (p : Location) (s : State) : (s.setLocation slot p).loops = s.loops := rfl

@[simp] theorem State.setLocation_zones (slot : SlotId) (p : Location) (s : State) : (s.setLocation slot p).zones = s.zones := rfl

@[simp] theorem State.setLocation_acts (slot : SlotId) (p : Location) (s : State) : (s.setLocation slot p).acts = s.acts := rfl

@[simp] theorem State.setLocation_bank (slot : SlotId) (p : Location) (s : State) : (s.setLocation slot p).bank = s.bank := rfl

@[simp] theorem State.setLocation_rooms (slot : SlotId) (p : Location) (s : State) : (s.setLocation slot p).rooms = s.rooms := rfl

@[simp] theorem State.setLocation_stage (slot : SlotId) (p : Location) (s : State) : (s.setLocation slot p).stage = s.stage := rfl

@[simp] theorem State.setLocation_grants (slot : SlotId) (p : Location) (s : State) : (s.setLocation slot p).grants = s.grants := rfl

@[simp] theorem State.setLocation_freeze (slot : SlotId) (p : Location) (s : State) : (s.setLocation slot p).freeze = s.freeze := rfl

@[simp] theorem State.setLocation_hostPresent (slot : SlotId) (p : Location) (s : State) : (s.setLocation slot p).hostPresent = s.hostPresent := rfl

@[simp] theorem State.setLocation_waitPresents (slot : SlotId) (p : Location) (s : State) : (s.setLocation slot p).waitPresents = s.waitPresents := rfl

@[simp] theorem State.setLocation_waitGets (slot : SlotId) (p : Location) (s : State) : (s.setLocation slot p).waitGets = s.waitGets := rfl

@[simp] theorem State.setLocation_doors (slot : SlotId) (p : Location) (s : State) : (s.setLocation slot p).doors = s.doors := rfl

@[simp] theorem State.setLocation_vests (slot : SlotId) (p : Location) (s : State) : (s.setLocation slot p).vests = s.vests := rfl

@[simp] theorem State.setLocation_clock (slot : SlotId) (p : Location) (s : State) : (s.setLocation slot p).clock = s.clock := rfl

@[simp] theorem State.setLocation_link (slot : SlotId) (p : Location) (s : State) : (s.setLocation slot p).link = s.link := rfl

@[simp] theorem State.setLocation_store (slot : SlotId) (p : Location) (s : State) : (s.setLocation slot p).store = s.store := rfl

@[simp] theorem State.setLocation_nv (slot : SlotId) (p : Location) (s : State) : (s.setLocation slot p).nv = s.nv := rfl

/-! ## Raising a notice reaches the link alone -/

@[simp] theorem raise_pending (k : NoticeKind) (o : NoticeObject) (d : Option Detail) (s : State) : (raise k o d s).pending = s.pending := rfl

@[simp] theorem raise_powered (k : NoticeKind) (o : NoticeObject) (d : Option Detail) (s : State) : (raise k o d s).powered = s.powered := rfl

@[simp] theorem raise_lastStart (k : NoticeKind) (o : NoticeObject) (d : Option Detail) (s : State) : (raise k o d s).lastStart = s.lastStart := rfl

@[simp] theorem raise_quarters (k : NoticeKind) (o : NoticeObject) (d : Option Detail) (s : State) : (raise k o d s).quarters = s.quarters := rfl

@[simp] theorem raise_lines (k : NoticeKind) (o : NoticeObject) (d : Option Detail) (s : State) : (raise k o d s).lines = s.lines := rfl

@[simp] theorem raise_sup (k : NoticeKind) (o : NoticeObject) (d : Option Detail) (s : State) : (raise k o d s).sup = s.sup := rfl

@[simp] theorem raise_loops (k : NoticeKind) (o : NoticeObject) (d : Option Detail) (s : State) : (raise k o d s).loops = s.loops := rfl

@[simp] theorem raise_zones (k : NoticeKind) (o : NoticeObject) (d : Option Detail) (s : State) : (raise k o d s).zones = s.zones := rfl

@[simp] theorem raise_acts (k : NoticeKind) (o : NoticeObject) (d : Option Detail) (s : State) : (raise k o d s).acts = s.acts := rfl

@[simp] theorem raise_bank (k : NoticeKind) (o : NoticeObject) (d : Option Detail) (s : State) : (raise k o d s).bank = s.bank := rfl

@[simp] theorem raise_rooms (k : NoticeKind) (o : NoticeObject) (d : Option Detail) (s : State) : (raise k o d s).rooms = s.rooms := rfl

@[simp] theorem raise_locations (k : NoticeKind) (o : NoticeObject) (d : Option Detail) (s : State) : (raise k o d s).locations = s.locations := rfl

@[simp] theorem raise_stage (k : NoticeKind) (o : NoticeObject) (d : Option Detail) (s : State) : (raise k o d s).stage = s.stage := rfl

@[simp] theorem raise_grants (k : NoticeKind) (o : NoticeObject) (d : Option Detail) (s : State) : (raise k o d s).grants = s.grants := rfl

@[simp] theorem raise_freeze (k : NoticeKind) (o : NoticeObject) (d : Option Detail) (s : State) : (raise k o d s).freeze = s.freeze := rfl

@[simp] theorem raise_hostPresent (k : NoticeKind) (o : NoticeObject) (d : Option Detail) (s : State) : (raise k o d s).hostPresent = s.hostPresent := rfl

@[simp] theorem raise_waitPresents (k : NoticeKind) (o : NoticeObject) (d : Option Detail) (s : State) : (raise k o d s).waitPresents = s.waitPresents := rfl

@[simp] theorem raise_waitGets (k : NoticeKind) (o : NoticeObject) (d : Option Detail) (s : State) : (raise k o d s).waitGets = s.waitGets := rfl

@[simp] theorem raise_doors (k : NoticeKind) (o : NoticeObject) (d : Option Detail) (s : State) : (raise k o d s).doors = s.doors := rfl

@[simp] theorem raise_vests (k : NoticeKind) (o : NoticeObject) (d : Option Detail) (s : State) : (raise k o d s).vests = s.vests := rfl

@[simp] theorem raise_clock (k : NoticeKind) (o : NoticeObject) (d : Option Detail) (s : State) : (raise k o d s).clock = s.clock := rfl

@[simp] theorem raise_store (k : NoticeKind) (o : NoticeObject) (d : Option Detail) (s : State) : (raise k o d s).store = s.store := rfl

@[simp] theorem raise_nv (k : NoticeKind) (o : NoticeObject) (d : Option Detail) (s : State) : (raise k o d s).nv = s.nv := rfl

@[simp] theorem raise_link (k : NoticeKind) (o : NoticeObject) (d : Option Detail) (s : State) :
    (raise k o d s).link = s.link.take ⟨k, o, d, s.now, s.clockMinute, 1, false⟩ := rfl

/-! ## Writing a settings record or a mark reaches one table of the store -/

@[simp] theorem Nv.putCredential_doors (nv : Nv) (slot : SlotId) (c : Credential) : (nv.putCredential slot c).doors = nv.doors := rfl

@[simp] theorem Nv.putCredential_zones (nv : Nv) (slot : SlotId) (c : Credential) : (nv.putCredential slot c).zones = nv.zones := rfl


/-! ## What a request finds and leaves -/

@[simp] theorem heard_pending (kind tag : Nat) (s : State) : (heard kind tag s).pending = s.pending := rfl

@[simp] theorem heard_powered (kind tag : Nat) (s : State) : (heard kind tag s).powered = s.powered := rfl

@[simp] theorem heard_lastStart (kind tag : Nat) (s : State) : (heard kind tag s).lastStart = s.lastStart := rfl

@[simp] theorem heard_quarters (kind tag : Nat) (s : State) : (heard kind tag s).quarters = s.quarters := rfl

@[simp] theorem heard_lines (kind tag : Nat) (s : State) : (heard kind tag s).lines = s.lines := rfl

@[simp] theorem heard_sup (kind tag : Nat) (s : State) : (heard kind tag s).sup = s.sup := rfl

@[simp] theorem heard_loops (kind tag : Nat) (s : State) : (heard kind tag s).loops = s.loops := rfl

@[simp] theorem heard_zones (kind tag : Nat) (s : State) : (heard kind tag s).zones = s.zones := rfl

@[simp] theorem heard_acts (kind tag : Nat) (s : State) : (heard kind tag s).acts = s.acts := rfl

@[simp] theorem heard_bank (kind tag : Nat) (s : State) : (heard kind tag s).bank = s.bank := rfl

@[simp] theorem heard_rooms (kind tag : Nat) (s : State) : (heard kind tag s).rooms = s.rooms := rfl

@[simp] theorem heard_locations (kind tag : Nat) (s : State) : (heard kind tag s).locations = s.locations := rfl

@[simp] theorem heard_stage (kind tag : Nat) (s : State) : (heard kind tag s).stage = s.stage := rfl

@[simp] theorem heard_grants (kind tag : Nat) (s : State) : (heard kind tag s).grants = s.grants := rfl

@[simp] theorem heard_freeze (kind tag : Nat) (s : State) : (heard kind tag s).freeze = s.freeze := rfl

@[simp] theorem heard_waitPresents (kind tag : Nat) (s : State) : (heard kind tag s).waitPresents = s.waitPresents := rfl

@[simp] theorem heard_waitGets (kind tag : Nat) (s : State) : (heard kind tag s).waitGets = s.waitGets := rfl

@[simp] theorem heard_doors (kind tag : Nat) (s : State) : (heard kind tag s).doors = s.doors := rfl

@[simp] theorem heard_vests (kind tag : Nat) (s : State) : (heard kind tag s).vests = s.vests := rfl

@[simp] theorem heard_clock (kind tag : Nat) (s : State) : (heard kind tag s).clock = s.clock := rfl

@[simp] theorem heard_store (kind tag : Nat) (s : State) : (heard kind tag s).store = s.store := rfl

@[simp] theorem heard_nv (kind tag : Nat) (s : State) : (heard kind tag s).nv = s.nv := rfl

@[simp] theorem heard_outstanding (kind tag : Nat) (s : State) : (heard kind tag s).link.outstanding = some ⟨kind, tag⟩ := rfl

end Sys2Proof.Machine
end

