-- ==== Sys2Proof/Laws/Sparse.lean ====
section
/-! SUPPORT. Laws of the sparse tables (the places of the credential slots and the credential records): a read after a
write, and that every write keeps the canonical form. -/

namespace Sys2Proof.Machine

variable {n : Nat} {α : Type}

/-- Every key of a table lies above a key. -/
def keysAbove (i : Fin n) (t : List (Fin n × α)) : Prop := ∀ e ∈ t, i < e.1

theorem sparseGet_above {dflt : α} {i : Fin n} {t : List (Fin n × α)} (h : keysAbove i t) : sparseGet dflt t i = dflt := by
  induction t with
  | nil => rfl
  | cons e rest ih =>
    obtain ⟨k, x⟩ := e
    have hk : i < k := h (k, x) (List.mem_cons_self ..)
    simp only [sparseGet]
    rw [if_neg (Fin.ne_of_gt hk)]
    exact ih (fun f hf => h f (List.mem_cons_of_mem _ hf))

theorem sparseOk_cons [DecidableEq α] {dflt : α} {k : Fin n} {x : α} {rest : List (Fin n × α)} :
    sparseOk dflt ((k, x) :: rest) = true ↔ x ≠ dflt ∧ keysAbove k rest ∧ sparseOk dflt rest = true := by
  simp [sparseOk, keysAbove, List.all_eq_true, and_assoc]

theorem mem_sparseErase {t : List (Fin n × α)} {i : Fin n} {e : Fin n × α} (h : e ∈ sparseErase t i) : e ∈ t := by
  induction t with
  | nil => simp [sparseErase] at h
  | cons f rest ih =>
    obtain ⟨k, x⟩ := f
    simp only [sparseErase] at h
    split at h
    · exact List.mem_cons_of_mem _ h
    · rcases List.mem_cons.1 h with rfl | h
      · exact List.mem_cons_self ..
      · exact List.mem_cons_of_mem _ (ih h)

theorem mem_sparseInsert {t : List (Fin n × α)} {i : Fin n} {y : α} {e : Fin n × α} (h : e ∈ sparseInsert t i y) :
    e = (i, y) ∨ e ∈ t := by
  induction t with
  | nil => exact .inl (by simpa [sparseInsert] using h)
  | cons f rest ih =>
    obtain ⟨k, x⟩ := f
    simp only [sparseInsert] at h
    split at h
    · exact List.mem_cons.1 h
    · split at h
      · rcases List.mem_cons.1 h with h | h
        · exact .inl h
        · exact .inr (List.mem_cons_of_mem _ h)
      · rcases List.mem_cons.1 h with h | h
        · exact .inr (h ▸ List.mem_cons_self ..)
        · exact (ih h).imp id (List.mem_cons_of_mem _)

/-- Writing one key leaves every other entry of a table in it. -/
theorem mem_sparsePut [DecidableEq α] {dflt : α} {t : List (Fin n × α)} {i : Fin n} {y : α} {e : Fin n × α}
    (h : e ∈ sparsePut dflt t i y) : e = (i, y) ∨ e ∈ t := by
  simp only [sparsePut] at h
  split at h
  · exact .inr (mem_sparseErase h)
  · exact mem_sparseInsert h

theorem sparseErase_ok [DecidableEq α] {dflt : α} {t : List (Fin n × α)} {i : Fin n} (h : sparseOk dflt t = true) :
    sparseOk dflt (sparseErase t i) = true := by
  induction t with
  | nil => rfl
  | cons e rest ih =>
    obtain ⟨k, x⟩ := e
    obtain ⟨hx, hk, hr⟩ := sparseOk_cons.1 h
    simp only [sparseErase]
    split
    · exact hr
    · exact sparseOk_cons.2 ⟨hx, fun f hf => hk f (mem_sparseErase hf), ih hr⟩

theorem sparseInsert_ok [DecidableEq α] {dflt : α} {t : List (Fin n × α)} {i : Fin n} {y : α} (hy : y ≠ dflt)
    (h : sparseOk dflt t = true) : sparseOk dflt (sparseInsert t i y) = true := by
  induction t with
  | nil => exact sparseOk_cons.2 ⟨hy, (fun _ he => by cases he), rfl⟩
  | cons e rest ih =>
    obtain ⟨k, x⟩ := e
    obtain ⟨hx, hk, hr⟩ := sparseOk_cons.1 h
    simp only [sparseInsert]
    split
    · rename_i hik
      refine sparseOk_cons.2 ⟨hy, fun f hf => ?_, h⟩
      rcases List.mem_cons.1 hf with rfl | hf
      · exact hik
      · exact Fin.lt_trans hik (hk f hf)
    · rename_i hik
      split
      · rename_i hki
        subst hki
        exact sparseOk_cons.2 ⟨hy, hk, hr⟩
      · rename_i hki
        refine sparseOk_cons.2 ⟨hx, fun f hf => ?_, ih hr⟩
        rcases mem_sparseInsert hf with rfl | hf
        · exact Fin.lt_def.2 (Nat.lt_of_le_of_ne (Fin.le_def.1 (Fin.not_lt.1 hik)) (fun e => hki (Fin.ext e)))
        · exact hk f hf

/-- Every write keeps the canonical form: strictly rising keys, and no entry equal to the default. -/
theorem sparsePut_ok [DecidableEq α] {dflt : α} {t : List (Fin n × α)} (i : Fin n) (y : α) (h : sparseOk dflt t = true) :
    sparseOk dflt (sparsePut dflt t i y) = true := by
  simp only [sparsePut]
  split
  · exact sparseErase_ok h
  · rename_i hy
    exact sparseInsert_ok hy h

theorem sparseGet_erase_other {dflt : α} {t : List (Fin n × α)} {i j : Fin n} (hj : j ≠ i) :
    sparseGet dflt (sparseErase t i) j = sparseGet dflt t j := by
  induction t with
  | nil => rfl
  | cons e rest ih =>
    obtain ⟨k, x⟩ := e
    simp only [sparseErase]
    split
    · rename_i hk
      subst hk
      simp [sparseGet, Ne.symm hj]
    · simp only [sparseGet, ih]

theorem sparseGet_erase_same [DecidableEq α] {dflt : α} {t : List (Fin n × α)} {i : Fin n} (h : sparseOk dflt t = true) :
    sparseGet dflt (sparseErase t i) i = dflt := by
  induction t with
  | nil => rfl
  | cons e rest ih =>
    obtain ⟨k, x⟩ := e
    obtain ⟨_, hk, hr⟩ := sparseOk_cons.1 h
    simp only [sparseErase]
    split
    · rename_i hki
      subst hki
      exact sparseGet_above hk
    · rename_i hki
      simp only [sparseGet]
      rw [if_neg hki]
      exact ih hr

theorem sparseGet_insert_same {dflt : α} (t : List (Fin n × α)) (i : Fin n) (y : α) :
    sparseGet dflt (sparseInsert t i y) i = y := by
  induction t with
  | nil => simp [sparseInsert, sparseGet]
  | cons e rest ih =>
    obtain ⟨k, x⟩ := e
    simp only [sparseInsert]
    split
    · simp [sparseGet]
    · split
      · simp [sparseGet]
      · rename_i hk
        simp only [sparseGet]
        rw [if_neg hk]
        exact ih

theorem sparseGet_insert_other {dflt : α} {t : List (Fin n × α)} {i j : Fin n} {y : α} (hj : j ≠ i) :
    sparseGet dflt (sparseInsert t i y) j = sparseGet dflt t j := by
  induction t with
  | nil => simp [sparseInsert, sparseGet, Ne.symm hj]
  | cons e rest ih =>
    obtain ⟨k, x⟩ := e
    simp only [sparseInsert]
    split
    · simp [sparseGet, Ne.symm hj]
    · split
      · rename_i hk
        subst hk
        simp [sparseGet, Ne.symm hj]
      · simp only [sparseGet, ih]

/-- A read of the key written gives the value written. -/
theorem sparseGet_put_same [DecidableEq α] {dflt : α} {t : List (Fin n × α)} (i : Fin n) (y : α)
    (h : sparseOk dflt t = true) : sparseGet dflt (sparsePut dflt t i y) i = y := by
  simp only [sparsePut]
  split
  · rename_i hy
    rw [sparseGet_erase_same h, hy]
  · exact sparseGet_insert_same t i y

/-- A read of another key gives what it gave. -/
theorem sparseGet_put_other [DecidableEq α] {dflt : α} {t : List (Fin n × α)} {i j : Fin n} (y : α) (hj : j ≠ i) :
    sparseGet dflt (sparsePut dflt t i y) j = sparseGet dflt t j := by
  simp only [sparsePut]
  split
  · exact sparseGet_erase_other hj
  · exact sparseGet_insert_other hj

/-- An entry of a table in canonical form is what a read of its key gives. -/
theorem sparseGet_of_mem [DecidableEq α] {dflt : α} {t : List (Fin n × α)} {i : Fin n} {x : α} (h : sparseOk dflt t = true)
    (hm : (i, x) ∈ t) : sparseGet dflt t i = x := by
  induction t with
  | nil => cases hm
  | cons e rest ih =>
    obtain ⟨k, y⟩ := e
    obtain ⟨_, hk, hr⟩ := sparseOk_cons.1 h
    simp only [sparseGet]
    rcases List.mem_cons.1 hm with he | hm
    · cases he
      simp
    · have : k < i := hk _ hm
      rw [if_neg (Fin.ne_of_lt this)]
      exact ih hr hm

/-! ## Places and credential records -/

theorem State.location_setLocation_same {s : State} (slot : SlotId) (p : Location) (h : sparseOk .outside s.locations = true) :
    (s.setLocation slot p).location slot = p := sparseGet_put_same slot p h

theorem State.location_setLocation_other {s : State} {slot i : SlotId} (p : Location) (h : i ≠ slot) :
    (s.setLocation slot p).location i = s.location i := sparseGet_put_other p h

theorem Nv.credential_put_same {nv : Nv} (slot : SlotId) (c : Credential)
    (h : sparseOk Credential.empty nv.credentials = true) : (nv.putCredential slot c).credential slot = c.stored :=
  sparseGet_put_same slot _ h

theorem Nv.credential_put_other {nv : Nv} {slot i : SlotId} (c : Credential) (h : i ≠ slot) :
    (nv.putCredential slot c).credential i = nv.credential i := sparseGet_put_other _ h

theorem reset_tables_ok :
    sparseOk .outside State.reset.locations = true ∧ sparseOk Credential.empty State.reset.nv.credentials = true := ⟨rfl, rfl⟩

end Sys2Proof.Machine
end

