-- ==== Sys2Proof/Laws/Reach.lean ====
section
/-! SUPPORT. Laws of reach: what the shared operations on grants, doors and vestibules can change. Each says once that its
operation answers a state that differs in the access fields alone, so that a frame is cited and not unfolded. -/

namespace Sys2Proof.Machine

/-- `t` differs from `s` at most in the grants, doors, vestibules and places, and in the notices, the lost count and the
transmit queue of the link. -/
def AccessOnly (s t : State) : Prop :=
  ∃ g d v p n lost tx,
    t = { s with
      grants := g, doors := d, vests := v, locations := p, link := { s.link with notices := n, lost := lost, tx := tx } }

theorem AccessOnly.refl (s : State) : AccessOnly s s := ⟨_, _, _, _, _, _, _, rfl⟩

theorem AccessOnly.trans {s t u : State} (h : AccessOnly s t) (k : AccessOnly t u) : AccessOnly s u := by
  obtain ⟨_, _, _, _, _, _, _, rfl⟩ := h
  obtain ⟨_, _, _, _, _, _, _, rfl⟩ := k
  exact ⟨_, _, _, _, _, _, _, rfl⟩

/-- A change that reaches the access fields alone, repeated over a list. -/
theorem AccessOnly.foldl {α : Type} {f : State → α → State} (h : ∀ s a, AccessOnly s (f s a)) (l : List α) (s : State) :
    AccessOnly s (l.foldl f s) := by
  induction l generalizing s with
  | nil => exact .refl s
  | cons a rest ih => exact (h s a).trans (ih (f s a))

theorem AccessOnly.forEach {n : Nat} {f : Fin n → State → State} (h : ∀ i s, AccessOnly s (f i s)) (s : State) :
    AccessOnly s (forEach f s) := AccessOnly.foldl (fun s i => h i s) _ s

theorem AccessOnly.ite {c : Prop} [Decidable c] {s t u : State} (ht : AccessOnly s t) (hu : AccessOnly s u) :
    AccessOnly s (if c then t else u) := by
  split
  · exact ht
  · exact hu

/-! ## Records, notices and replies -/

theorem setGrant_reach (d : DoorId) (x : Option Grant) (s : State) : AccessOnly s (s.setGrant d x) := ⟨_, _, _, _, _, _, _, rfl⟩

theorem setDoor_reach (d : DoorId) (x : Door) (s : State) : AccessOnly s (s.setDoor d x) := ⟨_, _, _, _, _, _, _, rfl⟩

theorem modDoor_reach (d : DoorId) (f : Door → Door) (s : State) : AccessOnly s (modDoor d f s) := setDoor_reach ..

theorem setVest_reach (v : RoomId) (x : Vestibule) (s : State) : AccessOnly s (s.setVest v x) := ⟨_, _, _, _, _, _, _, rfl⟩

theorem setLocation_reach (slot : SlotId) (p : Location) (s : State) : AccessOnly s (s.setLocation slot p) :=
  ⟨_, _, _, _, _, _, _, rfl⟩

/-- A notice reaches the queue and the lost count alone (R193 to R197). -/
theorem take_reach (n : Notice) (lk : Link) : ∃ q lost, lk.take n = { lk with notices := q, lost := lost } := by
  unfold Link.take
  split
  · exact ⟨_, _, rfl⟩
  · split
    · exact ⟨_, _, rfl⟩
    · split
      · exact ⟨_, _, rfl⟩
      · split <;> exact ⟨_, _, rfl⟩

theorem raise_reach (k : NoticeKind) (o : NoticeObject) (d : Option Detail) (s : State) : AccessOnly s (raise k o d s) := by
  obtain ⟨q, lost, h⟩ := take_reach ⟨k, o, d, s.now, s.clockMinute, 1, false⟩ s.link
  exact ⟨s.grants, s.doors, s.vests, s.locations, q, lost, s.link.tx, by simp only [raise, h]⟩

theorem raiseDoor_reach (k : NoticeKind) (d : DoorId) (det : Option Detail) (s : State) :
    AccessOnly s (raiseDoor k d det s) := .ite (raise_reach ..) (.refl s)

/-- A reply reaches the transmit queue alone (R190). -/
theorem reply_reach (st : Status) (data : ReplyData) (role : ReplyRole) (s : State) : AccessOnly s (reply st data role s) := by
  unfold reply
  split
  · exact .refl s
  · exact ⟨_, _, _, _, _, _, _, rfl⟩

theorem answerOwed_reach (owed : Bool) (st : Status) (data : ReplyData) (s : State) :
    AccessOnly s (answerOwed owed st data s) := .ite (reply_reach ..) (.refl s)

/-! ## Grants and vestibules (R129, R163, R173) -/

/-- Cancelling a grant record reaches no door, no vestibule and no place. -/
theorem dropGrant_reach (d : DoorId) (r : Reason) (s : State) : AccessOnly s (dropGrant d r s) := by
  unfold dropGrant
  split
  · exact .refl s
  · dsimp only
    split
    · exact ((setGrant_reach ..).trans (raise_reach ..)).trans (answerOwed_reach ..)
    · exact (setGrant_reach ..).trans (raise_reach ..)

theorem handRemoval_reach (v : RoomId) (slot : SlotId) (s : State) : AccessOnly s (handRemoval v slot s) := by
  unfold handRemoval
  split
  · exact .refl s
  · split
    · exact .refl s
    · exact .ite (dropGrant_reach ..) (.refl s)

theorem vestRemove_reach (v : RoomId) (slot : SlotId) (s : State) : AccessOnly s (vestRemove v slot s) :=
  .ite ((setVest_reach ..).trans (handRemoval_reach ..)) (.refl s)

theorem vestAppend_reach (v : RoomId) (slot : SlotId) (badge : Nat) (dir : Direction) (s : State) :
    AccessOnly s (vestAppend v slot badge dir s) := setVest_reach ..

theorem emptyVestibule_reach (v : RoomId) (k : NoticeKind) (s : State) : AccessOnly s (emptyVestibule v k s) :=
  (((setVest_reach v Vestibule.empty s).trans (AccessOnly.foldl (fun s (o : Occupant) => setLocation_reach o.slot .outside s) _ _)).trans
    (AccessOnly.foldl (fun s (o : Occupant) => handRemoval_reach v o.slot s) _ _)).trans
    (AccessOnly.foldl (fun s (o : Occupant) => raise_reach k (.strongroom v) (some (.badge o.badge)) s) _ _)

/-! ## Bolts (R140 to R148, R151, R171) -/

theorem startMotion_reach (d : DoorId) (target : Bolt) (s : State) : AccessOnly s (startMotion d target s) := setDoor_reach ..

theorem stopAtTarget_reach (d : DoorId) (target : Bolt) (s : State) : AccessOnly s (stopAtTarget d target s) := setDoor_reach ..

theorem enterOpen_reach (d : DoorId) (s : State) : AccessOnly s (enterOpen d s) := setDoor_reach ..

theorem enterReleased_reach (d : DoorId) (s : State) : AccessOnly s (enterReleased d s) :=
  (setDoor_reach ..).trans (setGrant_reach ..)

theorem beginWithdraw_reach (d : DoorId) (s : State) : AccessOnly s (beginWithdraw d s) :=
  .ite ((stopAtTarget_reach ..).trans (enterReleased_reach ..)) (startMotion_reach ..)

theorem startRelease_reach (d : DoorId) (s : State) : AccessOnly s (startRelease d s) :=
  (setDoor_reach ..).trans (beginWithdraw_reach ..)

theorem autoRelease_reach (v : RoomId) (s : State) : AccessOnly s (autoRelease v s) := by
  unfold autoRelease
  split
  · dsimp only
    split
    · split
      · exact ((((dropGrant_reach ..).trans (setGrant_reach ..)).trans (startRelease_reach ..)).trans
          ((enterOpen_reach ..).trans (setGrant_reach ..))).trans (emptyVestibule_reach ..)
      · exact ((dropGrant_reach ..).trans (setGrant_reach ..)).trans (startRelease_reach ..)
    · exact .refl s
  · exact .refl s

theorem handSecure_reach (d : DoorId) (rederived : Bool) (s : State) : AccessOnly s (handSecure d rederived s) := by
  unfold handSecure
  split
  · exact autoRelease_reach ..
  · exact .ite (autoRelease_reach ..) (.refl s)
  · exact .refl s

theorem enterSecure_reach (d : DoorId) (rederived : Bool) (s : State) : AccessOnly s (enterSecure d rederived s) :=
  (setDoor_reach ..).trans <|
    .trans (.ite (raiseDoor_reach ..) (.refl _)) (.ite (.refl _) (handSecure_reach ..))

theorem beginThrow_reach (d : DoorId) (s : State) : AccessOnly s (beginThrow d s) :=
  .ite ((stopAtTarget_reach ..).trans (enterSecure_reach ..)) (startMotion_reach ..)

theorem throwInto_reach (st : DoorState) (d : DoorId) (s : State) : AccessOnly s (throwInto st d s) :=
  (setDoor_reach ..).trans (beginThrow_reach ..)

theorem throwKeepingTrips_reach (d : DoorId) (s : State) : AccessOnly s (throwKeepingTrips d s) :=
  (throwInto_reach ..).trans (setDoor_reach ..)

theorem doorCancelled_reach (d : DoorId) (s : State) : AccessOnly s (doorCancelled d s) := by
  unfold doorCancelled
  dsimp only
  split
  · exact setDoor_reach ..
  · exact throwKeepingTrips_reach ..
  · exact throwKeepingTrips_reach ..
  · exact .refl s

/-- Cancelling a grant in whatever stage reaches the access fields alone (R129, R134, R148). -/
theorem cancelGrant_reach (d : DoorId) (r : Reason) (s : State) : AccessOnly s (cancelGrant d r s) :=
  .ite ((dropGrant_reach ..).trans (doorCancelled_reach ..)) (dropGrant_reach ..)

theorem failGrant_reach (d : DoorId) (s : State) : AccessOnly s (failGrant d s) := by
  unfold failGrant
  split
  · exact .ite (.refl s) ((setGrant_reach ..).trans (raiseDoor_reach ..))
  · exact .refl s

theorem enterOverlay_reach (st : DoorState) (d : DoorId) (s : State) : AccessOnly s (enterOverlay st d s) :=
  (setDoor_reach ..).trans (failGrant_reach ..)

theorem rederive_reach (d : DoorId) (s : State) : AccessOnly s (rederive d s) := by
  unfold rederive
  dsimp only
  split
  · exact setDoor_reach ..
  · split
    · exact (setDoor_reach ..).trans (enterSecure_reach ..)
    · exact (setDoor_reach ..).trans (throwInto_reach ..)
    · exact .ite ((setDoor_reach ..).trans (enterOpen_reach ..)) (setDoor_reach ..)
    · exact (setDoor_reach ..).trans (enterOpen_reach ..)

theorem manualMotion_reach (d : DoorId) (target : Bolt) (s : State) : AccessOnly s (manualMotion d target s) :=
  .ite ((stopAtTarget_reach ..).trans (raiseDoor_reach ..)) (startMotion_reach ..)

theorem setAlarm_reach (d : DoorId) (s : State) : AccessOnly s (setAlarm d s) := modDoor_reach ..

/-! ## What a zone's change of state does to grants and doors (R59, R135, R159) -/

theorem cancelHazard_reach (z : ZoneId) (s : State) : AccessOnly s (cancelHazard z s) :=
  AccessOnly.forEach (fun _ _ => .ite (cancelGrant_reach ..) (.refl _)) s

theorem handZone_reach (z : ZoneId) (s : State) : AccessOnly s (handZone z s) := by
  unfold handZone
  dsimp only
  split
  · exact (cancelHazard_reach z s).trans (AccessOnly.forEach (fun _ _ => .ite (beginThrow_reach ..) (.refl _)) _)
  · exact cancelHazard_reach z s

theorem reportOpenDoor_reach (d : Option DoorId) (s : State) : AccessOnly s (reportOpenDoor d s) := by
  unfold reportOpenDoor
  split
  · exact .ite (.refl s) (raise_reach ..)
  · exact .refl s

/-! ## The freeze and changes of mode (R121, R132, R135) -/

theorem setFreeze_reach (s : State) : AccessOnly { s with freeze := true } (setFreeze s) := by
  unfold setFreeze
  split
  · rename_i h
    have : s = { s with freeze := true } := by cases s; simp_all
    exact this ▸ .refl _
  · refine AccessOnly.forEach (fun d t => ?_) _
    split
    · exact .ite (cancelGrant_reach ..) (.refl _)
    · exact .refl _

theorem cancelOutOfHours_reach (s : State) : AccessOnly s (cancelOutOfHours s) :=
  AccessOnly.forEach (fun _ _ => .ite (cancelGrant_reach ..) (.refl _)) s

/-! ## Fields that no such operation reaches -/

section
variable {s t : State} (h : AccessOnly s t)
include h

theorem AccessOnly.pending : t.pending = s.pending := by obtain ⟨_, _, _, _, _, _, _, rfl⟩ := h; rfl

theorem AccessOnly.powered : t.powered = s.powered := by obtain ⟨_, _, _, _, _, _, _, rfl⟩ := h; rfl

theorem AccessOnly.now : t.now = s.now := by obtain ⟨_, _, _, _, _, _, _, rfl⟩ := h; rfl

theorem AccessOnly.lines : t.lines = s.lines := by obtain ⟨_, _, _, _, _, _, _, rfl⟩ := h; rfl

theorem AccessOnly.sup : t.sup = s.sup := by obtain ⟨_, _, _, _, _, _, _, rfl⟩ := h; rfl

theorem AccessOnly.loops : t.loops = s.loops := by obtain ⟨_, _, _, _, _, _, _, rfl⟩ := h; rfl

theorem AccessOnly.zones : t.zones = s.zones := by obtain ⟨_, _, _, _, _, _, _, rfl⟩ := h; rfl

theorem AccessOnly.acts : t.acts = s.acts := by obtain ⟨_, _, _, _, _, _, _, rfl⟩ := h; rfl

theorem AccessOnly.bank : t.bank = s.bank := by obtain ⟨_, _, _, _, _, _, _, rfl⟩ := h; rfl

theorem AccessOnly.rooms : t.rooms = s.rooms := by obtain ⟨_, _, _, _, _, _, _, rfl⟩ := h; rfl

theorem AccessOnly.clock : t.clock = s.clock := by obtain ⟨_, _, _, _, _, _, _, rfl⟩ := h; rfl

theorem AccessOnly.store : t.store = s.store := by obtain ⟨_, _, _, _, _, _, _, rfl⟩ := h; rfl

theorem AccessOnly.nv : t.nv = s.nv := by obtain ⟨_, _, _, _, _, _, _, rfl⟩ := h; rfl

theorem AccessOnly.stage : t.stage = s.stage := by obtain ⟨_, _, _, _, _, _, _, rfl⟩ := h; rfl

theorem AccessOnly.freeze : t.freeze = s.freeze := by obtain ⟨_, _, _, _, _, _, _, rfl⟩ := h; rfl

/-- The state after, written as the state before with the access fields of the state after. -/
theorem AccessOnly.eq :
    t = { s with
      grants := t.grants, doors := t.doors, vests := t.vests, locations := t.locations
      link := { s.link with notices := t.link.notices, lost := t.link.lost, tx := t.link.tx } } := by
  obtain ⟨_, _, _, _, _, _, _, rfl⟩ := h
  rfl

end

end Sys2Proof.Machine
end

