-- ==== Sys2Proof/Laws/Bank.lean ====
section
/-! SUPPORT. Laws of the firing bank, of a release, and of a change of strongroom records: what each shared operation on
zones, actuators and strongrooms can change (R50 to R52, R63, R84 to R86, R96). -/

namespace Sys2Proof.Machine

/-! ## Pulse grants (R84 to R86) -/

/-- `t` differs from `s` at most in the actuators and the firing bank. -/
def BankOnly (s t : State) : Prop := ∃ a b, t = { s with acts := a, bank := b }

theorem BankOnly.refl (s : State) : BankOnly s s := ⟨_, _, rfl⟩

theorem BankOnly.trans {s t u : State} (h : BankOnly s t) (k : BankOnly t u) : BankOnly s u := by
  obtain ⟨_, _, rfl⟩ := h
  obtain ⟨_, _, rfl⟩ := k
  exact ⟨_, _, rfl⟩

theorem queueArmed_reach (a : ActId) (s : State) : BankOnly s (queueArmed a s) := ⟨_, _, rfl⟩

/-- A pulse grant: nothing, or the head of the queue begins to fire (R85). -/
theorem grantOne_cases (s : State) :
    grantOne s = s ∨ ∃ a rest, s.bank.queue = a :: rest ∧ s.bank.mayGrant = true ∧
      grantOne s = { s.setAct a { s.acts.get a with
          state := .firing, attempts := (s.acts.get a).attempts + 1, pulseEnd := some (s.now + Config.pulseMs) } with
        bank := ⟨rest, s.bank.inFlight ++ [a], s.bank.pulseCount + 1, s.bank.pauseEnd⟩ } := by
  unfold grantOne
  split
  · exact .inl rfl
  · rename_i a rest hq
    split
    · rename_i hm
      exact .inr ⟨a, rest, hq, hm, rfl⟩
    · exact .inl rfl

theorem grantOne_reach (s : State) : BankOnly s (grantOne s) := by
  rcases grantOne_cases s with h | ⟨a, rest, _, _, h⟩
  · rw [h]; exact .refl s
  · rw [h]; exact ⟨_, _, rfl⟩

theorem grantPulses_reach (s : State) : BankOnly s (grantPulses s) := (grantOne_reach s).trans (grantOne_reach _)

theorem pauseTest_reach (s : State) : BankOnly s (pauseTest s) := by
  unfold pauseTest
  split
  · exact ⟨_, _, rfl⟩
  · exact .refl s

/-- Grants move actuators from the queue to the set in flight and keep their order (R85). -/
theorem grantOne_order (s : State) :
    (grantOne s).bank.inFlight ++ (grantOne s).bank.queue = s.bank.inFlight ++ s.bank.queue := by
  rcases grantOne_cases s with h | ⟨a, rest, hq, _, h⟩
  · rw [h]
  · rw [h, hq]; simp

theorem grantPulses_order (s : State) :
    (grantPulses s).bank.inFlight ++ (grantPulses s).bank.queue = s.bank.inFlight ++ s.bank.queue :=
  (grantOne_order _).trans (grantOne_order s)

/-- Each grant counts one pulse (R85). -/
theorem grantOne_count (s : State) :
    (grantOne s).bank.pulseCount + s.bank.inFlight.length = s.bank.pulseCount + (grantOne s).bank.inFlight.length := by
  rcases grantOne_cases s with h | ⟨a, rest, hq, _, h⟩
  · rw [h]
  · rw [h]; simp only [List.length_append, List.length_singleton]; omega

theorem grantPulses_count (s : State) :
    (grantPulses s).bank.pulseCount + s.bank.inFlight.length =
      s.bank.pulseCount + (grantPulses s).bank.inFlight.length := by
  have h := grantOne_count s
  have k := grantOne_count (grantOne s)
  unfold grantPulses
  omega

/-- A grant leaves an actuator that does not stand in the queue as it is (R85). -/
theorem grantOne_acts {s : State} {a : ActId} (h : a ∉ s.bank.queue) :
    (grantOne s).acts.get a = s.acts.get a ∧ a ∉ (grantOne s).bank.queue := by
  rcases grantOne_cases s with e | ⟨b, rest, hq, _, e⟩
  · rw [e]; exact ⟨rfl, h⟩
  · rw [hq, List.mem_cons, not_or] at h
    rw [e]
    exact ⟨by simp [h.1], h.2⟩

theorem grantPulses_acts {s : State} {a : ActId} (h : a ∉ s.bank.queue) : (grantPulses s).acts.get a = s.acts.get a :=
  (grantOne_acts (grantOne_acts h).2).1.trans (grantOne_acts h).1

/-- A grant leaves every actuator in its state or makes it FIRING (R85). -/
theorem grantOne_state (s : State) (a : ActId) :
    ((grantOne s).acts.get a).state = (s.acts.get a).state ∨ ((grantOne s).acts.get a).state = .firing := by
  rcases grantOne_cases s with e | ⟨b, rest, _, _, e⟩
  · exact .inl (by rw [e])
  · rw [e]
    by_cases hab : a = b
    · subst hab
      exact .inr (by simp)
    · exact .inl (by simp [hab])

/-- At most two pulses are in flight and at most six lie between two pauses (R85, R86). -/
theorem grantOne_bounds {s : State} (h : s.bank.inFlight.length ≤ 2) (k : s.bank.pulseCount ≤ 6) :
    (grantOne s).bank.inFlight.length ≤ 2 ∧ (grantOne s).bank.pulseCount ≤ 6 := by
  rcases grantOne_cases s with e | ⟨b, rest, _, hm, e⟩
  · rw [e]; exact ⟨h, k⟩
  · simp only [Bank.mayGrant, Bool.and_eq_true, decide_eq_true_eq] at hm
    simp only [Config.maxInFlight, Config.pulsesPerCharge] at hm
    rw [e]
    simp only [List.length_append, List.length_singleton]
    omega

theorem grantPulses_bounds {s : State} (h : s.bank.inFlight.length ≤ 2) (k : s.bank.pulseCount ≤ 6) :
    (grantPulses s).bank.inFlight.length ≤ 2 ∧ (grantPulses s).bank.pulseCount ≤ 6 :=
  grantOne_bounds (grantOne_bounds h k).1 (grantOne_bounds h k).2

/-! ## A release (R50 to R53) -/

/-- `t` differs from `s` at most in zones, actuators, the firing bank and the store controller, and in the access fields. -/
def ReleaseOnly (s t : State) : Prop :=
  ∃ z a b st u, u = { s with zones := z, acts := a, bank := b, store := st } ∧ AccessOnly u t

theorem ReleaseOnly.refl (s : State) : ReleaseOnly s s := ⟨_, _, _, _, _, rfl, .refl _⟩

theorem ReleaseOnly.trans {s t u : State} (h : ReleaseOnly s t) (k : ReleaseOnly t u) : ReleaseOnly s u := by
  obtain ⟨_, _, _, _, _, rfl, _, _, _, _, _, _, _, rfl⟩ := h
  obtain ⟨_, _, _, _, _, rfl, _, _, _, _, _, _, _, rfl⟩ := k
  exact ⟨_, _, _, _, _, rfl, ⟨_, _, _, _, _, _, _, rfl⟩⟩

theorem AccessOnly.release {s t : State} (h : AccessOnly s t) : ReleaseOnly s t := ⟨_, _, _, _, _, rfl, h⟩

theorem BankOnly.release {s t : State} (h : BankOnly s t) : ReleaseOnly s t := by
  obtain ⟨_, _, rfl⟩ := h
  exact ⟨_, _, _, _, _, rfl, .refl _⟩

theorem setZone_reach (z : ZoneId) (x : Zone) (s : State) : ReleaseOnly s (s.setZone z x) := ⟨_, _, _, _, _, rfl, .refl _⟩

theorem setAct_reach (a : ActId) (x : Actuator) (s : State) : ReleaseOnly s (s.setAct a x) := ⟨_, _, _, _, _, rfl, .refl _⟩

theorem requestMark_reach (item : MarkItem) (value : Bool) (s : State) : ReleaseOnly s (requestMark item value s) :=
  ⟨_, _, _, _, _, rfl, .refl _⟩

theorem ReleaseOnly.foldl {α : Type} {f : State → α → State} (h : ∀ s a, ReleaseOnly s (f s a)) (l : List α) (s : State) :
    ReleaseOnly s (l.foldl f s) := by
  induction l generalizing s with
  | nil => exact .refl s
  | cons a rest ih => exact (h s a).trans (ih (f s a))

theorem ReleaseOnly.forEach {n : Nat} {f : Fin n → State → State} (h : ∀ i s, ReleaseOnly s (f i s)) (s : State) :
    ReleaseOnly s (forEach f s) := ReleaseOnly.foldl (fun s i => h i s) _ s

theorem ReleaseOnly.ite {c : Prop} [Decidable c] {s t u : State} (ht : ReleaseOnly s t) (hu : ReleaseOnly s u) :
    ReleaseOnly s (if c then t else u) := by
  split
  · exact ht
  · exact hu

theorem failRelease_reach (z : ZoneId) (s : State) : ReleaseOnly s (failRelease z s) :=
  (setZone_reach ..).trans ((raise_reach ..).trans (handZone_reach ..)).release

theorem enterRelease_reach (z : ZoneId) (s : State) : ReleaseOnly s (enterRelease z s) := by
  unfold enterRelease
  dsimp only
  refine .ite (.trans ?_ (failRelease_reach ..)) ?_ <;>
    exact .trans (.trans (.trans (.trans (.trans (.trans (.trans (setZone_reach ..) (raise_reach ..).release)
      (requestMark_reach ..)) (reportOpenDoor_reach ..).release) (reportOpenDoor_reach ..).release)
      (ReleaseOnly.foldl (fun s a => (queueArmed_reach a s).release) _ _)) (grantPulses_reach _).release)
      (handZone_reach ..).release

theorem concludeRelease_reach (z : ZoneId) (s : State) : ReleaseOnly s (concludeRelease z s) :=
  .ite (.ite ((setZone_reach ..).trans (handZone_reach ..).release) (failRelease_reach ..)) (.refl s)

theorem zoneResult_reach (z : ZoneId) (a : ActId) (fired : Bool) (s : State) : ReleaseOnly s (zoneResult z a fired s) :=
  (setZone_reach ..).trans (concludeRelease_reach ..)

theorem takeExpiry_reach (z : ZoneId) (s : State) : ReleaseOnly s (takeExpiry z s) := by
  unfold takeExpiry
  dsimp only
  split
  · exact .refl s
  · exact .ite ((setZone_reach ..).trans ((raise_reach ..).trans (handZone_reach ..)).release) (enterRelease_reach ..)

theorem runCountdown_reach (z : ZoneId) (c : Countdown) (detail : Named) (s : State) :
    ReleaseOnly s (runCountdown z c detail s) := by
  have h := (setZone_reach z { s.zones.get z with state := .predischarge, countdown := some c } s).trans
    (raise_reach .zonePredischarge (.zone z) (some (.named detail)) _).release
  have k : ReleaseOnly s
      (if (s.zones.get z).state = .predischarge then
        raise .zonePredischarge (.zone z) (some (.named detail))
          (s.setZone z { s.zones.get z with state := .predischarge, countdown := some c })
      else
        handZone z (raise .zonePredischarge (.zone z) (some (.named detail))
          (s.setZone z { s.zones.get z with state := .predischarge, countdown := some c }))) :=
    .ite h (h.trans (handZone_reach ..).release)
  exact .ite (k.trans (takeExpiry_reach ..)) k

theorem holdCountdown_reach (z : ZoneId) (c : Countdown) (s : State) : ReleaseOnly s (holdCountdown z c s) := by
  unfold holdCountdown
  exact (setZone_reach ..).trans ((raise_reach ..).trans (handZone_reach ..)).release

theorem manualRelease_reach (z : ZoneId) (s : State) : ReleaseOnly s (manualRelease z s) := by
  unfold manualRelease
  dsimp only
  split <;> try split
  all_goals
    first
    | exact .refl s
    | exact enterRelease_reach ..
    | exact (raise_reach ..).release
    | exact (setZone_reach ..).trans (runCountdown_reach ..)

theorem abort_reach (z : ZoneId) (s : State) : ReleaseOnly s (abort z s) := by
  unfold abort
  dsimp only
  split
  · split
    · exact .ite (.refl s) (holdCountdown_reach ..)
    · exact .refl s
  · exact holdCountdown_reach ..
  all_goals exact .refl s

theorem resumeCountdown_reach (z : ZoneId) (s : State) : ReleaseOnly s (resumeCountdown z s) := by
  unfold resumeCountdown
  dsimp only
  split
  · exact runCountdown_reach ..
  · exact .refl s

theorem automaticEntry_reach (z : ZoneId) (s : State) : ReleaseOnly s (automaticEntry z s) := by
  unfold automaticEntry
  dsimp only
  split
  · refine .trans ?_ (holdCountdown_reach ..)
    exact setZone_reach ..
  · refine .trans ?_ (runCountdown_reach ..)
    exact setZone_reach ..

theorem reportE_reach (z : ZoneId) (s : State) : ReleaseOnly s (reportE z s) := by
  unfold reportE
  dsimp only
  split
  · exact .ite (enterRelease_reach ..) (.refl s)
  · exact .ite (setZone_reach ..) (.refl s)
  · exact .ite (setZone_reach ..) (.refl s)
  · exact .refl s

theorem setLatch_reach (z : ZoneId) (isB : Bool) (s : State) : ReleaseOnly s (setLatch z isB s) := by
  unfold setLatch
  dsimp only
  split
  · exact .ite (.refl s) ((setZone_reach ..).trans (raise_reach ..).release)
  · exact .ite (.refl s) ((setZone_reach ..).trans (raise_reach ..).release)

theorem latchMoves_reach (z : ZoneId) (isB : Bool) (s : State) : ReleaseOnly s (latchMoves z isB s) := by
  unfold latchMoves
  dsimp only
  split <;>
    first
    | exact .refl s
    | exact .ite (automaticEntry_reach ..) (.ite ((setZone_reach ..).trans ((raise_reach ..).trans (handZone_reach ..)).release) (.refl s))
    | exact .ite (automaticEntry_reach ..) (.refl s)

theorem detectorAlarm_reach (z : ZoneId) (isB : Bool) (s : State) : ReleaseOnly s (detectorAlarm z isB s) :=
  .ite (.refl s) ((setLatch_reach ..).trans (latchMoves_reach ..))

theorem relatch_reach (z : ZoneId) (s : State) : ReleaseOnly s (relatch z s) := by
  unfold relatch
  dsimp only
  refine .trans ?_ (latchMoves_reach ..)
  split <;> split
  · exact (setLatch_reach ..).trans (setLatch_reach ..)
  · exact setLatch_reach ..
  · exact setLatch_reach ..
  · exact .refl s

theorem enterQuiet_reach (z : ZoneId) (x : Zone) (s : State) : ReleaseOnly s (enterQuiet z x s) := by
  unfold enterQuiet
  exact ((setZone_reach ..).trans ((raise_reach ..).trans (handZone_reach ..)).release).trans (relatch_reach ..)

theorem detectorChange_reach (z : ZoneId) (isB : Bool) (b : Band) (s : State) : ReleaseOnly s (detectorChange z isB b s) :=
  .ite ((setZone_reach ..).trans (detectorAlarm_reach ..)) (setZone_reach ..)

theorem stationChange_reach (z : ZoneId) (b : Band) (s : State) : ReleaseOnly s (stationChange z b s) :=
  .ite (manualRelease_reach ..) (.ite (abort_reach ..) (.ite (resumeCountdown_reach ..) (.refl s)))

/-! ## Strongroom records and what follows a change of them (R96) -/

/-- `t` differs from `s` at most in the strongroom records and in what a release can reach. -/
def RoomsOnly (s t : State) : Prop := ∃ r, ReleaseOnly { s with rooms := r } t

theorem RoomsOnly.refl (s : State) : RoomsOnly s s := ⟨_, .refl _⟩

theorem RoomsOnly.trans {s t u : State} (h : RoomsOnly s t) (k : RoomsOnly t u) : RoomsOnly s u := by
  obtain ⟨_, _, _, _, _, _, rfl, _, _, _, _, _, _, _, rfl⟩ := h
  obtain ⟨_, _, _, _, _, _, rfl, _, _, _, _, _, _, _, rfl⟩ := k
  exact ⟨_, _, _, _, _, _, rfl, ⟨_, _, _, _, _, _, _, rfl⟩⟩

theorem ReleaseOnly.rooms {s t : State} (h : ReleaseOnly s t) : RoomsOnly s t := ⟨_, h⟩

theorem RoomsOnly.foldl {α : Type} {f : State → α → State} (h : ∀ s a, RoomsOnly s (f s a)) (l : List α) (s : State) :
    RoomsOnly s (l.foldl f s) := by
  induction l generalizing s with
  | nil => exact .refl s
  | cons a rest ih => exact (h s a).trans (ih (f s a))

theorem RoomsOnly.forEach {n : Nat} {f : Fin n → State → State} (h : ∀ i s, RoomsOnly s (f i s)) (s : State) :
    RoomsOnly s (forEach f s) := RoomsOnly.foldl (fun s i => h i s) _ s

theorem RoomsOnly.ite {c : Prop} [Decidable c] {s t u : State} (ht : RoomsOnly s t) (hu : RoomsOnly s u) :
    RoomsOnly s (if c then t else u) := by
  split
  · exact ht
  · exact hu

theorem setRoom_reach (v : RoomId) (x : Room) (s : State) : RoomsOnly s (s.setRoom v x) := ⟨_, .refl _⟩

theorem startInterval_reach (v : RoomId) (s : State) : RoomsOnly s (startInterval v s) := setRoom_reach ..

theorem evalLone_reach (v : RoomId) (s : State) : RoomsOnly s (evalLone v s) := by
  unfold evalLone
  split
  · split
    · exact startInterval_reach ..
    · exact .refl s
    · exact .refl s
  · exact setRoom_reach ..

theorem shortPress_reach (v : RoomId) (s : State) : RoomsOnly s (shortPress v s) := by
  unfold shortPress
  split
  · exact .refl s
  · exact startInterval_reach ..
  · exact startInterval_reach ..

theorem settle_reach (before : Vector Room 12) (s : State) : RoomsOnly s (settle before s) :=
  RoomsOnly.forEach (fun v t => by
    dsimp only
    split <;> split <;>
      first
      | exact .refl t
      | exact (reportE_reach ..).rooms
      | exact evalLone_reach ..
      | exact (reportE_reach ..).rooms.trans (evalLone_reach ..)) s

theorem settled_reach {f : State → State} {s : State} (h : RoomsOnly s (f s)) : RoomsOnly s (settled f s) :=
  h.trans (settle_reach ..)

theorem setEvidence_reach (v : RoomId) (s : State) : RoomsOnly s (setEvidence v s) := settled_reach (setRoom_reach ..)

theorem takeOut_reach (slot : SlotId) (s : State) : RoomsOnly s (takeOut slot s) := by
  unfold takeOut
  split
  · exact .refl s
  · exact setRoom_reach ..
  · exact (vestRemove_reach ..).release.rooms

theorem reportCorrection_reach (found expected : Location) (v : RoomId) (badge : Nat) (s : State) :
    AccessOnly s (reportCorrection found expected v badge s) := by
  unfold reportCorrection
  split
  · exact .refl s
  · split <;> exact raise_reach ..

theorem moveTo_reach (slot : SlotId) (badge : Nat) (expected target : Location) (v : RoomId) (s : State) :
    RoomsOnly s (moveTo slot badge expected target v s) :=
  (takeOut_reach slot s).trans ((setLocation_reach ..).trans (reportCorrection_reach ..)).release.rooms

theorem listOne_reach (v : RoomId) (slot : SlotId) (badge : Nat) (expected : Location) (via : Bool) (s : State) :
    RoomsOnly s (listOne v slot badge expected via s) := by
  have h := (takeOut_reach slot s).trans
    (reportCorrection_reach (s.location slot) expected v badge (takeOut slot s)).release.rooms
  exact .ite (h.trans ((setRoom_reach ..).trans ((setLocation_reach ..).trans (raise_reach ..)).release.rooms))
    (h.trans ((setRoom_reach ..).trans ((setLocation_reach ..).trans (raise_reach ..)).release.rooms))

theorem transfer_reach (v : RoomId) (s : State) : RoomsOnly s (transfer v s) :=
  (setVest_reach v Vestibule.empty s).release.rooms.trans
    (RoomsOnly.foldl (fun t (o : Occupant) => listOne_reach v o.slot o.badge (.inVestibule v) true t) _ _)

theorem exitOne_reach (v : RoomId) (h : Holder) (s : State) : RoomsOnly s (exitOne v h s) :=
  RoomsOnly.trans (.ite ((moveTo_reach ..).trans (vestAppend_reach ..).release.rooms) (moveTo_reach ..))
    (raise_reach ..).release.rooms

theorem egressStrongroom_reach (v : RoomId) (s : State) : RoomsOnly s (egressStrongroom v s) := by
  unfold egressStrongroom
  dsimp only
  split
  · exact .refl s
  · exact (setRoom_reach ..).trans ((setLocation_reach ..).trans (raise_reach ..)).release.rooms

theorem inboundOne_reach (v : RoomId) (h : Holder) (s : State) : RoomsOnly s (inboundOne v h s) :=
  (moveTo_reach ..).trans ((vestAppend_reach ..).trans (raise_reach ..)).release.rooms

theorem outbound_reach (v : RoomId) (holders : List Holder) (s : State) : RoomsOnly s (outbound v holders s) :=
  (emptyVestibule_reach ..).release.rooms.trans
    (RoomsOnly.foldl (fun t (h : Holder) => moveTo_reach h.slot h.badge .outside .outside v t) _ _)

theorem egressOuter_reach (v : RoomId) (s : State) : AccessOnly s (egressOuter v s) := by
  unfold egressOuter
  split
  · exact .refl s
  · exact ((setLocation_reach ..).trans (vestRemove_reach ..)).trans (raise_reach ..)

theorem movePassage_reach (d : DoorId) (g : Grant) (s : State) : RoomsOnly s (movePassage d g s) := by
  unfold movePassage
  split
  · exact .ite (transfer_reach ..)
      (RoomsOnly.foldl (fun t (h : Holder) => listOne_reach _ h.slot h.badge .outside false t) _ _)
  · exact RoomsOnly.foldl (fun t (h : Holder) => exitOne_reach _ h t) _ _
  · exact RoomsOnly.foldl (fun t (h : Holder) => inboundOne_reach _ h t) _ _
  · exact outbound_reach ..
  · exact .refl s
  · exact .refl s

/-- A passage under a grant reaches no line, no loop, no clock and no store record (R134). -/
theorem passage_reach (d : DoorId) (s : State) : RoomsOnly s (passage d s) := by
  unfold passage
  split
  · exact (setGrant_reach ..).release.rooms.trans (settled_reach (movePassage_reach ..))
  · exact .refl s

theorem egressPassage_reach (d : DoorId) (s : State) : RoomsOnly s (egressPassage d s) := by
  unfold egressPassage
  split
  · exact settled_reach (egressStrongroom_reach ..)
  · exact (egressOuter_reach ..).release.rooms
  · exact .refl s
  · exact .refl s

/-! ## Fields that no such operation reaches -/

section
variable {s t : State} (h : RoomsOnly s t)
include h

theorem RoomsOnly.pending : t.pending = s.pending := by obtain ⟨_, _, _, _, _, _, rfl, _, _, _, _, _, _, _, rfl⟩ := h; rfl

theorem RoomsOnly.powered : t.powered = s.powered := by obtain ⟨_, _, _, _, _, _, rfl, _, _, _, _, _, _, _, rfl⟩ := h; rfl

theorem RoomsOnly.now : t.now = s.now := by obtain ⟨_, _, _, _, _, _, rfl, _, _, _, _, _, _, _, rfl⟩ := h; rfl

theorem RoomsOnly.lines : t.lines = s.lines := by obtain ⟨_, _, _, _, _, _, rfl, _, _, _, _, _, _, _, rfl⟩ := h; rfl

theorem RoomsOnly.sup : t.sup = s.sup := by obtain ⟨_, _, _, _, _, _, rfl, _, _, _, _, _, _, _, rfl⟩ := h; rfl

theorem RoomsOnly.loops : t.loops = s.loops := by obtain ⟨_, _, _, _, _, _, rfl, _, _, _, _, _, _, _, rfl⟩ := h; rfl

theorem RoomsOnly.clock : t.clock = s.clock := by obtain ⟨_, _, _, _, _, _, rfl, _, _, _, _, _, _, _, rfl⟩ := h; rfl

theorem RoomsOnly.nv : t.nv = s.nv := by obtain ⟨_, _, _, _, _, _, rfl, _, _, _, _, _, _, _, rfl⟩ := h; rfl

theorem RoomsOnly.stage : t.stage = s.stage := by obtain ⟨_, _, _, _, _, _, rfl, _, _, _, _, _, _, _, rfl⟩ := h; rfl

theorem RoomsOnly.freeze : t.freeze = s.freeze := by obtain ⟨_, _, _, _, _, _, rfl, _, _, _, _, _, _, _, rfl⟩ := h; rfl

end

end Sys2Proof.Machine
end

