-- ==== Sys2Proof/Laws/Encoding.lean ====
section
/-! SUPPORT. Laws of the numbering and of the byte layouts: an object is found again from its number, a field from its
bytes. -/

namespace Sys2Proof.Machine

@[simp] theorem fromOne_number {n : Nat} (i : Fin n) : fromOne n (number i) = some i := by
  have : 1 ≤ i.val + 1 ∧ i.val + 1 ≤ n := ⟨by omega, i.isLt⟩
  simp [fromOne, number, this]

@[simp] theorem fromZero_val {n : Nat} (i : Fin n) : fromZero n i.val = some i := by
  simp [fromZero]

theorem fromOne_none {n x : Nat} (h : x = 0 ∨ n < x) : fromOne n x = none := by
  have : ¬(1 ≤ x ∧ x ≤ n) := by omega
  simp [fromOne, this]

theorem fromZero_none {n x : Nat} (h : n ≤ x) : fromZero n x = none := by
  have : ¬ x < n := by omega
  simp [fromZero, this]

@[simp] theorem switchOf_switchCode (b : Bool) : switchOf (switchCode b) = some b := by cases b <;> rfl

@[simp] theorem placeOf_placeCode (p : Option (Fin 12)) : placeOf (placeCode p) = some p := by
  cases p with
  | none => rfl
  | some v =>
    have h : number v ≠ 0 := by simp [number]
    simp [placeOf, placeCode, h]

/-- The band codes of 11.6 name one band each. -/
@[simp] theorem bandOf_code (b : Band) : bandOf b.code = some b := by
  cases b with
  | station k =>
    revert k
    decide
  | _ => rfl

/-- The notice kinds of 11.6 have one number each. -/
@[simp] theorem noticeKindOf_code (k : NoticeKind) : noticeKindOf k.code = some k := by cases k <;> decide

theorem mem_all_kinds (k : NoticeKind) : k ∈ NoticeKind.all := by cases k <;> decide

end Sys2Proof.Machine

namespace Sys2Proof

@[simp] theorem byteOf_toNat {n : Nat} (h : n < 256) : (byteOf n).toNat = n := by
  simp [byteOf, Nat.mod_eq_of_lt h]

@[simp] theorem toNat_byteOf (b : Byte) : byteOf b.toNat = b := by simp [byteOf]

/-- A two-byte field is found again from its bytes (R187). -/
theorem be2_bytes2 {n : Nat} (h : n < 65536) : be2 (byteOf (n / 256)) (byteOf n) = n := by
  simp only [be2, byteOf, BitVec.toNat_ofNat]
  omega

/-- A four-byte field is found again from its bytes (R187). -/
theorem be4_bytes4 {n : Nat} (h : n < 4294967296) :
    be4 (byteOf (n / 16777216)) (byteOf (n / 65536)) (byteOf (n / 256)) (byteOf n) = n := by
  simp only [be4, byteOf, BitVec.toNat_ofNat]
  omega

/-- The bands of a SET_CLASS body are found again (11.6). -/
theorem decodeBands_encodeBands (bs : List BandField) (h : bs.all BandField.ok = true) :
    decodeBands bs.length (encodeBands bs) = some bs := by
  induction bs with
  | nil => rfl
  | cons b rest ih =>
    obtain ⟨hb, hr⟩ := Bool.and_eq_true_iff.1 h
    simp only [BandField.ok, Bool.and_eq_true, byteOk, wordOk, decide_eq_true_eq] at hb
    simp only [encodeBands, bytes2, List.cons_append, List.nil_append, List.length_cons, decodeBands, ih hr, Option.map_some,
      byteOf_toNat hb.1.1, be2_bytes2 hb.1.2, be2_bytes2 hb.2]

/-- The pairs of a SET_NOTICE_MASK body are found again (R194). -/
theorem decodePairs_encodePairs (ps : List (Nat × Nat)) (h : ps.all (fun p => byteOk p.1 && byteOk p.2) = true) :
    decodePairs ps.length (encodePairs ps) = some ps := by
  induction ps with
  | nil => rfl
  | cons p rest ih =>
    obtain ⟨hp, hr⟩ := Bool.and_eq_true_iff.1 h
    simp only [Bool.and_eq_true, byteOk, decide_eq_true_eq] at hp
    simp only [encodePairs, List.length_cons, decodePairs, ih hr, Option.map_some, byteOf_toNat hp.1, byteOf_toNat hp.2]

theorem encodeBands_length (bs : List BandField) : (encodeBands bs).length = 5 * bs.length := by
  induction bs with
  | nil => rfl
  | cons b rest ih =>
    simp only [encodeBands, bytes2, List.length_cons, List.length_append, List.length_nil, ih]
    omega

theorem encodePairs_length (ps : List (Nat × Nat)) : (encodePairs ps).length = 2 * ps.length := by
  induction ps with
  | nil => rfl
  | cons p rest ih =>
    simp only [encodePairs, List.length_cons, ih]
    omega

end Sys2Proof
end

