-- ==== Sys2Proof/Laws/Lines.lean ====
section
/-! SUPPORT. Laws of band changes: what the owner of a line can change when the line supervisor hands it a confirmed band
(R10, R22 to R36, R138 to R154). -/

namespace Sys2Proof.Machine

/-- `t` differs from `s` at most in the loops, the freeze, the strongrooms and what a release can reach: the lines, the
arbiter, the clock, the stage and the nonvolatile memory stand. -/
def BandOnly (s t : State) : Prop := ∃ l f, RoomsOnly { s with loops := l, freeze := f } t

theorem BandOnly.refl (s : State) : BandOnly s s := ⟨_, _, .refl _⟩

theorem BandOnly.trans {s t u : State} (h : BandOnly s t) (k : BandOnly t u) : BandOnly s u := by
  obtain ⟨_, _, _, _, _, _, _, _, rfl, _, _, _, _, _, _, _, rfl⟩ := h
  obtain ⟨_, _, _, _, _, _, _, _, rfl, _, _, _, _, _, _, _, rfl⟩ := k
  exact ⟨_, _, _, _, _, _, _, _, rfl, ⟨_, _, _, _, _, _, _, rfl⟩⟩

theorem RoomsOnly.band {s t : State} (h : RoomsOnly s t) : BandOnly s t := ⟨_, _, h⟩

theorem ReleaseOnly.band {s t : State} (h : ReleaseOnly s t) : BandOnly s t := h.rooms.band

theorem AccessOnly.band {s t : State} (h : AccessOnly s t) : BandOnly s t := h.release.band

theorem BandOnly.ite {c : Prop} [Decidable c] {s t u : State} (ht : BandOnly s t) (hu : BandOnly s u) :
    BandOnly s (if c then t else u) := by
  split
  · exact ht
  · exact hu

/-! ## Staff loops -/

theorem setLoop_reach (k : LoopId) (x : Loop) (s : State) : BandOnly s (s.setLoop k x) := ⟨_, _, .refl _⟩

theorem setFreeze_band (s : State) : BandOnly s (setFreeze s) :=
  .trans (t := { s with freeze := true }) ⟨_, _, .refl _⟩ (setFreeze_reach s).band

theorem entryFreeze_reach (k : LoopId) (st : StationNo) (s : State) : BandOnly s (entryFreeze k st s) :=
  .ite (.refl s) ((setFreeze_band s).trans (raise_reach ..).band)

theorem raiseLoop_reach (n : NoticeKind) (k : LoopId) (st : StationNo) (s : State) : AccessOnly s (raiseLoop n k st s) :=
  raise_reach ..

theorem stationEvidence_reach (place : Option RoomId) (s : State) : RoomsOnly s (stationEvidence place s) := by
  unfold stationEvidence
  split
  · exact .ite (setEvidence_reach ..) (.refl s)
  · exact .refl s

theorem pressTimer_reach (place : Option RoomId) (s : State) : RoomsOnly s (pressTimer place s) := by
  unfold pressTimer
  split
  · exact shortPress_reach ..
  · exact .refl s

theorem shortMeaning_reach (k : LoopId) (st : StationNo) (s : State) : RoomsOnly s (shortMeaning k st s) := by
  unfold shortMeaning
  dsimp only
  refine .trans ?_ (stationEvidence_reach ..)
  refine .trans ?_ (pressTimer_reach ..)
  exact (raiseLoop_reach ..).release.rooms

theorem endPress_reach (k : LoopId) (t : Nat) (s : State) : RoomsOnly s (endPress k t s) := by
  unfold endPress
  dsimp only
  split
  · exact .ite (raiseLoop_reach ..).release.rooms (shortMeaning_reach ..)
  · exact .ite (raiseLoop_reach ..).release.rooms (shortMeaning_reach ..)
  · exact (raiseLoop_reach ..).release.rooms
  · exact (raiseLoop_reach ..).release.rooms
  · exact .refl s
  · exact .refl s
  · exact .refl s

theorem takeDuress_reach (k : LoopId) (s : State) : BandOnly s (takeDuress k s) := by
  unfold takeDuress
  dsimp only
  refine .ite (.ite ?_ ?_) (.refl s)
  · refine .trans ?_ (entryFreeze_reach ..)
    refine .trans ?_ (stationEvidence_reach ..).band
    refine .trans ?_ (raiseLoop_reach ..).band
    exact setLoop_reach ..
  · refine .trans ?_ (stationEvidence_reach ..).band
    refine .trans ?_ (raiseLoop_reach ..).band
    exact setLoop_reach ..

theorem takeStuck_reach (k : LoopId) (s : State) : BandOnly s (takeStuck k s) := by
  unfold takeStuck
  dsimp only
  split
  · exact (setLoop_reach ..).trans (raiseLoop_reach ..).band
  · exact .refl s

/-- What an event taken as of an earlier time can reach is what it can reach at its own time (R32). -/
theorem asOf_reach {f : State → State} (h : ∀ s, BandOnly s (f s)) (t : Nat) (s : State) : BandOnly s (asOf t f s) := by
  obtain ⟨l, fr, r, z, a, b, st, _, rfl, g, d, v, p, n, lost, tx, k⟩ := h (s.asAt t)
  unfold asOf
  rw [k]
  unfold State.asAt
  split <;> exact ⟨l, fr, r, z, a, b, st, _, rfl, g, d, v, p, n, lost, tx, rfl⟩

theorem takeBy_reach {f : State → State} (h : ∀ s, BandOnly s (f s)) (t : Nat) (deadline : Option Nat) (s : State) :
    BandOnly s (takeBy t deadline f s) := by
  unfold takeBy
  split
  · exact .ite (asOf_reach h ..) (.refl s)
  · exact .refl s

theorem deadlinesFirst_reach (k : LoopId) (t : Nat) (s : State) : BandOnly s (deadlinesFirst k t s) :=
  (takeBy_reach (takeDuress_reach k) ..).trans (takeBy_reach (takeStuck_reach k) ..)

theorem loopTakes_reach (k : LoopId) (sig : LoopSignal) (t : Nat) (s : State) : BandOnly s (loopTakes k sig t s) := by
  unfold loopTakes
  dsimp only
  split
  · exact setLoop_reach ..
  · exact setLoop_reach ..
  · exact .refl s
  · exact (setLoop_reach ..).trans (raiseLoop_reach ..).band
  · exact .refl s
  · exact setLoop_reach ..
  · exact .refl s
  · exact (endPress_reach ..).band.trans (setLoop_reach ..)
  · exact setLoop_reach ..
  · exact .ite (.refl s) ((endPress_reach ..).band.trans (setLoop_reach ..))
  · exact .refl s

/-- A band change of a staff loop's line (R22 to R32). -/
theorem loopChange_reach (k : LoopId) (b : Band) (t : Nat) (s : State) : BandOnly s (loopChange k b t s) :=
  (deadlinesFirst_reach ..).trans (loopTakes_reach ..)

/-! ## Doors -/

theorem takeEgress_reach (d : DoorId) (s : State) : RoomsOnly s (takeEgress d s) :=
  ((modDoor_reach ..).trans (raiseDoor_reach ..)).release.rooms.trans (egressPassage_reach ..)

theorem takeForced_reach (d : DoorId) (before : DoorState) (s : State) : AccessOnly s (takeForced d before s) :=
  (raiseDoor_reach ..).trans (setAlarm_reach ..)

theorem openPassage_reach (d : DoorId) (s : State) : RoomsOnly s (openPassage d s) :=
  (enterOpen_reach ..).release.rooms.trans (passage_reach ..)

theorem openUngranted_reach (d : DoorId) (s : State) : RoomsOnly s (openUngranted d s) := by
  unfold openUngranted
  dsimp only
  split
  · exact (enterOpen_reach ..).release.rooms.trans (takeEgress_reach ..)
  · exact ((enterOpen_reach ..).trans (takeForced_reach ..)).release.rooms

theorem openOverlay_reach (d : DoorId) (s : State) : RoomsOnly s (openOverlay d s) := by
  unfold openOverlay
  dsimp only
  split
  · exact takeEgress_reach ..
  · split
    · exact (takeForced_reach ..).release.rooms
    · exact (raiseDoor_reach ..).release.rooms

theorem throwDone_reach (d : DoorId) (s : State) : AccessOnly s (throwDone d s) :=
  .ite (enterSecure_reach ..) ((stopAtTarget_reach ..).trans (enterSecure_reach ..))

theorem passIfOpen_reach (d : DoorId) (s : State) : RoomsOnly s (passIfOpen d s) := .ite (openPassage_reach ..) (.refl s)

/-- A withdraw that completes may at once be a passage (R145, R147). -/
theorem completeRelease_reach (d : DoorId) (s : State) : RoomsOnly s (completeRelease d s) :=
  ((stopAtTarget_reach ..).trans (enterReleased_reach ..)).release.rooms.trans (passIfOpen_reach ..)

theorem releaseDoor_reach (d : DoorId) (g : Grant) (s : State) : RoomsOnly s (releaseDoor d g s) :=
  ((setGrant_reach ..).trans (startRelease_reach ..)).release.rooms.trans (passIfOpen_reach ..)

theorem bandSecure_reach (d : DoorId) (b : Band) (s : State) : RoomsOnly s (bandSecure d b s) := by
  unfold bandSecure
  split
  · exact (modDoor_reach ..).release.rooms
  · exact (modDoor_reach ..).release.rooms
  · split
    · exact (throwInto_reach ..).release.rooms
    · exact ((raiseDoor_reach ..).trans ((setAlarm_reach ..).trans (throwInto_reach ..))).release.rooms
  · exact openUngranted_reach ..
  · exact .refl s

theorem boltReturned_reach (d : DoorId) (s : State) : AccessOnly s (boltReturned d s) := by
  unfold boltReturned
  exact ((raiseDoor_reach ..).trans (setAlarm_reach ..)).trans ((failGrant_reach ..).trans (enterSecure_reach ..))

theorem bandThrowing_reach (d : DoorId) (b : Band) (s : State) : RoomsOnly s (bandThrowing d b s) := by
  unfold bandThrowing
  split
  · exact (throwDone_reach ..).release.rooms
  · split
    · exact (beginThrow_reach ..).release.rooms
    · exact .refl s
  · exact ((modDoor_reach ..).trans (modDoor_reach ..)).release.rooms
  · exact (modDoor_reach ..).release.rooms.trans (openUngranted_reach ..)
  · exact .refl s

theorem manualDone_reach (d : DoorId) (b : Band) (s : State) : AccessOnly s (manualDone d b s) := by
  unfold manualDone
  dsimp only
  split
  · split
    · exact (stopAtTarget_reach ..).trans (raiseDoor_reach ..)
    · exact .refl s
  · exact .refl s

theorem bandOverlay_reach (d : DoorId) (b : Band) (s : State) : RoomsOnly s (bandOverlay d b s) := by
  unfold bandOverlay
  dsimp only
  have h := (manualDone_reach d b s).release.rooms
  split
  · exact .ite h (h.trans (modDoor_reach ..).release.rooms)
  · exact h.trans (modDoor_reach ..).release.rooms
  · exact .ite h (h.trans (openOverlay_reach ..))
  · exact h

theorem lineFaulted_reach (d : DoorId) (s : State) : AccessOnly s (lineFaulted d s) :=
  (modDoor_reach ..).trans (enterOverlay_reach ..)

theorem bandUnused_reach (d : DoorId) (b : Band) (s : State) : AccessOnly s (bandUnused d b s) := by
  unfold bandUnused
  split
  · exact modDoor_reach ..
  · exact .refl s
  · exact modDoor_reach ..

theorem bandActs_reach (d : DoorId) (b previous : Band) (s : State) : RoomsOnly s (bandActs d b previous s) := by
  unfold bandActs
  refine .ite (bandUnused_reach ..).release.rooms (.ite (lineFaulted_reach ..).release.rooms (.ite ((failGrant_reach ..).trans (rederive_reach ..)).release.rooms ?_))
  · · split
      · exact (rederive_reach ..).release.rooms
      · exact bandSecure_reach ..
      · unfold bandReleasing
        split
        · exact completeRelease_reach ..
        · exact .refl s
      · unfold bandReleased
        split
        · exact openPassage_reach ..
        · exact (boltReturned_reach ..).release.rooms
        · exact .refl s
      · unfold bandOpen
        split
        · exact (throwInto_reach ..).release.rooms
        · exact (enterSecure_reach ..).release.rooms
        · exact .refl s
      · exact bandThrowing_reach ..
      · exact bandThrowing_reach ..
      · exact bandOverlay_reach ..
      · exact bandOverlay_reach ..

/-- A band change of a door's line (R138 to R154). -/
theorem doorChange_reach (d : DoorId) (b previous : Band) (s : State) : RoomsOnly s (doorChange d b previous s) :=
  (bandActs_reach ..).trans (modDoor_reach ..).release.rooms

/-! ## The hand-over (R10, R11, R19) -/

theorem handOwner_reach (l : LineId) (b previous : Band) (time : Nat) (s : State) :
    BandOnly s (handOwner l b previous time s) := by
  unfold handOwner
  split
  · exact (detectorChange_reach ..).band
  · exact (doorChange_reach ..).band
  · exact loopChange_reach ..
  · exact (stationChange_reach ..).band

theorem raiseLine_reach (l : LineId) (b previous : Band) (s : State) : AccessOnly s (raiseLine l b previous s) := by
  unfold raiseLine
  dsimp only
  split
  · exact .refl s
  · split
    · exact raise_reach ..
    · split
      · exact raise_reach ..
      · exact .refl s

/-- A confirmed change of a line's band reaches no line, no clock, no stage and no stored record (R10, R11). -/
theorem bandChange_reach (l : LineId) (b previous : Band) (time : Nat) (s : State) :
    BandOnly s (bandChange l b previous time s) := (handOwner_reach ..).trans (raiseLine_reach ..).band

/-! ## Fields that no such operation reaches -/

section
variable {s t : State} (h : BandOnly s t)
include h

theorem BandOnly.pending : t.pending = s.pending := by obtain ⟨_, _, _, _, _, _, _, _, rfl, _, _, _, _, _, _, _, rfl⟩ := h; rfl

theorem BandOnly.powered : t.powered = s.powered := by obtain ⟨_, _, _, _, _, _, _, _, rfl, _, _, _, _, _, _, _, rfl⟩ := h; rfl

theorem BandOnly.quarters : t.quarters = s.quarters := by obtain ⟨_, _, _, _, _, _, _, _, rfl, _, _, _, _, _, _, _, rfl⟩ := h; rfl

theorem BandOnly.lines : t.lines = s.lines := by obtain ⟨_, _, _, _, _, _, _, _, rfl, _, _, _, _, _, _, _, rfl⟩ := h; rfl

theorem BandOnly.sup : t.sup = s.sup := by obtain ⟨_, _, _, _, _, _, _, _, rfl, _, _, _, _, _, _, _, rfl⟩ := h; rfl

theorem BandOnly.clock : t.clock = s.clock := by obtain ⟨_, _, _, _, _, _, _, _, rfl, _, _, _, _, _, _, _, rfl⟩ := h; rfl

theorem BandOnly.stage : t.stage = s.stage := by obtain ⟨_, _, _, _, _, _, _, _, rfl, _, _, _, _, _, _, _, rfl⟩ := h; rfl

theorem BandOnly.nv : t.nv = s.nv := by obtain ⟨_, _, _, _, _, _, _, _, rfl, _, _, _, _, _, _, _, rfl⟩ := h; rfl

end

end Sys2Proof.Machine
end

