-- ==== Sys2Proof/Laws/Notices.lean ====
section
/-! SUPPORT. Laws of the notice queue: what coalescing and displacement do to it (R195 to R197), and what a notice and a
reply change on the link. -/

namespace Sys2Proof.Machine

/-- Coalescing changes one repeat count and nothing else (R195). -/
theorem coalesce_some {k : NoticeKind} {o : NoticeObject} {d : Option Detail} {q r : List Notice}
    (h : coalesce k o d q = some r) :
    ∃ pre e post, q = pre ++ e :: post ∧ r = pre ++ { e with repeats := bump e.repeats } :: post ∧
      e.matches k o d = true ∧ ∀ x ∈ pre, x.matches k o d = false := by
  induction q generalizing r with
  | nil => cases h
  | cons e rest ih =>
    simp only [coalesce] at h
    split at h
    · rename_i he
      cases h
      exact ⟨[], e, rest, rfl, rfl, he, fun _ h => by cases h⟩
    · rename_i he
      obtain ⟨r', hr, rfl⟩ := Option.map_eq_some_iff.1 h
      obtain ⟨pre, e', post, rfl, rfl, hm, hp⟩ := ih hr
      refine ⟨e :: pre, e', post, rfl, rfl, hm, fun x hx => ?_⟩
      rcases List.mem_cons.1 hx with rfl | hx
      · exact Bool.eq_false_iff.2 he
      · exact hp x hx

/-- No entry matches where a notice does not coalesce (R195). -/
theorem coalesce_none {k : NoticeKind} {o : NoticeObject} {d : Option Detail} {q : List Notice} :
    coalesce k o d q = none ↔ ∀ x ∈ q, x.matches k o d = false := by
  induction q with
  | nil => simp [coalesce]
  | cons e rest ih =>
    simp only [coalesce]
    split
    · rename_i he
      simp [he]
    · rename_i he
      simp [ih, he]

/-- Discarding takes out the oldest entry with the property (R196, R197). -/
theorem discardOldest_some {p : Notice → Bool} {q r : List Notice} (h : discardOldest p q = some r) :
    ∃ pre e post, q = pre ++ e :: post ∧ r = pre ++ post ∧ p e = true ∧ ∀ x ∈ pre, p x = false := by
  induction q generalizing r with
  | nil => cases h
  | cons e rest ih =>
    simp only [discardOldest] at h
    split at h
    · rename_i he
      cases h
      exact ⟨[], e, rest, rfl, rfl, he, fun _ h => by cases h⟩
    · rename_i he
      obtain ⟨r', hr, rfl⟩ := Option.map_eq_some_iff.1 h
      obtain ⟨pre, e', post, rfl, rfl, hm, hp⟩ := ih hr
      refine ⟨e :: pre, e', post, rfl, rfl, hm, fun x hx => ?_⟩
      rcases List.mem_cons.1 hx with rfl | hx
      · exact Bool.eq_false_iff.2 he
      · exact hp x hx

theorem discardOldest_none {p : Notice → Bool} {q : List Notice} : discardOldest p q = none ↔ ∀ x ∈ q, p x = false := by
  induction q with
  | nil => simp [discardOldest]
  | cons e rest ih =>
    simp only [discardOldest]
    split
    · rename_i he
      simp [he]
    · rename_i he
      simp [ih, he]

/-- A displaced entry was queued and not in transmission; it is non-LIFE unless the notice is LIFE (R196, R197). -/
theorem displace_some {c : NoticeClass} {q r : List Notice} (h : displace c q = some r) :
    ∃ pre e post, q = pre ++ e :: post ∧ r = pre ++ post ∧ e.inTx = false ∧ (c = .life ∨ e.nonLife = true) := by
  have base : ∀ {p : Notice → Bool}, (∀ x, p x = true → x.inTx = false ∧ (c = .life ∨ x.nonLife = true)) →
      discardOldest p q = some r →
      ∃ pre e post, q = pre ++ e :: post ∧ r = pre ++ post ∧ e.inTx = false ∧ (c = .life ∨ e.nonLife = true) := by
    intro p hp hd
    obtain ⟨pre, e, post, hq, hr, he, _⟩ := discardOldest_some hd
    exact ⟨pre, e, post, hq, hr, (hp e he).1, (hp e he).2⟩
  have low : ∀ l : NoticeClass, l ≠ .life → ∀ x : Notice, x.displaceable l = true →
      x.inTx = false ∧ (c = .life ∨ x.nonLife = true) := by
    intro l hl x hx
    simp only [Notice.displaceable, Bool.and_eq_true, Bool.not_eq_true', decide_eq_true_eq] at hx
    exact ⟨hx.1, .inr (by simp [Notice.nonLife, hx.2, hl])⟩
  cases c with
  | routine => cases h
  | supervisory => exact base (low .routine (by decide)) h
  | alarm =>
    simp only [displace] at h
    cases hd : discardOldest (Notice.displaceable .routine) q with
    | some r' => rw [hd] at h; cases h; exact base (low .routine (by decide)) hd
    | none => rw [hd] at h; exact base (low .supervisory (by decide)) h
  | life =>
    simp only [displace] at h
    cases hd : discardOldest (fun e => !e.inTx && e.nonLife) q with
    | some r' =>
      rw [hd] at h; cases h
      exact base (fun x hx => by simp_all) hd
    | none =>
      rw [hd] at h
      exact base (fun x hx => by simp_all) h

/-- A count that reached 255 stays there (R195, R196). -/
theorem bump_le {n : Nat} (h : n ≤ 255) : bump n ≤ 255 := by
  unfold bump Config.maxCount
  split <;> omega

theorem le_bump (n : Nat) : n ≤ bump n := by
  unfold bump
  split <;> omega

/-! ## Replies -/

/-- The reply of an outstanding request joins the transmit queue (R190). -/
theorem reply_outstanding {s : State} {r : Request} (st : Status) (data : ReplyData) (role : ReplyRole)
    (h : s.link.outstanding = some r) :
    reply st data role s = { s with link := { s.link with tx := s.link.tx ++ [⟨r.kind, r.tag, st, data, role⟩] } } := by
  simp only [reply, h]

theorem answer_outstanding {s : State} {r : Request} (st : Status) (h : s.link.outstanding = some r) :
    answer st s = s.withReply r.kind r.tag st .none := reply_outstanding _ _ _ h

theorem answerData_outstanding {s : State} {r : Request} (data : ReplyData) (h : s.link.outstanding = some r) :
    answerData data s = s.withReply r.kind r.tag .ok data := reply_outstanding _ _ _ h

/-- A frame that arrives while no request is outstanding is taken (R190, R192). -/
theorem takeRequest_free {s : State} (kind tag : Nat) (f : State → State) (h : s.link.outstanding = none) :
    takeRequest kind tag f s = f (heard kind tag s) := by
  have : (hostHeard s).link.outstanding = none := h
  simp only [takeRequest, this]
  rfl

theorem onRequest_free {s : State} (kind tag : Nat) (f : State → State) (h : s.free) :
    onRequest kind tag f s = .next (f (heard kind tag s)) := by
  simp [onRequest, powered, whilePowered, h.1, takeRequest_free kind tag f h.2]

/-- A request that finds another outstanding is answered LINK_BUSY (R190). -/
theorem takeRequest_busy {s : State} {r : Request} (kind tag : Nat) (f : State → State) (h : s.link.outstanding = some r) :
    takeRequest kind tag f s = answerBusy kind tag (hostHeard s) := by
  have : (hostHeard s).link.outstanding = some r := h
  simp only [takeRequest, this]

/-- With main power on a command performs its change, and without it nothing (R201). -/
theorem powered_on {f : State → State} {s : State} (h : s.powered = true) : Machine.powered f s = .next (f s) := by
  simp [Machine.powered, whilePowered, h]

theorem powered_off {f : State → State} {s : State} (h : s.powered = false) : Machine.powered f s = .next s := by
  simp [Machine.powered, whilePowered, h]

/-- A deadline at or before the present time has been reached. -/
theorem whenDue_some {s : State} {dl : Nat} (f : State → State) (h : dl ≤ s.now) : whenDue (some dl) f s = f s := by
  simp [whenDue, due, h]

theorem whenDue_early {s : State} {dl : Nat} (f : State → State) (h : s.now < dl) : whenDue (some dl) f s = s := by
  have : ¬ dl ≤ s.now := Nat.not_le.2 h
  simp [whenDue, due, this]

end Sys2Proof.Machine
end

