-- ==== Sys2Proof/Laws/PerInstr.lean ====
section
/-! SUPPORT. Laws of each command. FrameFits: the frame of a well-formed request fits the link. Its kind has its top bit
clear (a reply sets it, R190), its kind and tag are bytes, and its body is at most 248 bytes long (R187); an event has no
frame. -/

namespace Sys2Proof.Laws.FrameFits

-- Hundreds of small theorems: elaborated at once, each takes a thread of its own, and the package as one text runs out of
-- threads.
set_option Elab.async false

/-- The frame of a well-formed command, if it has one, fits the link. -/
def Statement (i : Instr) : Prop :=
  ∀ f, i.wellFormed = true → encodeRequest i = some f → f.kind < 128 ∧ f.tag < 256 ∧ f.body.length ≤ 248

/-- A body of a fixed length that fits. -/
theorem fits {kind tag : Nat} {body : List Byte} {f : RequestFrame} (hk : kind < 128) (ht : byteOk tag = true)
    (hb : body.length ≤ 248) (h : some (RequestFrame.mk kind tag body) = some f) :
    f.kind < 128 ∧ f.tag < 256 ∧ f.body.length ≤ 248 := by
  cases h
  exact ⟨hk, by simpa [byteOk] using ht, hb⟩

theorem coldStart : Statement .coldStart := fun _ _ h => nomatch h

theorem warmStart (offMs : Nat) : Statement (.warmStart offMs) := fun _ _ h => nomatch h

theorem powerLoss (written : Bool) : Statement (.powerLoss written) := fun _ _ h => nomatch h

theorem conversionEnd (ohms : Option Nat) : Statement (.conversionEnd ohms) := fun _ _ h => nomatch h

theorem duressDeadline (k : LoopId) : Statement (.duressDeadline k) := fun _ _ h => nomatch h

theorem stuckDeadline (k : LoopId) : Statement (.stuckDeadline k) := fun _ _ h => nomatch h

theorem countdownExpiry (z : ZoneId) : Statement (.countdownExpiry z) := fun _ _ h => nomatch h

theorem holdDeadline (z : ZoneId) : Statement (.holdDeadline z) := fun _ _ h => nomatch h

theorem pulseEnd (a : ActId) (current : Bool) (coils : Vector TestResult 32) : Statement (.pulseEnd a current coils) := fun _ _ h => nomatch h

theorem rechargePauseEnd : Statement .rechargePauseEnd := fun _ _ h => nomatch h

theorem continuityTest (a : ActId) (result : TestResult) : Statement (.continuityTest a result) := fun _ _ h => nomatch h

theorem soakExpiry (z : ZoneId) : Statement (.soakExpiry z) := fun _ _ h => nomatch h

theorem ventExpiry (z : ZoneId) : Statement (.ventExpiry z) := fun _ _ h => nomatch h

theorem intervalDeadline (v : RoomId) : Statement (.intervalDeadline v) := fun _ _ h => nomatch h

theorem responseWindowDeadline (v : RoomId) : Statement (.responseWindowDeadline v) := fun _ _ h => nomatch h

theorem overcurrentTrip (d : DoorId) : Statement (.overcurrentTrip d) := fun _ _ h => nomatch h

theorem coolDownEnd (d : DoorId) : Statement (.coolDownEnd d) := fun _ _ h => nomatch h

theorem motionTimeout (d : DoorId) : Statement (.motionTimeout d) := fun _ _ h => nomatch h

theorem releaseDeadline (d : DoorId) : Statement (.releaseDeadline d) := fun _ _ h => nomatch h

theorem heldOpenDeadline (d : DoorId) : Statement (.heldOpenDeadline d) := fun _ _ h => nomatch h

theorem pairWindowLapse (d : DoorId) : Statement (.pairWindowLapse d) := fun _ _ h => nomatch h

theorem delayHoldEnd (d : DoorId) : Statement (.delayHoldEnd d) := fun _ _ h => nomatch h

theorem confirmTimeout (d : DoorId) : Statement (.confirmTimeout d) := fun _ _ h => nomatch h

theorem minuteBoundary : Statement .minuteBoundary := fun _ _ h => nomatch h

theorem byteReceived (byte : Byte) (stopHigh : Bool) : Statement (.byteReceived byte stopHigh) := fun _ _ h => nomatch h

theorem byteGapTimeout : Statement .byteGapTimeout := fun _ _ h => nomatch h

theorem linkBreak : Statement .linkBreak := fun _ _ h => nomatch h

theorem replySent : Statement .replySent := fun _ _ h => nomatch h

theorem hostPresenceTimeout : Statement .hostPresenceTimeout := fun _ _ h => nomatch h

theorem markWriteDone : Statement .markWriteDone := fun _ _ h => nomatch h

theorem settingsWriteDone : Statement .settingsWriteDone := fun _ _ h => nomatch h

theorem commitDone : Statement .commitDone := fun _ _ h => nomatch h

theorem deferredPresent (index : Nat) : Statement (.deferredPresent index) := fun _ _ h => nomatch h

theorem deferredRecheck (d : DoorId) : Statement (.deferredRecheck d) := fun _ _ h => nomatch h

theorem deferredGetCredential (index : Nat) : Statement (.deferredGetCredential index) := fun _ _ h => nomatch h

theorem status (tag section_ : Nat) : Statement (.status tag section_) := fun _ w h => by
  simp only [Instr.wellFormed, Bool.and_eq_true] at w
  exact fits (by decide) w.1 (Nat.le_of_ble_eq_true rfl) h

theorem getLine (tag line : Nat) : Statement (.getLine tag line) := fun _ w h => by
  simp only [Instr.wellFormed, Bool.and_eq_true] at w
  exact fits (by decide) w.1 (Nat.le_of_ble_eq_true rfl) h

theorem measureLine (tag line : Nat) : Statement (.measureLine tag line) := fun _ w h => by
  simp only [Instr.wellFormed, Bool.and_eq_true] at w
  exact fits (by decide) w.1 (Nat.le_of_ble_eq_true rfl) h

theorem getZone (tag zone : Nat) : Statement (.getZone tag zone) := fun _ w h => by
  simp only [Instr.wellFormed, Bool.and_eq_true] at w
  exact fits (by decide) w.1 (Nat.le_of_ble_eq_true rfl) h

theorem getActuator (tag actuator : Nat) : Statement (.getActuator tag actuator) := fun _ w h => by
  simp only [Instr.wellFormed, Bool.and_eq_true] at w
  exact fits (by decide) w.1 (Nat.le_of_ble_eq_true rfl) h

theorem getDoor (tag door : Nat) : Statement (.getDoor tag door) := fun _ w h => by
  simp only [Instr.wellFormed, Bool.and_eq_true] at w
  exact fits (by decide) w.1 (Nat.le_of_ble_eq_true rfl) h

theorem getVestibule (tag room : Nat) : Statement (.getVestibule tag room) := fun _ w h => by
  simp only [Instr.wellFormed, Bool.and_eq_true] at w
  exact fits (by decide) w.1 (Nat.le_of_ble_eq_true rfl) h

theorem getOccupancy (tag room : Nat) : Statement (.getOccupancy tag room) := fun _ w h => by
  simp only [Instr.wellFormed, Bool.and_eq_true] at w
  exact fits (by decide) w.1 (Nat.le_of_ble_eq_true rfl) h

theorem getCredential (tag slot : Nat) : Statement (.getCredential tag slot) := fun _ w h => by
  simp only [Instr.wellFormed, Bool.and_eq_true] at w
  exact fits (by decide) w.1 (Nat.le_of_ble_eq_true rfl) h

theorem getClock (tag : Nat) : Statement (.getClock tag) := fun _ w h => fits (by decide) w (by decide) h

theorem fetchNotice (tag : Nat) : Statement (.fetchNotice tag) := fun _ w h => fits (by decide) w (by decide) h

theorem setClass (tag cls confirm hysteresis : Nat) (bands : List BandField) : Statement (.setClass tag cls confirm hysteresis bands) := by
  intro f w h
  simp only [Instr.wellFormed, Bool.and_eq_true, decide_eq_true_eq] at w
  refine fits (by decide) w.1.1.1.1.1 ?_ h
  simp only [bytes, List.map_cons, List.map_nil, List.length_append, List.length_cons, List.length_nil, encodeBands_length]
  omega

theorem setLoop (tag loop tErr tDuress tStuck freeze l1 l2 l3 l4 l5 l6 : Nat) : Statement (.setLoop tag loop tErr tDuress tStuck freeze l1 l2 l3 l4 l5 l6) := fun _ w h => by
  simp only [Instr.wellFormed, Bool.and_eq_true] at w
  exact fits (by decide) w.1.1.1.1.1.1.1.1.1.1.1 (Nat.le_of_ble_eq_true rfl) h

theorem setZone (tag zone base ext tMax tMan tResume hold limit soak vent : Nat) : Statement (.setZone tag zone base ext tMax tMan tResume hold limit soak vent) := fun _ w h => by
  simp only [Instr.wellFormed, Bool.and_eq_true] at w
  exact fits (by decide) w.1.1.1.1.1.1.1.1.1.1 (Nat.le_of_ble_eq_true rfl) h

theorem setActuator (tag actuator zone : Nat) : Statement (.setActuator tag actuator zone) := fun _ w h => by
  simp only [Instr.wellFormed, Bool.and_eq_true] at w
  exact fits (by decide) w.1.1 (Nat.le_of_ble_eq_true rfl) h

theorem setDoor (tag door role room grantMode delayHold confirmTimeout pairWindow releaseTime heldOpen loneInterval loneWindow : Nat) : Statement (.setDoor tag door role room grantMode delayHold confirmTimeout pairWindow releaseTime heldOpen loneInterval loneWindow) := fun _ w h => by
  simp only [Instr.wellFormed, Bool.and_eq_true] at w
  exact fits (by decide) w.1.1.1.1.1.1.1.1.1.1.1 (Nat.le_of_ble_eq_true rfl) h

theorem setWindow (tag window days start stop report : Nat) : Statement (.setWindow tag window days start stop report) := fun _ w h => by
  simp only [Instr.wellFormed, Bool.and_eq_true] at w
  exact fits (by decide) w.1.1.1.1.1 (Nat.le_of_ble_eq_true rfl) h

theorem setNoticeMask (tag : Nat) (pairs : List (Nat × Nat)) : Statement (.setNoticeMask tag pairs) := by
  intro f w h
  simp only [Instr.wellFormed, Bool.and_eq_true, decide_eq_true_eq] at w
  refine fits (by decide) w.1.1 ?_ h
  simp only [List.length_cons, encodePairs_length]
  omega

theorem rowOpen (tag row : Nat) : Statement (.rowOpen tag row) := fun _ w h => by
  simp only [Instr.wellFormed, Bool.and_eq_true] at w
  exact fits (by decide) w.1 (Nat.le_of_ble_eq_true rfl) h

theorem slotStage (tag slot badge state privileges windows flags : Nat) : Statement (.slotStage tag slot badge state privileges windows flags) := fun _ w h => by
  simp only [Instr.wellFormed, Bool.and_eq_true] at w
  exact fits (by decide) w.1.1.1.1.1.1 (Nat.le_of_ble_eq_true rfl) h

theorem rowCommit (tag : Nat) : Statement (.rowCommit tag) := fun _ w h => fits (by decide) w (by decide) h

theorem rowDiscard (tag : Nat) : Statement (.rowDiscard tag) := fun _ w h => fits (by decide) w (by decide) h

theorem present (tag door reader badge : Nat) : Statement (.present tag door reader badge) := fun _ w h => by
  simp only [Instr.wellFormed, Bool.and_eq_true] at w
  exact fits (by decide) w.1.1.1 (Nat.le_of_ble_eq_true rfl) h

theorem confirm (tag door : Nat) : Statement (.confirm tag door) := fun _ w h => by
  simp only [Instr.wellFormed, Bool.and_eq_true] at w
  exact fits (by decide) w.1 (Nat.le_of_ble_eq_true rfl) h

theorem deny (tag door : Nat) : Statement (.deny tag door) := fun _ w h => by
  simp only [Instr.wellFormed, Bool.and_eq_true] at w
  exact fits (by decide) w.1 (Nat.le_of_ble_eq_true rfl) h

theorem freezeSet (tag : Nat) : Statement (.freezeSet tag) := fun _ w h => fits (by decide) w (by decide) h

theorem freezeClear (tag : Nat) : Statement (.freezeClear tag) := fun _ w h => fits (by decide) w (by decide) h

theorem modeSet (tag value : Nat) : Statement (.modeSet tag value) := fun _ w h => by
  simp only [Instr.wellFormed, Bool.and_eq_true] at w
  exact fits (by decide) w.1 (Nat.le_of_ble_eq_true rfl) h

theorem vestibuleFlush (tag room : Nat) : Statement (.vestibuleFlush tag room) := fun _ w h => by
  simp only [Instr.wellFormed, Bool.and_eq_true] at w
  exact fits (by decide) w.1 (Nat.le_of_ble_eq_true rfl) h

theorem occupantClear (tag room target slot : Nat) : Statement (.occupantClear tag room target slot) := fun _ w h => by
  simp only [Instr.wellFormed, Bool.and_eq_true] at w
  exact fits (by decide) w.1.1.1 (Nat.le_of_ble_eq_true rfl) h

theorem zoneIsolate (tag zone : Nat) : Statement (.zoneIsolate tag zone) := fun _ w h => by
  simp only [Instr.wellFormed, Bool.and_eq_true] at w
  exact fits (by decide) w.1 (Nat.le_of_ble_eq_true rfl) h

theorem zoneDeisolate (tag zone : Nat) : Statement (.zoneDeisolate tag zone) := fun _ w h => by
  simp only [Instr.wellFormed, Bool.and_eq_true] at w
  exact fits (by decide) w.1 (Nat.le_of_ble_eq_true rfl) h

theorem zoneReset (tag zone : Nat) : Statement (.zoneReset tag zone) := fun _ w h => by
  simp only [Instr.wellFormed, Bool.and_eq_true] at w
  exact fits (by decide) w.1 (Nat.le_of_ble_eq_true rfl) h

theorem releaseZone (tag zone : Nat) : Statement (.releaseZone tag zone) := fun _ w h => by
  simp only [Instr.wellFormed, Bool.and_eq_true] at w
  exact fits (by decide) w.1 (Nat.le_of_ble_eq_true rfl) h

theorem actuatorRearm (tag actuator : Nat) : Statement (.actuatorRearm tag actuator) := fun _ w h => by
  simp only [Instr.wellFormed, Bool.and_eq_true] at w
  exact fits (by decide) w.1 (Nat.le_of_ble_eq_true rfl) h

theorem doorMode (tag door mode : Nat) : Statement (.doorMode tag door mode) := fun _ w h => by
  simp only [Instr.wellFormed, Bool.and_eq_true] at w
  exact fits (by decide) w.1.1 (Nat.le_of_ble_eq_true rfl) h

theorem doorDrive (tag door direction : Nat) : Statement (.doorDrive tag door direction) := fun _ w h => by
  simp only [Instr.wellFormed, Bool.and_eq_true] at w
  exact fits (by decide) w.1.1 (Nat.le_of_ble_eq_true rfl) h

theorem doorService (tag door : Nat) : Statement (.doorService tag door) := fun _ w h => by
  simp only [Instr.wellFormed, Bool.and_eq_true] at w
  exact fits (by decide) w.1 (Nat.le_of_ble_eq_true rfl) h

theorem timeSet (tag minute second : Nat) : Statement (.timeSet tag minute second) := fun _ w h => by
  simp only [Instr.wellFormed, Bool.and_eq_true] at w
  exact fits (by decide) w.1.1 (Nat.le_of_ble_eq_true rfl) h

theorem restart (tag : Nat) : Statement (.restart tag) := fun _ w h => fits (by decide) w (by decide) h

end Sys2Proof.Laws.FrameFits
end

