-- ==== Sys2Proof/Tests/Slice0.lean ====
section
/-! SUPPORT. Slice0: the tests of the model. First the smoke test of WellFormed (an ill-formed command for each check), the
decoding of bodies written out from 11.6, the CRC of R187, the worked values of chapter 1 and one step of each kind of block.
Then the witnesses: for every statement of Certificates/Slice0/Obligations.lean that has hypotheses, a theorem
`witness_<Name>`, or one for each part of a long one, shows for each of its clauses a state and operands that meet the hypotheses together. Expected values come
from the rules named beside them. -/

namespace Sys2Proof.Tests

-- Hundreds of small theorems: elaborated at once, each takes a thread of its own, and the package as one text runs out of
-- threads.
set_option Elab.async false

open Sys2Proof Sys2Proof.Machine

/-! ## Small states -/

/-- The state a command leaves. -/
def after (c : Instr) (s : State) : State :=
  match exec c s with
  | .next t => t
  | _ => s

/-- The part right after reset. -/
abbrev fresh : State := State.reset

/-- A small site that is READY by day: door 1 is the door of strongroom 1; doors 2 and 3 are the inner and the outer door of
the vestibule of strongroom 2; door 4 is in the perimeter. All are SECURE and BOLTED. Slot 5 holds badge 77 and slot 6 badge
78, both with every privilege; no slot is placed. -/
def site : State :=
  { State.reset with
    sup := { Supervisor.start with fullScans := 3, ready := true }
    lines := put (put (put (put State.reset.lines 24 { LineRecord.start with confirmed := .bolted })
      25 { LineRecord.start with confirmed := .bolted }) 26 { LineRecord.start with confirmed := .bolted })
      27 { LineRecord.start with confirmed := .bolted }
    clock := { WeekClock.cold with valid := true, override := .forceDay, mode := .day }
    nv := { Nv.blank with
      doors := put (put (put (put Nv.blank.doors 0 (some { DoorSettings.default with role := .strongroom 0 }))
        1 (some { DoorSettings.default with role := .strongroom 1 }))
        2 (some { DoorSettings.default with role := .vestibuleOuter 1 }))
        3 (some { DoorSettings.default with role := .perimeter })
      credentials := [(5, ⟨77, .active, 0xFFF, 0, ⟨true, false, false, true⟩⟩), (6, ⟨78, .active, 0xFFF, 0, ⟨true, false, false, true⟩⟩)] } }

/-- The request of kind 1 and tag 9 is outstanding. -/
def busy (s : State) : State := { s with link := { s.link with outstanding := some ⟨1, 9⟩ } }

/-- Zone 1 with this record. -/
def zoned (x : Zone) (s : State) : State := { s with zones := put s.zones 0 x }

/-- Zone 1 in this state. -/
def zoneIn (st : ZoneState) : State := zoned { Zone.start with state := st } fresh

/-- Loop 1 with this record. -/
def looped (x : Loop) : State := { fresh with loops := put fresh.loops 0 x }

/-- Strongroom 1 with this record, at the site. -/
def roomed (x : Room) : State := { site with rooms := put site.rooms 0 x }

/-- Door 1 with this record, at the site. -/
def doored (x : Door) : State := { site with doors := put site.doors 0 x }

/-- Door 1 with this grant, at the site. -/
def granted (g : Grant) (s : State) : State := { s with grants := put s.grants 0 (some g) }

/-- The entry grant of badge 77 at door 1 in this stage. -/
def entry77 (st : GrantStage) : Grant := ⟨[⟨5, 77⟩], .entry, .outside, st, some 0, none⟩

/-- The line that is under conversion, for this grantor. -/
def converting (l : LineId) (g : Grantor) (s : State) : State := { s with sup := { s.sup with converting := ⟨l, g⟩ } }

/-- The first entry of a list of persons. -/
abbrev listed77 : ListedEntry := ⟨5, 77, none, false⟩

/-- Band `b` is confirmed on the line of door 1. -/
def bandAt (b : Band) (s : State) : State := { s with lines := put s.lines 24 { LineRecord.start with confirmed := b } }

/-! ## WellFormed: each check refuses an ill-formed command -/

/-- A one-byte field above 255: the tag, and an operand of each request that has one. -/
theorem test_wellFormed_bytes :
    [Instr.status 256 0, .status 0 256, .getLine 0 256, .measureLine 0 256, .getZone 0 256, .getActuator 0 256, .getDoor 0 256,
      .getVestibule 0 256, .getOccupancy 0 256, .getClock 256, .fetchNotice 256, .setActuator 0 1 256, .rowOpen 0 256,
      .rowCommit 256, .rowDiscard 256, .present 0 256 0 1, .present 0 1 256 1, .confirm 0 256, .deny 0 256, .freezeSet 256,
      .freezeClear 256, .modeSet 0 256, .vestibuleFlush 0 256, .occupantClear 0 1 256 0, .zoneIsolate 0 256,
      .zoneDeisolate 0 256, .zoneReset 0 256, .releaseZone 0 256, .actuatorRearm 0 256, .doorMode 0 1 256, .doorDrive 0 1 256,
      .doorService 0 256, .timeSet 0 0 256, .restart 256].all (fun i => !i.wellFormed) = true := by decide

/-- A two-byte field above 65535. -/
theorem test_wellFormed_words :
    [Instr.getCredential 0 65536, .setLoop 0 1 65536 2000 60 0 0 0 0 0 0 0, .setLoop 0 1 150 65536 60 0 0 0 0 0 0 0,
      .setLoop 0 1 150 2000 65536 0 0 0 0 0 0 0, .setZone 0 1 30 10 90 10 30 1 65536 10 15,
      .setDoor 0 1 0 1 0 5 30 20 8 65536 20 60, .setDoor 0 1 0 1 0 5 30 20 8 30 20 65536, .setWindow 0 0 127 65536 1140 0,
      .setWindow 0 0 127 420 65536 0, .slotStage 0 65536 1 0 0 0 0, .slotStage 0 0 1 0 65536 0 0, .slotStage 0 0 1 0 0 65536 0,
      .occupantClear 0 1 0 65536, .timeSet 0 65536 0, .setClass 0 0 5 4 [⟨4, 65536, 0⟩], .setClass 0 0 5 4 [⟨4, 0, 65536⟩]].all
      (fun i => !i.wellFormed) = true := by decide

/-- A four-byte field above 4 294 967 295, a band code above 255, and bodies too long for a frame. -/
theorem test_wellFormed_long_fields_and_bodies :
    [Instr.slotStage 0 0 4294967296 0 0 0 0, .present 0 1 0 4294967296, .setClass 0 0 5 4 [⟨256, 0, 0⟩],
      .setClass 0 0 5 4 (List.replicate 49 ⟨4, 0, 0⟩), .setNoticeMask 0 (List.replicate 124 (0x10, 1)),
      .setNoticeMask 0 [(256, 1)], .setNoticeMask 0 [(0x10, 256)]].all (fun i => !i.wellFormed) = true := by decide +kernel

/-- A value in its width and out of its range is well formed: its rule answers BAD_VALUE. -/
theorem test_wellFormed_out_of_range : (Instr.getLine 255 255).wellFormed = true := by decide

/-! ## Decoding: bodies written out from 11.6 and the rules -/

/-- 0x01 STATUS, one byte. -/
theorem test_decode_status : decodeRequest 0x01 9 [0x02#8] = .request (.status 9 2) := by decide

/-- 0x09 GET_CREDENTIAL: slot 0x07FF in two bytes, high byte first. -/
theorem test_decode_getCredential : decodeRequest 0x09 9 [0x07#8, 0xFF#8] = .request (.getCredential 9 2047) := by decide

/-- 0x10 SET_CLASS with one band: code 4 NORMAL from 0x02A0 to 0x02D0. -/
theorem test_decode_setClass :
    decodeRequest 0x10 9 [0#8, 5#8, 4#8, 1#8, 4#8, 0x02#8, 0xA0#8, 0x02#8, 0xD0#8] =
      .request (.setClass 9 0 5 4 [⟨4, 672, 720⟩]) := by decide

/-- 0x21 SLOT_STAGE: slot, then the record of 11.6 (badge four bytes, state one, privileges two, windows two, flags one). -/
theorem test_decode_slotStage :
    decodeRequest 0x21 9 [0x00#8, 0x05#8, 0x00#8, 0x01#8, 0x00#8, 0x02#8, 0x01#8, 0x0F#8, 0xFF#8, 0x80#8, 0x01#8, 0x05#8] =
      .request (.slotStage 9 5 65538 1 4095 32769 5) := by decide

/-- 0x30 PRESENT: door, reader, badge. -/
theorem test_decode_present :
    decodeRequest 0x30 9 [20#8, 1#8, 0x00#8, 0x00#8, 0x01#8, 0x00#8] = .request (.present 9 20 1 256) := by decide

/-- 0x43 RELEASE_ZONE, 0x48 DOOR_MODE, 0x51 RESTART: one, two and no bytes. -/
theorem test_decode_small_bodies :
    decodeRequest 0x43 9 [12#8] = .request (.releaseZone 9 12) ∧ decodeRequest 0x48 9 [3#8, 1#8] = .request (.doorMode 9 3 1) ∧
    decodeRequest 0x51 9 [] = .request (.restart 9) := by decide

/-- The kind is checked before the length (R190); a body of the wrong length, or whose count does not agree with it, is refused. -/
theorem test_decode_refusals :
    decodeRequest 0x0C 9 [] = .unknownKind ∧ decodeRequest 0x81 9 [1#8] = .unknownKind ∧
    decodeRequest 0x01 9 [] = .frameLength ∧ decodeRequest 0x51 9 [0#8] = .frameLength ∧
    decodeRequest 0x16 9 [2#8, 0x10#8, 1#8] = .frameLength := by decide

/-- The frame of STATUS 0 with tag 9: sync, length 3, kind, tag, body, then two CRC bytes. -/
theorem test_frame_of_status :
    (frameBytes 0x01 9 [0#8]).take 5 = [0xA5#8, 3#8, 1#8, 9#8, 0#8] ∧ (frameBytes 0x01 9 [0#8]).length = 7 := by decide +kernel

/-- The check value of the CRC: ASCII 1 to 9 give 0x29B1 (R187). -/
theorem test_crc_check_value : crcOf [0x31#8, 0x32#8, 0x33#8, 0x34#8, 0x35#8, 0x36#8, 0x37#8, 0x38#8, 0x39#8] = 0x29B1#16 := by
  decide +kernel

/-- The bytes of a notice record (11.6): kind, class, object type and number, detail type and value, stamp, minute, repeats. -/
theorem test_notice_record :
    Notice.bytes ⟨.doorForced, .door 2, some (.reason .passback), 258, none, 3, false⟩ =
      [0x18#8, 1#8, 2#8, 0#8, 3#8, 3#8, 0#8, 0#8, 0#8, 8#8, 0#8, 0#8, 1#8, 2#8, 0xFF#8, 0xFF#8, 3#8] := by decide +kernel

/-- The first and the last number of each notice class (11.6). -/
theorem test_notice_codes :
    [NoticeKind.duress.code, NoticeKind.releaseFailed.code, NoticeKind.entryFreeze.code, NoticeKind.doorInsecure.code,
      NoticeKind.lineFault.code, NoticeKind.deviceStart.code, NoticeKind.lineRestored.code, NoticeKind.modeChange.code] =
      [0x01, 0x03, 0x10, 0x1A, 0x20, 0x2C, 0x30, 0x4C] := by decide +kernel

/-! ## Worked values -/

/-- Codes of the ends of the range and of the series resistor itself, where one half is exactly 511.5 (R3). -/
theorem test_codes : codeOf (some 0) = 0 ∧ codeOf none = 1023 ∧ codeOf (some 4700) = 512 ∧ codeOf (some 10000) = 696 := by
  decide +kernel

/-- The default bands: 10 kΩ is NORMAL on a detector line and OPENED on a door line (R7). -/
theorem test_default_bands :
    ClassParams.detectorDefault.classify 696 = .normal ∧ ClassParams.doorDefault.classify 696 = .opened ∧
    ClassParams.doorDefault.classify 600 = .unclassified := by decide

/-- A cold start of a part never programmed is the state after reset (R203). -/
theorem test_reset_is_cold_start : after .coldStart { State.reset with powered := false } = State.reset := by decide +kernel

/-! ## One step of each block -/

/-- A command in front of the queue runs, and the queue's rest stays. -/
theorem test_step_takes_front :
    (match step { State.reset with pending := [.getClock 1, .getClock 2] } with
      | .next t => decide (t.pending = [.getClock 2] ∧ t.link.tx.length = 1)
      | _ => false) = true := by decide +kernel

/-- The table gives no bits: no word spells a command. -/
theorem test_table_words_spell_nothing : decodeTableWord 0 0 = none := by decide

/-- The third equal code confirms a band on a station line (R7, R9): NORMAL. -/
theorem test_third_code_confirms :
    ((after (.conversionEnd (some 10000)) (converting 52 .scan { fresh with
      lines := put fresh.lines 52 { LineRecord.start with candidate := some .normal, count := 2 } })).lines.get 52).confirmed =
      .normal := by decide +kernel

/-- RELEASE_ZONE of a quiet zone begins a manual countdown of T_man (R46, R67: default 10 s). -/
theorem test_release_zone :
    ((after (.releaseZone 9 1) fresh).zones.get 0).countdown = some ⟨.manual, 10000⟩ := by decide +kernel

/-- The countdown that ends in a zone without armed actuators fails its release (R50). -/
theorem test_release_without_actuators :
    ((after (.countdownExpiry 0) (zoned { Zone.start with state := .predischarge, override := true, countdown := some ⟨.manual, 0⟩ }
      fresh)).zones.get 0).state = .releaseFailed := by decide +kernel

/-- A badge at the outside reader of an AUTO door withdraws its bolt (R128, R145). -/
theorem test_present_withdraws :
    ((after (.present 9 1 0 77) site).doors.get 0).state = .releasing ∧
    ((after (.present 9 1 0 77) site).doors.get 0).drive = some .withdrawn := by decide +kernel

/-- An unknown badge is denied, and nothing moves (R124 step 1). -/
theorem test_present_unknown_badge :
    (after (.present 9 1 0 79) site).link.tx = [⟨0x30, 9, .denied, .reason .unknownBadge, .plain⟩] ∧
    (after (.present 9 1 0 79) site).doors = site.doors := by decide +kernel

/-- PRESENT at a door of a vestibule whose other door is not SECURE is refused (R164). -/
theorem test_interlock :
    (after (.present 9 2 0 77) { site with doors := put site.doors 2 { Door.unused with state := .opened } }).link.tx.map
      (fun r => r.data) ≠ [.outcome .granted 5] := by decide +kernel

/-- Minute 10079 and second 59 go to minute 0 after their last ms (R178). -/
theorem test_week_wraps :
    (WeekClock.tick { WeekClock.cold with minute := 10079, second := 59, ms := 999 }).minute = 0 := by decide +kernel

/-- ROW_COMMIT of an untouched open row begins a commit of 40 ms (R117, R200). -/
theorem test_row_commit :
    (after (.rowCommit 9) { fresh with stage := .opened 255 (Vector.replicate 8 Credential.empty) (Vector.replicate 8 false) }).store =
      ⟨some ⟨.commit 255, 40⟩, [], []⟩ := by decide +kernel

/-- FETCH_NOTICE takes the LIFE entry before the older ROUTINE one (R198). -/
theorem test_fetch_takes_life :
    ((after (.fetchNotice 9) { fresh with link := { fresh.link with notices :=
      [⟨.checkIn, .none, none, 0, none, 1, false⟩, ⟨.duress, .loop 0, none, 0, none, 1, false⟩] } }).link.notices.map
        (fun e => e.inTx)) = [false, true] := by decide +kernel

/-- A fifth overcurrent trip latches the drive (R143). -/
theorem test_fifth_trip :
    ((after (.overcurrentTrip 0) (doored { Door.unused with trips := 4, motion := .moving .thrown 1 })).doors.get 0).latch = true := by
  decide +kernel

/-- A duress deadline taken late is stamped with its own time (R25, R32). -/
theorem test_late_duress_keeps_its_time :
    (after (.duressDeadline 0) { looped ⟨.pressed, some 1, some 0, some 2000, some 60000⟩ with quarters := 12000 }).link.notices.map
      (fun n => (n.kind, n.stamp)) = [(.deviceStart, 0), (.duress, 2000), (.entryFreeze, 2000)] := by decide +kernel

/-- A door serviced during settling stays in LINE_FAULT (R161), and its first band re-derives it without an alarm (R19, R141). -/
theorem test_service_before_ready :
    let s := { doored { Door.unused with state := .lineFault } with sup := Supervisor.start }
    ((after (.doorService 9 1) s).doors.get 0).state = .lineFault ∧
    ((doorChange 0 .opened .unknown { bandAt .opened s with sup := site.sup }).doors.get 0).alarm = false ∧
    ((doorChange 0 .opened .unknown { bandAt .opened s with sup := site.sup }).doors.get 0).state = .opened := by decide +kernel

/-- The cancellation of a release keeps the trip count, where the bolt is found thrown still (R148). -/
theorem test_cancellation_keeps_trips :
    ((doorCancelled 0 (doored { Door.unused with
      state := .releasing, bolt := .withdrawn, motion := .moving .withdrawn 9, trips := 3 })).doors.get 0) =
      { Door.unused with trips := 3 } := by decide +kernel

/-- The framed GET_CLOCK request, byte by byte, does what the request does (R187). -/
theorem test_bytes_perform_getClock : 
    (match receiveAll (frameBytes 0x0A 9 []) fresh with
      | .next t => decide (t = after (.getClock 9) fresh)
      | _ => false) = true := by decide +kernel

/-! ## Witnesses: the queue, power and line supervision -/

theorem witness_StepRunsFrontCommand :
    (∃ (c : Instr) (rest : List Instr) (s : State), s.pending = c :: rest) ∧ (∃ s : State, s.pending = []) :=
  ⟨⟨.linkBreak, [], { fresh with pending := [.linkBreak] }, rfl⟩, ⟨fresh, rfl⟩⟩

theorem witness_EveryCommandAnswersNextState :
    ∃ (c : Instr) (s : State), s.powered = false ∧ c ≠ .coldStart ∧ (∀ ms, c ≠ .warmStart ms) :=
  ⟨.linkBreak, { fresh with powered := false }, rfl, nofun, nofun⟩

theorem witness_PowerLossEndsOperationWhole :
    (∃ (s : State) (r : Running), s.powered = true ∧ s.store.running = some r) ∧
    (∃ s : State, s.powered = true ∧ s.store.running = none) :=
  ⟨⟨{ fresh with store := ⟨some ⟨.mark (.spent 0) true, 0⟩, [], []⟩ }, ⟨.mark (.spent 0) true, 0⟩, rfl, rfl⟩, ⟨fresh, rfl, rfl⟩⟩

theorem witness_CodesRoundAndBandsClassify_codes : ∃ q r : Nat, q ≤ r := ⟨0, 0, by decide⟩

theorem witness_CodesRoundAndBandsClassify :
    bandsApart ClassParams.doorDefault.bands = true ∧
    (∃ r ∈ ClassParams.doorDefault.bands, r.low ≤ 310 ∧ 310 ≤ r.high) ∧ (∃ r ∈ ClassParams.doorDefault.bands, r.low ≤ 342 ∧ 342 ≤ r.high) ∧
    (∀ r ∈ ClassParams.doorDefault.bands, ¬(r.low ≤ 343 ∧ 343 ≤ r.high)) := by decide

/-- 2006 ohms give code 306, the last that the hysteresis of BOLTED holds; 0 ohms leave it, with the count one short of N and at its start. -/
theorem witness_ConversionUpdatesLineRecord :
    (∃ (s : State) (x : LineRecord), s.powered = true ∧ s.sup.converting.line = 24 ∧ s.lines.get 24 = x ∧
      ∃ r ∈ (s.classParams (lineClass 24)).bands, r.band = x.confirmed ∧
        r.low - (s.classParams (lineClass 24)).hysteresis ≤ codeOf (some 2006) ∧ codeOf (some 2006) ≤ r.high + 4) ∧
    (∃ (s : State) (x : LineRecord) (b : Band), s.powered = true ∧ s.sup.converting.line = 24 ∧ s.lines.get 24 = x ∧
      (s.classParams (lineClass 24)).classify (codeOf (some 0)) = b ∧ b ≠ x.confirmed ∧ x.candidate = some b ∧
      (s.classParams (lineClass 24)).confirm ≤ x.count + 1) ∧
    (∃ (s : State) (x : LineRecord) (b : Band), s.powered = true ∧ s.sup.converting.line = 24 ∧ s.lines.get 24 = x ∧
      (s.classParams (lineClass 24)).classify (codeOf (some 0)) = b ∧ b ≠ x.confirmed ∧ x.candidate ≠ some b) :=
  ⟨⟨converting 24 .scan site, { LineRecord.start with confirmed := .bolted }, by decide +kernel⟩,
   ⟨converting 24 .scan { site with lines := put site.lines 24 ⟨.bolted, some .short, 2, none, none, none⟩ },
     ⟨.bolted, some .short, 2, none, none, none⟩, .short, by decide +kernel⟩,
   ⟨converting 24 .scan site, { LineRecord.start with confirmed := .bolted }, .short, by decide +kernel⟩⟩

/-- The third code of SHORT reaches the owner of the line, at the scan, in fast-follow and in a measurement, whose request is
outstanding, or is not. -/
theorem witness_ConversionUpdatesLineRecord_owner :
    (∀ g ∈ [Grantor.scan, .fastFollow, .measurement true, .measurement false], ∀ s0 ∈ [site, busy site],
      let s := converting 24 g { s0 with lines := put site.lines 24 ⟨.bolted, some .short, 2, none, none, none⟩ }
      s.powered = true ∧ s.sup.ready = true ∧ s.sup.converting = ⟨24, g⟩ ∧ s.classParams .door = ClassParams.doorDefault ∧
      ClassParams.doorDefault.classify (codeOf (some 0)) = .short ∧
      ((after (.conversionEnd (some 0)) s).lines.get 24).confirmed ≠ (s.lines.get 24).confirmed) ∧
    (51 : LineId) = loopLine 7 ∧ (23 : LineId) = detectorBLine 11 ∧ (52 : LineId) = stationLine 0 ∧ (43 : LineId) = doorLine 19 := by
  decide +kernel

theorem witness_UnconfirmedConversionTouchesNothingElse :
    (∃ (s t : State) (ohms : Option Nat) (l : LineId) (r : Request), s.powered = true ∧ s.sup.converting.line = l ∧
      exec (.conversionEnd ohms) s = .next t ∧ (t.lines.get l).confirmed = (s.lines.get l).confirmed ∧ t.sup.ready = s.sup.ready ∧
      s.sup.converting.grantor = .measurement true ∧ s.link.outstanding = some r) ∧
    (∃ (s t : State) (ohms : Option Nat) (l : LineId), s.powered = true ∧ s.sup.converting.line = l ∧
      exec (.conversionEnd ohms) s = .next t ∧ (t.lines.get l).confirmed = (s.lines.get l).confirmed ∧ t.sup.ready = s.sup.ready ∧
      s.sup.converting.grantor ≠ .measurement true) ∧
    (∃ s : State, s.free) :=
  ⟨⟨converting 63 (.measurement true) (busy site), after (.conversionEnd none) (converting 63 (.measurement true) (busy site)), none, 63,
     ⟨1, 9⟩, by decide +kernel, by decide +kernel, rfl, by decide +kernel, by decide +kernel, by decide +kernel, by decide +kernel⟩,
   ⟨converting 63 .scan site, after (.conversionEnd none) (converting 63 .scan site), none, 63, by decide +kernel,
     by decide +kernel, rfl, by decide +kernel, by decide +kernel, by decide +kernel⟩,
   ⟨fresh, rfl, rfl⟩⟩

theorem witness_ArbiterGrantsInOrder :
    (∃ (x : Supervisor) (now : Nat) (k : LoopId) (dl : Nat), x.fastFollow.get k = some dl ∧ dl ≤ now) ∧
    (∃ (x : Supervisor) (now : Nat) (m : Measurement), (∀ k dl, x.fastFollow.get k = some dl → now < dl) ∧ x.pending = some m) ∧
    (∃ (x : Supervisor) (now : Nat), (∀ k dl, x.fastFollow.get k = some dl → now < dl) ∧ x.pending = none ∧
      x.following x.pointer = false) :=
  have idle : ∀ (k : LoopId) (dl : Nat), Supervisor.start.fastFollow.get k = some dl → 0 < dl := by
    intro k dl h
    have none_due : ∀ k : LoopId, Supervisor.start.fastFollow.get k = none := by decide +kernel
    rw [none_due k] at h
    cases h
  ⟨⟨{ Supervisor.start with fastFollow := put Supervisor.start.fastFollow 7 (some 5) }, 5, 7, 5, by decide +kernel⟩,
   ⟨{ Supervisor.start with pending := some ⟨63, true⟩ }, 0, ⟨63, true⟩, idle, rfl⟩, ⟨Supervisor.start, 0, idle, rfl, by decide +kernel⟩⟩

/-- The code passes the stay test of NORMAL. -/
abbrev staysNormal (p : ClassParams) (code : Nat) : Prop :=
  ∃ r ∈ p.bands, r.band = .normal ∧ r.low - p.hysteresis ≤ code ∧ code ≤ r.high + p.hysteresis

/-- The state in which staff loop 1 is under conversion with a record, in fast-follow or not. -/
def following (follow : Option Nat) (x : LineRecord) : State :=
  { fresh with
    lines := put fresh.lines 44 x
    sup := { Supervisor.start with
      ready := true, converting := ⟨44, .scan⟩, pointer := 44, fastFollow := put Supervisor.start.fastFollow 0 follow } }

/-- A staff line that leaves NORMAL enters fast-follow (code 512, no confirmation); one that is in it stays for a further equal code;
it leaves at a confirmed NORMAL, at a code within NORMAL, and at a confirmed line fault; out of NORMAL and out of it it stays out. -/
theorem witness_ArbiterGrantsInOrder_follow :
    (∀ x ∈ ([(none, ⟨.normal, none, 0, none, none, none⟩, some 4700, .normal, false),
        (some 0, ⟨.normal, some (.station 2), 1, none, none, none⟩, some 4700, .normal, false),
        (some 0, ⟨.station 2, some .normal, 2, none, none, none⟩, some 10000, .normal, true),
        (some 0, ⟨.normal, some (.station 2), 1, none, none, none⟩, some 10000, .normal, true),
        (some 0, ⟨.normal, some .short, 2, none, none, none⟩, some 0, .short, false),
        (none, ⟨.station 2, none, 0, none, none, none⟩, some 0, .station 2, false)] :
        List (Option Nat × LineRecord × Option Nat × Band × Bool)),
      let s := following x.1 x.2.1
      let t := after (.conversionEnd x.2.2.1) s
      s.powered = true ∧ loopLine 0 = s.sup.converting.line ∧ s.classParams .staff = ClassParams.staffDefault ∧
      (s.lines.get (loopLine 0)).confirmed = x.2.1.confirmed ∧ (t.lines.get (loopLine 0)).confirmed = x.2.2.2.1 ∧
      (x.2.2.2.2 = true ↔ staysNormal ClassParams.staffDefault (codeOf x.2.2.1)) ∧ t.quarters = s.quarters + 1) ∧
    (∃ r ∈ ClassParams.staffDefault.bands, r.band = .normal) := by decide +kernel

theorem witness_ThirdFullScanMakesReady :
    ∃ s : State, s.powered = true ∧ s.sup.ready = false ∧ s.sup.fullScans = 2 ∧ s.sup.pointer = 63 ∧ s.sup.converting = ⟨63, .scan⟩ :=
  ⟨{ fresh with sup := { Supervisor.start with fullScans := 2, pointer := 63, converting := ⟨63, .scan⟩ } }, by decide +kernel⟩

theorem witness_GetLineReportsRecord :
    ∃ s : State, s.free ∧ (∃ l : LineId, l.val = 63) ∧ 64 ≤ 64 := ⟨fresh, by decide +kernel⟩

/-! ## Witnesses: staff loops -/

theorem witness_LoopDeadlinesTakeDuressAndStuck :
    (∃ (s : State) (k : LoopId) (x : Loop) (dl : Nat) (st : StationNo), s.powered = true ∧ s.loops.get k = x ∧
      (x.state = .pressed ∨ x.state = .unresolved) ∧ x.duressDl = some dl ∧ dl ≤ s.now ∧ x.station = some st ∧
      (s.loopSettings k).place st = some 0 ∧ (s.rooms.get 0).listed = [] ∧ (s.rooms.get 0).evidence = false ∧
      (s.loopSettings k).freeze = true ∧ s.freeze = false) ∧
    (∃ (s : State) (k : LoopId) (x : Loop) (dl : Nat) (st : StationNo), s.powered = true ∧ s.loops.get k = x ∧
      (x.state = .pressed ∨ x.state = .unresolved) ∧ x.duressDl = some dl ∧ dl ≤ s.now ∧ x.station = some st ∧
      (s.loopSettings k).place st = none ∧ (s.loopSettings k).freeze = false) ∧
    (∃ (s : State) (k : LoopId) (x : Loop) (dl : Nat) (st : StationNo), s.powered = true ∧ s.loops.get k = x ∧
      (x.state = .duress ∨ x.state = .unresolvedDuress) ∧ x.duressDl = none ∧ x.stuckDl = some dl ∧ dl ≤ s.now ∧
      x.station = some st) :=
  ⟨⟨{ looped ⟨.pressed, some 1, some 0, some 0, some 60000⟩ with nv := { Nv.blank with
       loops := put Nv.blank.loops 0 (some { LoopSettings.default with locations := Vector.replicate 6 (some 0) }) } }, 0,
     ⟨.pressed, some 1, some 0, some 0, some 60000⟩, 0, 1, by decide +kernel⟩,
   ⟨{ looped ⟨.unresolved, some 0, some 0, some 0, some 60000⟩ with nv := { Nv.blank with
       loops := put Nv.blank.loops 0 (some { LoopSettings.default with freeze := false }) } }, 0,
     ⟨.unresolved, some 0, some 0, some 0, some 60000⟩, 0, 0, by decide +kernel⟩,
   ⟨looped ⟨.duress, some 6, some 0, none, some 0⟩, 0, ⟨.duress, some 6, some 0, none, some 0⟩, 0, 6, by decide +kernel⟩⟩

/-- A press of 149 ms bounces and one of 150 ms is a call or a check-in; a duress is released. -/
theorem witness_ReleasedPressIsClassified :
    (∃ (s : State) (x : Loop) (st : StationNo), s.loops.get 0 = x ∧ x.pressAt = some 0 ∧ x.station = some st ∧
      dueBy 149 x.duressDl = false ∧ dueBy 149 x.stuckDl = false ∧ x.state = .pressed ∧ 149 - 0 < (s.loopSettings 0).tErr) ∧
    (∃ (s : State) (x : Loop) (st : StationNo), s.loops.get 0 = x ∧ x.pressAt = some 0 ∧ x.station = some st ∧
      dueBy 150 x.duressDl = false ∧ dueBy 150 x.stuckDl = false ∧ x.state = .pressed ∧ (s.loopSettings 0).tErr ≤ 150 - 0 ∧
      (s.loopSettings 0).place st = none) ∧
    (∃ (s : State) (x : Loop) (st : StationNo) (v : RoomId) (e : ListedEntry) (dl : Nat), s.loops.get 0 = x ∧ x.pressAt = some 0 ∧
      x.station = some st ∧ dueBy 150 x.duressDl = false ∧ dueBy 150 x.stuckDl = false ∧ x.state = .pressed ∧
      (s.loopSettings 0).tErr ≤ 150 - 0 ∧ (s.loopSettings 0).place st = some v ∧ (s.rooms.get v).listed = [e] ∧
      (s.rooms.get v).lone = .prompt dl) ∧
    (∃ (s : State) (x : Loop) (st : StationNo), s.loops.get 0 = x ∧ x.pressAt = some 0 ∧ x.station = some st ∧
      dueBy 150 x.duressDl = false ∧ dueBy 150 x.stuckDl = false ∧ x.state = .unresolvedDuress) :=
  ⟨⟨looped ⟨.pressed, some 1, some 0, some 2000, some 60000⟩, ⟨.pressed, some 1, some 0, some 2000, some 60000⟩, 1, by decide +kernel⟩,
   ⟨looped ⟨.pressed, some 1, some 0, some 2000, some 60000⟩, ⟨.pressed, some 1, some 0, some 2000, some 60000⟩, 1, by decide +kernel⟩,
   ⟨{ looped ⟨.pressed, some 1, some 0, some 2000, some 60000⟩ with
       rooms := put fresh.rooms 0 { Room.empty with listed := [listed77], lone := .prompt 9 }
       nv := { Nv.blank with
         loops := put Nv.blank.loops 0 (some { LoopSettings.default with locations := Vector.replicate 6 (some 0) }) } },
     ⟨.pressed, some 1, some 0, some 2000, some 60000⟩, 1, 0, listed77, 9, by decide +kernel⟩,
   ⟨looped ⟨.unresolvedDuress, some 0, some 0, none, some 60000⟩, ⟨.unresolvedDuress, some 0, some 0, none, some 60000⟩, 0,
     by decide +kernel⟩⟩

/-- A call of 150 ms from a strongroom under observation, and one from a strongroom that lists nobody. -/
theorem witness_ReleasedPressIsClassified_call :
    ∀ x ∈ [(Room.empty, Lone.off), ({ Room.empty with listed := [listed77], lone := .running 9 }, .running 1200000)],
      let s := { looped ⟨.pressed, some 1, some 0, some 2000, some 60000⟩ with
        rooms := put fresh.rooms 0 x.1
        nv := { Nv.blank with
          loops := put Nv.blank.loops 0 (some { LoopSettings.default with locations := Vector.replicate 6 (some 0) }) } }
      s.loops.get 0 = ⟨.pressed, some 1, some 0, some 2000, some 60000⟩ ∧ dueBy 150 (some 2000) = false ∧
      dueBy 150 (some 60000) = false ∧ (s.loopSettings 0).tErr ≤ 150 - 0 ∧ (s.loopSettings 0).place 1 = some 0 ∧
      s.rooms.get 0 = x.1 ∧
      (x.1.lone = .off ∧ x.2 = .off ∨ x.1.lone = .running 9 ∧ x.2 = .running (s.now + s.loneIntervalMs 0)) := by decide +kernel

/-- A loop in each of its states, with no deadline passed at 1999 ms; the first and the last station; a press whose duress deadline,
and a duress whose stuck deadline, a band confirmed at that very time finds. -/
theorem witness_LoopTakesBandsInOrder :
    (∀ st ∈ [LoopState.idle, .pressed, .duress, .unresolved, .unresolvedDuress, .fault, .stuck],
      let x : Loop := ⟨st, some 1, some 0, some 2000, some 60000⟩
      (looped x).loops.get 0 = x ∧ dueBy 1999 x.duressDl = false ∧ dueBy 1999 x.stuckDl = false ∧ x.state = st ∧
      x.station = some 1 ∧ x.station ≠ some 6 ∧ x.station ≠ some 0) ∧
    (∃ j : Fin 6, Band.station 0 = .station j ∧ (1 : StationNo).val = j.val + 1) ∧
    (∃ j : Fin 6, Band.station 5 = .station j ∧ (6 : StationNo).val = j.val + 1) ∧
    (let s := { looped ⟨.pressed, some 1, some 0, some 2000, some 60000⟩ with quarters := 8000 };
      s.powered = true ∧ 2000 ≤ 2000 ∧ 2000 ≤ s.now ∧ (s.loops.get 0).duressDl = some 2000) ∧
    (let s := { looped ⟨.duress, some 1, some 0, none, some 60000⟩ with quarters := 240000 };
      s.powered = true ∧ 60000 ≤ 60000 ∧ 60000 ≤ s.now ∧ (s.loops.get 0).duressDl = none ∧ (s.loops.get 0).stuckDl = some 60000) := by
  decide +kernel

/-! ## Witnesses: suppression zones -/

/-- An automatic countdown at 0 over one listed person (held), over none, a manual one, and the limit of an occupied hold. -/
theorem witness_CountdownAndHoldEndsRelease :
    (∃ s : State, s.powered = true ∧ (s.zones.get 0).state = .predischarge ∧ (s.zones.get 0).countdown = some ⟨.automatic, 0⟩ ∧
      (s.zoneSettings 0).hold = true ∧ 1 ≤ (s.rooms.get 0).effective) ∧
    (∃ s : State, s.powered = true ∧ (s.zones.get 0).state = .predischarge ∧ (s.zones.get 0).countdown = some ⟨.automatic, 0⟩ ∧
      ¬(1 ≤ (s.rooms.get 0).effective)) ∧
    (∃ s : State, s.powered = true ∧ (s.zones.get 0).state = .predischarge ∧ (s.zones.get 0).countdown = some ⟨.manual, 0⟩) ∧
    (∃ s : State, s.powered = true ∧ (s.zones.get 0).state = .heldOccupied ∧ (s.zones.get 0).holdDl = some 0 ∧ 0 ≤ s.now) :=
  ⟨⟨zoned { Zone.start with state := .predischarge, countdown := some ⟨.automatic, 0⟩ } (roomed { Room.empty with listed := [listed77] }),
     by decide +kernel⟩,
   ⟨zoned { Zone.start with state := .predischarge, countdown := some ⟨.automatic, 0⟩ } fresh, by decide +kernel⟩,
   ⟨zoned { Zone.start with state := .predischarge, override := true, countdown := some ⟨.manual, 0⟩ } fresh, by decide +kernel⟩,
   ⟨zoned { Zone.start with state := .heldOccupied, holdDl := some 0 } fresh, by decide +kernel⟩⟩

theorem witness_OccupancyReportEndsOccupiedHold :
    (∃ s : State, (s.zones.get 0).state = .heldOccupied ∧ (s.rooms.get 0).effective = 0) ∧
    (∃ s : State, (s.zones.get 0).state = .heldOccupied ∧ 0 < (s.rooms.get 0).effective) :=
  ⟨⟨zoneIn .heldOccupied, by decide +kernel⟩,
   ⟨zoned { Zone.start with state := .heldOccupied } (roomed { Room.empty with unknown := true }), by decide +kernel⟩⟩

theorem witness_AutomaticCountdownBeginsAndGrows_grows :
    (∃ s : State, (s.zones.get 0).state = .held ∧ (s.zones.get 0).countdown = some ⟨.automatic, 5⟩ ∧ (s.rooms.get 0).effective = 1 ∧
      (s.zones.get 0).peak < 1) ∧
    (∃ s : State, (s.zones.get 0).state = .predischarge ∧ (s.zones.get 0).countdown = some ⟨.automatic, 5⟩ ∧
      (s.rooms.get 0).effective = 1 ∧ 1 ≤ (s.zones.get 0).peak) ∧
    (∃ s : State, (s.zones.get 0).state = .predischarge ∧ (s.zones.get 0).countdown = some ⟨.manual, 5⟩ ∧
      (s.rooms.get 0).effective = 1) :=
  ⟨⟨zoned { Zone.start with state := .held, countdown := some ⟨.automatic, 5⟩ } (roomed { Room.empty with evidence := true }),
     by decide +kernel⟩,
   ⟨zoned { Zone.start with state := .predischarge, peak := 1, countdown := some ⟨.automatic, 5⟩ }
     (roomed { Room.empty with evidence := true }), by decide +kernel⟩,
   ⟨zoned { Zone.start with state := .predischarge, countdown := some ⟨.manual, 5⟩ } (roomed { Room.empty with evidence := true }),
     by decide +kernel⟩⟩

/-- A latch that is set; the first latch of a quiet zone, with no grant anywhere and with one; a latch in every other state. -/
theorem witness_AutomaticCountdownBeginsAndGrows_first :
    (∀ isB ∈ [true, false],
      let x := { Zone.start with state := .alert, latchA := !isB, latchB := isB }
      (zoned x fresh).zones.get 0 = x ∧ (if isB then x.latchB else x.latchA) = true) ∧
    (site.zones.get 0 = Zone.start ∧ Zone.start.state = .quiet ∧ Zone.start.latchA = false ∧ Zone.start.latchB = false ∧
      (∀ d, site.grants.get d = none)) ∧
    (let s := granted (entry77 .awaitDelay) site;
      s.zones.get 0 = Zone.start ∧ s.grants.get 0 = some (entry77 .awaitDelay)) ∧
    (∀ st ∈ [ZoneState.predischarge, .held, .heldOccupied, .release, .soak, .vent, .discharged, .releaseFailed, .isolated],
      let x := { Zone.start with state := st }
      (zoned x fresh).zones.get 0 = x ∧ x.latchA = false ∧ x.latchB = false ∧ x.state ≠ .quiet ∧ x.state ≠ .alert) := by
  decide +kernel

/-- The default zone with nobody inside counts 30 s, whichever detector comes second; its abort button is idle, or held. -/
theorem witness_AutomaticCountdownBeginsAndGrows :
    ∀ b ∈ [Band.normal, Band.abort], ∀ isB ∈ [true, false],
      let s := zoned { Zone.start with state := .alert, latchA := isB, latchB := !isB }
        { site with lines := put site.lines 52 { LineRecord.start with confirmed := b } }
      (s.zones.get 0).state = .alert ∧ (if isB then (s.zones.get 0).latchA else (s.zones.get 0).latchB) = true ∧
      (if isB then (s.zones.get 0).latchB else (s.zones.get 0).latchA) = false ∧
      (s.rooms.get 0).effective = 0 ∧
      min ((s.zoneSettings 0).tMax * 1000) (((s.zoneSettings 0).base + (s.zoneSettings 0).ext * 0) * 1000) = 30000 ∧ 0 < 30000 ∧
      s.ownBand (stationLine 0) = b := by decide +kernel

/-- An abort finds a countdown, one under an override, an occupied hold and a quiet zone; a hold ends with a countdown of 0. -/
theorem witness_StationBandsHoldAndResume :
    ∀ x ∈ [{ Zone.start with state := .predischarge, countdown := some ⟨.automatic, 5⟩ },
        { Zone.start with state := .predischarge, override := true, countdown := some ⟨.manual, 5⟩ },
        { Zone.start with state := .heldOccupied, holdDl := some 0 }, Zone.start,
        { Zone.start with state := .held, countdown := some ⟨.automatic, 0⟩ }, { Zone.start with state := .alert }],
      ((zoned x fresh).zones.get 0) = x ∧ 0 < max 0 (((zoned x fresh).zoneSettings 0).tResume * 1000) ∧
      0 < ((zoned x fresh).zoneSettings 0).tMan := by decide +kernel

theorem witness_SoakVentResetAndIsolationMoveTheZone_soak :
    (∃ s : State, s.powered = true ∧ (s.zones.get 0).stageDl = some 0 ∧ 0 ≤ s.now ∧ (s.zones.get 0).state = .soak) ∧
    (∃ s : State, s.powered = true ∧ (s.zones.get 0).stageDl = some 0 ∧ 0 ≤ s.now ∧ (s.zones.get 0).state = .vent) :=
  ⟨⟨zoned { Zone.start with state := .soak, stageDl := some 0 } fresh, by decide +kernel⟩,
   ⟨zoned { Zone.start with state := .vent, stageDl := some 0 } fresh, by decide +kernel⟩⟩

/-- Every state a manual release can find, with T_man 10 s and, while it counts, 1 ms left. -/
theorem witness_ReleaseZoneActsByState :
    ∀ st ∈ [ZoneState.quiet, .alert, .predischarge, .held, .heldOccupied, .isolated, .release, .soak, .vent, .discharged, .releaseFailed],
      let s := zoned { Zone.start with state := st, countdown := some ⟨.automatic, 1⟩ } fresh
      s.free ∧ (s.zoneSettings 0).tMan * 1000 = 10000 ∧ 0 < 10000 ∧ (s.zones.get 0).state = st ∧
      (s.zones.get 0).countdown = some ⟨.automatic, 1⟩ ∧ 0 < 1 := by decide +kernel

/-- The bands of zone 1's two detectors and of its station line. -/
def bandsAtZone (a b held : Bool) (s : State) : State :=
  { s with
    lines := put (put (put s.lines (detectorALine 0) { LineRecord.start with confirmed := if a then .alarm else .normal })
      (detectorBLine 0) { LineRecord.start with confirmed := if b then .alarm else .normal })
      (stationLine 0) { LineRecord.start with confirmed := if held then .abort else .normal } }

/-- Each state that a request takes out of, with every combination of detectors in ALARM, the abort idle and held; nobody inside. -/
theorem witness_SoakVentResetAndIsolationMoveTheZone :
    ∀ st ∈ [ZoneState.quiet, .alert, .discharged, .releaseFailed, .isolated],
      ∀ a b held : Bool,
        let s := zoned { Zone.start with state := st } (bandsAtZone a b held site)
        s.free ∧ (s.zones.get 0).state = st ∧ (a = true ↔ s.ownBand (detectorALine 0) = .alarm) ∧
        (b = true ↔ s.ownBand (detectorBLine 0) = .alarm) ∧ (held = true ↔ s.ownBand (stationLine 0) = .abort) ∧
        (s.rooms.get 0).effective = 0 ∧
        min ((s.zoneSettings 0).tMax * 1000) (((s.zoneSettings 0).base + (s.zoneSettings 0).ext * 0) * 1000) = 30000 ∧ 0 < 30000 := by
  decide +kernel

/-! ## Witnesses: release actuators -/

/-- The first and the third attempt at an actuator whose zone releases, with no other actuator outstanding, and with one. -/
theorem witness_PulseEndConcludesOrRetries :
    ∀ n ∈ [1, 3], ∀ more ∈ [[], [(7 : ActId)]],
      let s := zoned { Zone.start with state := .release, outstanding := 0 :: more }
        { fresh with
          acts := put fresh.acts 0 ⟨.firing, some 0, false, none, none, n, some 0, false⟩
          bank := { Bank.start with inFlight := [0], pulseCount := 1 } }
      s.powered = true ∧ (s.acts.get 0).state = .firing ∧ (s.acts.get 0).pulseEnd = some 0 ∧ 0 ≤ s.now ∧
      (s.acts.get 0).zone = some 0 ∧ (0 : ActId) ∉ s.bank.queue ∧ (s.zones.get 0).state = .release ∧
      (s.zones.get 0).outstanding.filter (fun b => b ≠ 0) = more ∧ (s.acts.get 0).attempts = n := by decide +kernel

theorem witness_PulsesPausesTestsAndRearm :
    (∃ s : State, s.bank.queue.Nodup ∧ s.bank.inFlight.length ≤ 2 ∧ s.bank.pulseCount ≤ 6 ∧ s.bank.pauseEnd = none ∧
      min s.bank.queue.length (min (2 - s.bank.inFlight.length) (6 - s.bank.pulseCount)) = 1) ∧
    (∃ s : State, s.bank.queue.Nodup ∧ s.bank.inFlight.length ≤ 2 ∧ s.bank.pulseCount ≤ 6 ∧ s.bank.pauseEnd ≠ none) ∧
    (∃ s : State, s.bank.inFlight = [] ∧ s.bank.pulseCount = 6 ∧ s.bank.pauseEnd = none) ∧
    (∃ s : State, s.bank.inFlight ≠ [] ∨ s.bank.pulseCount < 6) ∧
    (∃ s : State, s.powered = true ∧ s.bank.pauseEnd = some 0 ∧ 0 ≤ s.now ∧ s.bank.inFlight = [] ∧ s.bank.queue.Nodup) :=
  ⟨⟨{ fresh with bank := ⟨[0, 31, 7], [], 5, none⟩ }, by decide +kernel⟩, ⟨{ fresh with bank := ⟨[0], [], 6, some 1⟩ }, by decide +kernel⟩,
   ⟨{ fresh with bank := ⟨[], [], 6, none⟩ }, by decide +kernel⟩, ⟨{ fresh with bank := ⟨[], [], 5, none⟩ }, by decide +kernel⟩,
   ⟨{ fresh with bank := ⟨[0, 31, 7], [], 6, some 0⟩ }, by decide +kernel⟩⟩

theorem witness_PulsesPausesTestsAndRearm_tests :
    (∃ (s : State) (x : Actuator), s.powered = true ∧ s.acts.get 0 = x ∧ x.state = .armed ∧ x.nextTest = some 0 ∧ 0 ≤ s.now ∧
      (∀ b, (s.acts.get b).state ≠ .queued ∧ (s.acts.get b).state ≠ .firing) ∧ x.fault = true) ∧
    (∀ st ∈ [ActState.fired, .failed],
      let s := zoned { Zone.start with state := .releaseFailed }
        { fresh with acts := put fresh.acts 0 ⟨st, some 0, false, none, none, 3, none, false⟩ }
      s.free ∧ (s.acts.get 0).state = st ∧ (s.acts.get 0).zone = some 0 ∧ (s.zones.get 0).state = .releaseFailed) ∧
    (∃ (s : State) (x : Actuator), s.free ∧ s.acts.get 0 = x ∧ x.state = .fired ∧ x.zone = none) :=
  ⟨⟨{ fresh with acts := put fresh.acts 0 ⟨.armed, some 0, true, some .short, some 0, 0, none, false⟩ },
     ⟨.armed, some 0, true, some .short, some 0, 0, none, false⟩, by decide +kernel⟩, by decide +kernel,
   ⟨{ fresh with acts := put fresh.acts 0 ⟨.fired, none, false, none, none, 1, none, true⟩ },
     ⟨.fired, none, false, none, none, 1, none, true⟩, by decide +kernel⟩⟩

/-! ## Witnesses: occupancy and lone working -/

theorem witness_LoneWorkerTimerFollowsPressesAndDeadlines_presses :
    (∃ s : State, (s.rooms.get 0).lone ≠ .off) ∧ (∃ s : State, (s.rooms.get 0).lone = .off) :=
  ⟨⟨roomed { Room.empty with lone := .prompt 0 }, by decide +kernel⟩, ⟨fresh, by decide +kernel⟩⟩

theorem witness_LoneWorkerTimerFollowsPressesAndDeadlines :
    (∃ (s : State) (e : ListedEntry), s.powered = true ∧ (s.rooms.get 0).lone = .running 0 ∧ 0 ≤ s.now ∧ (s.rooms.get 0).listed = [e]) ∧
    (∃ s : State, s.powered = true ∧ (s.rooms.get 0).lone = .prompt 0 ∧ 0 ≤ s.now) :=
  ⟨⟨roomed { Room.empty with listed := [listed77], lone := .running 0 }, listed77, by decide +kernel⟩,
   ⟨roomed { Room.empty with lone := .prompt 0 }, by decide +kernel⟩⟩

theorem witness_PassagesMoveSlots :
    (∀ n ∈ [14, 15, 16],
      let s := granted { entry77 .released with holders := [⟨5, 77⟩, ⟨6, 78⟩] }
        (roomed { Room.empty with listed := List.replicate n ⟨9, 9, none, false⟩ })
      s.role 0 = .strongroom 0 ∧ s.hasVestibule 0 = false ∧
      s.grants.get 0 = some { entry77 .released with holders := [⟨5, 77⟩, ⟨6, 78⟩] } ∧ s.location 5 = .outside ∧
      s.location 6 = .outside ∧ ([5, 6] : List SlotId).Nodup ∧ sparseOk .outside s.locations = true ∧
      (s.rooms.get 0).listed.length = n ∧ n ≤ 16) ∧
    (∃ (s : State) (g : Grant) (h : Holder), s.role 0 = .strongroom 0 ∧ s.hasVestibule 0 = false ∧ s.grants.get 0 = some g ∧
      g.holders = [h] ∧ g.purpose = .exit ∧ s.location h.slot = .inStrongroom 0 ∧ sparseOk .outside s.locations = true) ∧
    (∃ s : State, (s.rooms.get 0).listed = []) ∧
    (∃ (s : State) (e : ListedEntry) (rest : List ListedEntry), (s.rooms.get 0).listed = e :: rest ∧
      (s.rooms.get 0).assumedOut.length = 8) ∧
    (∃ (s : State) (gone : List Occupant), (s.vests.get 1).occupants = gone ∧ gone.length = 2 ∧
      (∀ o ∈ gone, s.location o.slot = .inVestibule 1) ∧ (gone.map (fun o => o.slot)).Nodup ∧
      (s.rooms.get 1).listed.length + gone.length ≤ 16) :=
  ⟨by decide +kernel,
   ⟨granted { entry77 .released with purpose := .exit }
     { roomed { Room.empty with listed := [listed77] } with locations := [(5, .inStrongroom 0)] },
     { entry77 .released with purpose := .exit }, ⟨5, 77⟩, by decide +kernel⟩,
   ⟨fresh, by decide +kernel⟩,
   ⟨roomed { Room.empty with listed := [listed77], assumedOut := List.replicate 8 ⟨6, 78, none, none⟩ }, listed77, [],
     by decide +kernel⟩,
   ⟨{ site with
       locations := [(5, .inVestibule 1), (6, .inVestibule 1)]
       rooms := put site.rooms 1 { Room.empty with listed := List.replicate 14 listed77 }
       vests := put site.vests 1 ⟨.inbound, [⟨5, 77, none⟩, ⟨6, 78, none⟩]⟩ }, [⟨5, 77, none⟩, ⟨6, 78, none⟩], by decide +kernel⟩⟩

theorem witness_ClearAndFlushRemoveOccupants :
    (∃ s : State, s.free ∧ (∃ e ∈ (s.rooms.get 0).listed, e.slot = 5) ∧ sparseOk .outside s.locations = true) ∧
    (∃ s : State, s.free ∧ (∀ e ∈ (s.rooms.get 0).listed, e.slot ≠ 2047)) :=
  ⟨⟨{ roomed { Room.empty with listed := [listed77] } with locations := [(5, .inStrongroom 0)] }, by decide +kernel⟩,
   ⟨fresh, by decide +kernel⟩⟩

/-! ## Witnesses: credentials and access decisions -/

/-- Row 0 with nothing staged, open or under commit. -/
abbrev noneStaged : Vector Credential 8 := Vector.replicate 8 Credential.empty

/-- No slot of the row is touched. -/
abbrev untouched : Vector Bool 8 := Vector.replicate 8 false

theorem witness_RowProgrammingCommitsTouchedSlots :
    (∃ s : State, s.free ∧ s.stage = .idle) ∧
    (∃ s : State, s.free ∧ s.stage = .opened 255 noneStaged untouched ∧ slotRow 2047 = 255) ∧
    (∃ (s : State) (staged : Vector Credential 8), s.free ∧ s.stage = .opened 0 staged untouched ∧
      ∃ i j, i ≠ j ∧ (staged.get i).badge ≠ 0 ∧ (staged.get i).badge = (staged.get j).badge) ∧
    (∃ (s : State) (staged : Vector Credential 8) (touched : Vector Bool 8), s.free ∧ s.stage = .opened 0 staged touched ∧
      s.duplicates 0 staged = false ∧
      ∃ j, touched.get j = true ∧ (staged.get j).badge ≠ (s.nv.credential (rowSlot 0 j)).badge ∧
        s.location (rowSlot 0 j) ≠ .outside) ∧
    (∃ (s : State) (staged : Vector Credential 8), s.free ∧ s.stage = .opened 0 staged untouched ∧
      ∃ (j : Fin 8) (slot : SlotId), (staged.get j).badge ≠ 0 ∧ slotRow slot ≠ 0 ∧
        (s.nv.credential slot).badge = (staged.get j).badge) ∧
    (∃ (s : State) (staged : Vector Credential 8) (touched : Vector Bool 8), s.free ∧ s.stage = .opened 0 staged touched ∧
      s.duplicates 0 staged = false ∧
      ∃ j d g, touched.get j = true ∧ (staged.get j).badge ≠ (s.nv.credential (rowSlot 0 j)).badge ∧
        s.grants.get d = some g ∧ (∃ h ∈ g.holders, h.slot = rowSlot 0 j)) ∧
    (∃ s : State, s.free ∧ s.stage = .opened 0 noneStaged untouched ∧ s.duplicates 0 noneStaged = false ∧
      s.occupantBlocks 0 noneStaged untouched = false) ∧
    (∃ (s : State) (touched : Vector Bool 8), s.powered = true ∧ s.store.running = some ⟨.commit 0, 0⟩ ∧ 0 ≤ s.now ∧
      s.stage = .committing 0 noneStaged touched ∧ sparseOk Credential.empty s.nv.credentials = true ∧ touched.get 0 = true ∧
      touched.get 7 = false) :=
  ⟨⟨fresh, by decide +kernel⟩, ⟨{ fresh with stage := .opened 255 noneStaged untouched }, by decide +kernel⟩,
   ⟨{ fresh with stage := .opened 0 (Vector.replicate 8 { Credential.empty with badge := 1 }) untouched },
     Vector.replicate 8 { Credential.empty with badge := 1 }, by decide +kernel⟩,
   ⟨{ fresh with
       stage := .opened 0 (put noneStaged 5 { Credential.empty with badge := 9 }) (put untouched 5 true), locations := [(5, .inStrongroom 0)] },
     put noneStaged 5 { Credential.empty with badge := 9 }, put untouched 5 true, by decide +kernel⟩,
   ⟨{ fresh with
       stage := .opened 0 (put noneStaged 0 { Credential.empty with badge := 9 }) untouched
       nv := { Nv.blank with credentials := [(8, { Credential.empty with badge := 9 })] } },
     put noneStaged 0 { Credential.empty with badge := 9 }, by decide +kernel, by decide +kernel, 0, 8, by decide +kernel⟩,
   ⟨{ granted (entry77 .awaitDelay) fresh with
       stage := .opened 0 (put noneStaged 5 { Credential.empty with badge := 9 }) (put untouched 5 true) },
     put noneStaged 5 { Credential.empty with badge := 9 }, put untouched 5 true, by decide +kernel, by decide +kernel,
     by decide +kernel, 5, 0, entry77 .awaitDelay, by decide +kernel, by decide +kernel, by decide +kernel, by decide +kernel⟩,
   ⟨{ fresh with stage := .opened 0 noneStaged untouched }, by decide +kernel⟩,
   ⟨{ fresh with stage := .committing 0 noneStaged (put untouched 0 true), store := ⟨some ⟨.commit 0, 0⟩, [], []⟩ },
     put untouched 0 true, by decide +kernel⟩⟩

/-- The hypotheses of the entry clause, by day, with 15 listed; and those of the exit clause. -/
theorem witness_PresentReleasesDoor :
    (∃ (s : State) (slot : SlotId) (c : Credential), s.free ∧ s.sup.ready = true ∧ s.role 0 = .strongroom 0 ∧
      s.hasVestibule 0 = false ∧ (s.doorSettings 0).grantMode = .auto ∧ s.conflicts 77 = false ∧
      s.nv.findBadge 77 = some (slot, c) ∧ c.state = .active ∧ c.windows = 0 ∧ s.clock.mode = .day ∧
      c.privileges.getLsbD (0 : RoomId).val = true ∧ s.freeze = false ∧ (s.zones.get 0).state = .quiet ∧
      s.location slot = .outside ∧ (s.rooms.get 0).listed.length < 16 ∧ (s.doors.get 0).state = .secure ∧
      (s.doors.get 0).mode = .automatic ∧ s.grants.get 0 = none ∧ s.doorBand 0 = .bolted) ∧
    (∃ (s : State) (slot : SlotId) (c : Credential), s.free ∧ s.sup.ready = true ∧ s.role 0 = .strongroom 0 ∧
      s.hasVestibule 0 = false ∧ s.conflicts 77 = false ∧ s.nv.findBadge 77 = some (slot, c) ∧ s.grants.get 0 = none ∧
      s.location slot = .inStrongroom 0 ∧ (s.doors.get 0).state = .secure ∧ (s.doors.get 0).mode = .automatic ∧
      s.doorBand 0 = .bolted) :=
  ⟨⟨roomed { Room.empty with listed := List.replicate 15 ⟨9, 9, none, false⟩ }, 5,
     ⟨77, .active, 0xFFF, 0, ⟨true, false, false, true⟩⟩, by decide +kernel⟩,
   ⟨{ roomed { Room.empty with listed := [listed77] } with locations := [(5, .inStrongroom 0)] }, 5,
     ⟨77, .active, 0xFFF, 0, ⟨true, false, false, true⟩⟩, by decide +kernel⟩⟩

/-- The chain as the statement writes it. -/
def firstFailure (s : State) (slot : SlotId) (c : Credential) : Option Reason :=
  if c.state = .suspended then some Reason.suspended
  else if c.windows ≠ 0 ∧ ¬(s.clock.valid = true ∧ ∃ w : WindowId, c.windows.getLsbD w.val = true ∧ s.clock.windows.get w = true) then
    some .outsideWindow
  else if s.clock.mode = .afterHours ∧ c.flags.afterHours = false then some .outOfHours
  else if c.privileges.getLsbD (0 : RoomId).val = false then some .noPrivilege
  else if s.freeze = true ∧ c.flags.emergencyCrew = false then some .frozen
  else if (s.zones.get 0).state.refusesEntry c.flags.emergencyCrew = true then some .zoneHazard
  else if s.location slot ≠ .outside then some .passback
  else if 16 ≤ (s.rooms.get 0).listed.length then some .strongroomFull
  else if (s.doors.get 0).state ≠ .secure ∨ (s.doors.get 0).mode = .manual then some .doorUnavailable
  else none

/-- The site with one record in slot 5. -/
def recorded (c : Credential) (s : State) : State := { s with nv := { s.nv with credentials := [(5, c)] } }

/-- Each step of the chain fails first somewhere. -/
theorem witness_PresentDeniedByFirstFailingStep :
    ∀ x ∈ ([(⟨77, .suspended, 1, 0, ⟨true, false, false, true⟩⟩, site, .suspended),
        (⟨77, .active, 1, 0x8000, ⟨true, false, false, true⟩⟩, site, .outsideWindow),
        (⟨77, .active, 1, 0, ⟨false, false, false, true⟩⟩, { site with clock := WeekClock.cold }, .outOfHours),
        (⟨77, .active, 0xFFE, 0, ⟨true, false, false, true⟩⟩, site, .noPrivilege),
        (⟨77, .active, 1, 0, ⟨true, false, false, true⟩⟩, { site with freeze := true }, .frozen),
        (⟨77, .active, 1, 0, ⟨true, true, false, true⟩⟩, zoned { Zone.start with state := .vent } site, .zoneHazard),
        (⟨77, .active, 1, 0, ⟨true, false, false, true⟩⟩, { site with locations := [(5, .inStrongroom 11)] }, .passback),
        (⟨77, .active, 1, 0, ⟨true, false, false, true⟩⟩, roomed { Room.empty with listed := List.replicate 16 listed77 },
          .strongroomFull),
        (⟨77, .active, 1, 0, ⟨true, false, false, true⟩⟩, doored { Door.unused with state := .relocking }, .doorUnavailable)] :
        List (Credential × State × Reason)),
      let s := recorded x.1 x.2.1
      s.free ∧ s.sup.ready = true ∧ s.role 0 = .strongroom 0 ∧ s.hasVestibule 0 = false ∧ s.grants.get 0 = none ∧
      s.conflicts 77 = false ∧ s.nv.findBadge 77 = some (5, x.1) ∧ firstFailure s 5 x.1 = some x.2.2 := by decide +kernel

/-- The settings of door 1 with this grant mode. -/
def gated (m : GrantMode) (s : State) : State :=
  { s with nv := { s.nv with doors := put s.nv.doors 0 (some { DoorSettings.default with role := .strongroom 0, grantMode := m }) } }

theorem witness_GrantModeAndPairDecideEntry :
    (∃ (s : State) (r : Request), s.link.outstanding = some r ∧ (s.doorSettings 0).grantMode = .delayed ∧ s.hostPresent = true) ∧
    (∃ (s : State) (r : Request), s.link.outstanding = some r ∧ (s.doorSettings 0).grantMode = .confirm ∧ s.hostPresent = true) ∧
    (∃ (s : State) (r : Request), s.link.outstanding = some r ∧ (s.doorSettings 0).grantMode = .confirm ∧ s.hostPresent = false ∧
      s.grants.get 0 = none) ∧
    (∃ (s : State) (r : Request), s.link.outstanding = some r ∧ (s.doorSettings 0).grantMode = .auto) ∧
    (∃ (s : State) (r : Request), s.link.outstanding = some r ∧ (s.doorSettings 0).grantMode = .delayed ∧ s.hostPresent = false) ∧
    (∃ (s : State) (w : WaitingPresent) (c : Credential) (r : Request), s.link.outstanding = some r ∧ w.owed = true ∧ w.door = 0 ∧
      s.grants.get 0 = none ∧ s.clock.mode = .afterHours ∧ (s.rooms.get 0).listed = [] ∧ c.flags.solo = false ∧
      c.flags.emergencyCrew = false) :=
  ⟨⟨gated .delayed { busy site with hostPresent := true }, ⟨1, 9⟩, by decide +kernel⟩,
   ⟨gated .confirm { busy site with hostPresent := true }, ⟨1, 9⟩, by decide +kernel⟩,
   ⟨gated .confirm (busy site), ⟨1, 9⟩, by decide +kernel⟩, ⟨busy site, ⟨1, 9⟩, by decide +kernel⟩,
   ⟨gated .delayed (busy site), ⟨1, 9⟩, by decide +kernel⟩,
   ⟨{ busy site with clock := WeekClock.cold }, ⟨0, .outside, 77, true⟩, Credential.empty, ⟨1, 9⟩, by decide +kernel⟩⟩

/-- Badge 77 waits for a partner at door 1, by day; badge 78 presents itself, or 77 does again; the host is absent. -/
theorem witness_GrantModeAndPairDecideEntry_pair :
    (let s := granted (entry77 .awaitPartner) (busy site);
      s.link.outstanding = some ⟨1, 9⟩ ∧ s.grants.get 0 = some (entry77 .awaitPartner) ∧
      (entry77 .awaitPartner).recheck = none ∧ (entry77 .awaitPartner).holders = [⟨5, 77⟩] ∧
      (∃ i k, s.judge 0 (.single 0) true 2 77 = .passed i k) ∧ (s.doorSettings 0).grantMode = .auto ∧ s.doorBand 0 = .bolted) ∧
    (let s := { granted (entry77 .awaitPartner) (busy site) with clock := WeekClock.cold, freeze := true };
      s.judge 0 (.single 0) true 2 77 = .denied .frozen ∧ s.clock.mode = .afterHours ∧ (s.rooms.get 0).listed = []) ∧
    (let s := granted (entry77 .awaitPartner) (gated .confirm (busy site));
      s.link.outstanding = some ⟨1, 9⟩ ∧ (s.doorSettings 0).grantMode = .confirm ∧ s.hostPresent = false ∧
      s.grants.get 0 = some (entry77 .awaitPartner)) :=
  ⟨⟨rfl, by decide +kernel, rfl, rfl,
     ⟨5, ⟨77, .active, 0xFFF, 0, ⟨true, false, false, true⟩⟩, by decide +kernel⟩, by decide +kernel, by decide +kernel⟩,
   by decide +kernel, by decide +kernel⟩

/-- Badge 77 stands in row 0 under commit, and badge 9 is staged for slot 2047; badges 79, 0 and 4294967295 find no record. -/
theorem witness_DeferredRequestsAreTakenAfresh_first :
    (let s := { site with stage := .committing 0 noneStaged untouched };
      s.free ∧ s.sup.ready = true ∧ s.role 0 ≠ .unused ∧ (s.nv.credential (rowSlot 0 5)).badge = 77) ∧
    (let s := { site with stage := .committing 255 (put noneStaged 7 { Credential.empty with badge := 9 }) (put untouched 7 true) };
      s.free ∧ s.sup.ready = true ∧ s.role 3 ≠ .unused ∧ (put untouched 7 true).get 7 = true ∧
      ((put noneStaged 7 { Credential.empty with badge := 9 }).get 7).badge = 9) ∧
    (site.free ∧ site.sup.ready = true ∧ site.role 0 ≠ .unused ∧ site.commitRunning = false ∧
      (∀ e ∈ site.nv.credentials, e.2.badge ≠ 79)) := by decide +kernel

theorem witness_DeferredRequestsAreTakenAfresh :
    (∃ (s : State) (w : WaitingPresent), s.powered = true ∧ s.commitRunning = false ∧ s.waitPresents[0]? = some w) ∧
    (∃ s : State, s.free ∧ s.sup.ready = true) ∧ (∃ s : State, s.free ∧ s.sup.ready = false) ∧
    (∃ s : State, s.free ∧ s.slotCommitting 2047 = true) ∧
    (∀ owed ∈ [true, false], ∃ (s : State) (w : WaitingGet) (r : Request), s.powered = true ∧ s.commitRunning = false ∧
      s.waitGets[0]? = some w ∧ s.link.outstanding = some r ∧ w.owed = owed) :=
  ⟨⟨{ site with waitPresents := [⟨0, .inside, 77, true⟩] }, ⟨0, .inside, 77, true⟩, by decide +kernel⟩, ⟨site, by decide +kernel⟩,
   ⟨fresh, by decide +kernel⟩, ⟨{ fresh with stage := .committing 255 noneStaged untouched }, by decide +kernel⟩,
   fun owed _ => ⟨{ busy site with waitGets := [⟨2047, owed⟩] }, ⟨2047, owed⟩, ⟨1, 9⟩, rfl, rfl, rfl, rfl, rfl⟩⟩

/-- Badge 77 waits at door 1 in this stage, its deadline reached. -/
def waiting77 (st : GrantStage) : State := granted (entry77 st) site

theorem witness_WaitingGrantEndsByItsCommand :
    (∀ st ∈ [GrantStage.awaitDelay, .awaitConfirm, .awaitPartner],
      (waiting77 st).free ∧ (waiting77 st).grants.get 0 = some (entry77 st) ∧ (entry77 st).recheck = none ∧
      (waiting77 st).recheckVerdict 0 (entry77 st) = none ∧ ((waiting77 st).doors.get 0).state = .secure ∧
      (waiting77 st).doorBand 0 = .bolted ∧ (entry77 st).stage = st ∧ (entry77 st).deadline = some 0 ∧ 0 ≤ (waiting77 st).now) ∧
    (∃ (s : State) (g : Grant), s.powered = true ∧ s.grants.get 0 = some g ∧ s.recheckVerdict 0 g = none ∧
      (s.doors.get 0).state = .secure ∧ s.doorBand 0 = .bolted ∧ s.commitRunning = false ∧ g.recheck = some ⟨false⟩) :=
  ⟨by decide +kernel,
   ⟨granted { entry77 .awaitDelay with recheck := some ⟨false⟩ } site, { entry77 .awaitDelay with recheck := some ⟨false⟩ },
     by decide +kernel⟩⟩

/-- The re-check of badge 77, where the freeze denies it, and where a commit of its row defers it; a CONFIRM's own that waited. -/
theorem witness_WaitingGrantEndsByItsCommand_fails :
    (∀ st ∈ [GrantStage.awaitDelay, .awaitConfirm], ∀ owed ∈ [none, some ⟨false⟩, some ⟨true⟩],
      let g := { entry77 st with recheck := owed }
      let s := { granted g (busy site) with freeze := true }
      s.grants.get 0 = some g ∧ s.recheckVerdict 0 g = some (.denied .frozen) ∧ s.powered = true ∧ s.commitRunning = false ∧
      s.link.outstanding = some ⟨1, 9⟩ ∧ g.deadline = some 0 ∧ 0 ≤ s.now ∧ { s with link := site.link }.free) ∧
    (∀ st ∈ [GrantStage.awaitDelay, .awaitConfirm],
      let s := { waiting77 st with stage := .committing 0 noneStaged untouched }
      s.free ∧ s.grants.get 0 = some (entry77 st) ∧ s.recheckVerdict 0 (entry77 st) = some .deferred ∧
      (entry77 st).deadline = some 0 ∧ 0 ≤ s.now) ∧
    (let g := { entry77 .awaitConfirm with recheck := some ⟨true⟩ };
      let s := granted g (busy site);
      s.powered = true ∧ s.grants.get 0 = some g ∧ s.recheckVerdict 0 g = none ∧ (s.doors.get 0).state = .secure ∧
      s.doorBand 0 = .bolted ∧ s.commitRunning = false ∧ s.link.outstanding = some ⟨1, 9⟩) := by decide +kernel

/-- One holder at a single door: a badge of the row under commit, one without a record, and one with. -/
theorem witness_WaitingGrantEndsByItsCommand_verdict :
    site.role 0 = .strongroom 0 ∧ site.hasVestibule 0 = false ∧ (entry77 .awaitDelay).holders = [⟨5, 77⟩] ∧
    ({ site with stage := .committing 0 noneStaged untouched } : State).conflicts 77 = true ∧ site.conflicts 79 = false ∧
    site.nv.findBadge 79 = none ∧ site.conflicts 77 = false ∧
    site.nv.findBadge 77 = some (5, ⟨77, .active, 0xFFF, 0, ⟨true, false, false, true⟩⟩) := by decide +kernel

/-- A grant before RELEASED, and one after it, when the freeze comes. -/
theorem witness_FreezeCancelsEntryGrants :
    (∀ st ∈ [GrantStage.releasing, .released], (waiting77 st).free ∧ (waiting77 st).freeze = false ∧
      (waiting77 st).grants.get 0 = some (entry77 st) ∧ (entry77 st).purpose = .entry) ∧
    (let g := { entry77 .releasing with purpose := .exit };
      (granted g site).free ∧ (granted g site).freeze = false ∧ (granted g site).grants.get 0 = some g ∧ g.purpose = .exit) ∧
    (∃ s : State, s.free ∧ s.freeze = true) :=
  ⟨by decide +kernel, by decide +kernel, ⟨{ site with freeze := true }, by decide +kernel⟩⟩

/-! ## Witnesses: doors and vestibules -/

/-- Door 1 in every automatic state, with and without a released grant, at each of its four bands. -/
theorem witness_AutomaticDoorTakesEachBand :
    (∀ st ∈ [DoorState.secure, .releasing, .released, .opened, .relocking, .insecure],
      ∀ b ∈ [Band.bolted, .unbolted, .opened, .egress], ∀ egress ∈ [false, true],
        let s := bandAt b (doored { Door.unused with state := st, egress := egress })
        s.sup.ready = true ∧ s.role 0 ≠ .unused ∧ s.doorBand 0 = b ∧ (s.doors.get 0).state = st ∧ (s.doors.get 0).egress = egress ∧
        s.grants.get 0 = none) ∧
    (∀ st ∈ [DoorState.releasing, .released],
      let s := granted (entry77 .released) (bandAt .bolted (doored { Door.unused with state := st }))
      s.grants.get 0 = some (entry77 .released) ∧ (entry77 .released).stage.waits = false ∧ (s.doors.get 0).state = st) := by
  decide +kernel

/-- A fault band; the return from one, in LINE_FAULT, with and without latch and MANUAL; a band in an overlay; an UNUSED door. -/
theorem witness_HiddenAndOverlaidDoorsTakeEachBand :
    ((bandAt .egress fresh).role 0 = .unused ∧ (bandAt .egress fresh).band (doorLine 0) = .egress) ∧
    (let s := { site with lines := put site.lines 43 { LineRecord.start with confirmed := .egress } };
      s.sup.ready = true ∧ s.role 19 = .unused ∧ s.doorBand 19 = .egress) ∧
    (let s := granted (entry77 .released) (bandAt .unclassified (doored { Door.unused with state := .released }));
      s.sup.ready = true ∧ s.role 0 ≠ .unused ∧ s.doorBand 0 = .unclassified ∧ s.grants.get 0 = some (entry77 .released) ∧
      (entry77 .released).stage.waits = false) ∧
    (∀ b ∈ [Band.bolted, .unbolted, .opened, .egress],
      ∀ x ∈ [{ Door.unused with state := .lineFault, alarm := true }, { Door.unused with state := .lineFault, latch := true },
          { Door.unused with state := .lineFault, mode := .manual }, { Door.unused with state := .driverLatched, latch := true },
          { Door.unused with state := .manual, mode := .manual, egress := true },
          { Door.unused with state := .manual, mode := .manual, motion := .moving .thrown 9 },
          { Door.unused with state := .manual, mode := .manual, motion := .cooling .withdrawn 9 }],
        let s := bandAt b (doored x)
        s.sup.ready = true ∧ s.role 0 ≠ .unused ∧ s.doorBand 0 = b ∧ s.doors.get 0 = x ∧ s.grantMoving 0 = false) ∧
    Bolt.thrown.reachedAt .bolted = true ∧ Bolt.thrown.reachedAt .opened = false ∧ Bolt.withdrawn.reachedAt .egress = true := by
  decide +kernel

theorem witness_DoorMotionsTripTimeOutAndRelock :
    (∃ (s : State) (x : Door), s.powered = true ∧ s.doors.get 0 = x ∧ x.motion = .moving .thrown 3000 ∧ x.trips = 3 ∧ x.trips < 4) ∧
    (∃ (s : State) (x : Door), s.powered = true ∧ s.doors.get 0 = x ∧ x.motion = .moving .thrown 3000 ∧ x.trips = 4 ∧ 4 ≤ x.trips) ∧
    (∃ (s : State) (x : Door), s.powered = true ∧ s.doors.get 0 = x ∧ ∀ target dl, x.motion ≠ .moving target dl) ∧
    (∃ s : State, s.powered = true ∧ (s.doors.get 0).motion = .cooling .withdrawn 0 ∧ 0 ≤ s.now ∧
      Bolt.withdrawn.reachedAt (s.doorBand 0) = false) :=
  ⟨⟨doored { Door.unused with motion := .moving .thrown 3000, trips := 3 }, { Door.unused with motion := .moving .thrown 3000, trips := 3 },
     by decide +kernel⟩,
   ⟨doored { Door.unused with motion := .moving .thrown 3000, trips := 4 }, { Door.unused with motion := .moving .thrown 3000, trips := 4 },
     by decide +kernel⟩,
   ⟨site, Door.unused, by decide +kernel, by decide +kernel, nofun⟩,
   ⟨doored { Door.unused with motion := .cooling .withdrawn 0 }, by decide +kernel⟩⟩

/-- A withdraw and a throw that time out, one in MANUAL; the release and the held-open deadline. -/
theorem witness_DoorMotionsTripTimeOutAndRelock_timers :
    (∀ x ∈ [{ Door.unused with state := .releasing, bolt := .withdrawn, motion := .moving .withdrawn 0 },
        { Door.unused with state := .relocking, motion := .moving .thrown 0 },
        { Door.unused with state := .insecure, motion := .moving .thrown 0 },
        { Door.unused with state := .manual, mode := .manual, motion := .moving .thrown 0 }],
      let s := bandAt .unbolted (doored x)
      s.powered = true ∧ s.doors.get 0 = x ∧
      (x.motion = .moving .withdrawn 0 ∧ x.state = .releasing ∨
        x.motion = .moving .thrown 0 ∧ (x.state = .relocking ∨ x.state = .insecure ∨ x.state = .manual)) ∧
      0 ≤ s.now ∧ s.doorBand 0 ≠ .bolted) ∧
    (∃ s : State, s.powered = true ∧ (s.doors.get 0).state = .released ∧ (s.doors.get 0).releaseDl = some 0 ∧ 0 ≤ s.now ∧
      s.doorBand 0 ≠ .bolted) ∧
    (∃ s : State, s.powered = true ∧ (s.doors.get 0).state = .opened ∧ (s.doors.get 0).heldOpenDl = some 0 ∧ 0 ≤ s.now) :=
  ⟨by decide +kernel, ⟨bandAt .unbolted (doored { Door.unused with state := .released, releaseDl := some 0 }), by decide +kernel⟩,
   ⟨doored { Door.unused with state := .opened, heldOpenDl := some 0 }, by decide +kernel⟩⟩

/-- A door in MANUAL. -/
def inManual : Door := { Door.unused with state := .manual, mode := .manual }

theorem witness_DoorRequestsModeDriveService :
    (∃ s : State, s.free ∧ s.role 0 ≠ .unused ∧ s.grants.get 0 = none ∧ (s.doors.get 0).mode = .automatic ∧
      (s.doors.get 0).state.overlay = false) ∧
    (∃ (s : State) (g : Grant), s.free ∧ s.role 0 ≠ .unused ∧ s.grants.get 0 = some g) ∧
    (∃ s : State, s.free ∧ s.role 0 ≠ .unused ∧ (s.doors.get 0).mode = .manual ∧ (s.doors.get 0).latch = false ∧
      s.doorBand 0 = .unbolted) ∧
    (∀ x ∈ [{ Door.unused with mode := .automatic }, { Door.unused with mode := .manual, state := .lineFault },
        { Door.unused with mode := .manual, state := .driverLatched }],
      (doored x).free ∧ ((doored x).doors.get 0).mode = x.mode ∧ ((doored x).doors.get 0).state = x.state) ∧
    (∃ s : State, s.free ∧ (s.doors.get 0).mode = .manual ∧ (s.doors.get 0).state = .manual ∧ s.doorBand 0 ≠ .bolted) ∧
    (∃ s : State, s.free ∧ (s.doors.get 0).mode = .manual ∧ (s.doors.get 0).state = .manual ∧ (s.role 0).room = some 0 ∧
      (s.zones.get 0).state.refusesAll = true) ∧
    (∃ s : State, s.free ∧ (s.doors.get 2).mode = .manual ∧ (s.doors.get 2).state = .manual ∧ s.role 2 = .vestibuleOuter 1 ∧
      (s.zones.get 1).state.refusesAll = false ∧ s.strongroomDoor 1 = some 1 ∧ (s.doors.get 1).state = .opened ∧
      (s.doors.get 1).mode = .automatic) ∧
    (∃ s : State, s.free ∧ (s.doors.get 3).mode = .manual ∧ (s.doors.get 3).state = .manual ∧ s.role 3 = .perimeter ∧
      s.doorBand 3 = .bolted) ∧
    (∃ s : State, s.free ∧ s.role 0 ≠ .unused ∧ s.grantMoving 0 = false ∧ (s.doors.get 0).mode = .automatic ∧
      s.doorBand 0 = .unbolted) :=
  ⟨⟨site, by decide +kernel⟩, ⟨waiting77 .awaitDelay, entry77 .awaitDelay, by decide +kernel⟩,
   ⟨bandAt .unbolted (doored inManual), by decide +kernel⟩, by decide +kernel,
   ⟨bandAt .unbolted (doored inManual), by decide +kernel⟩,
   ⟨zoned { Zone.start with state := .soak } (doored inManual), by decide +kernel⟩,
   ⟨{ site with doors := put (put site.doors 2 inManual) 1 { Door.unused with state := .opened } }, by decide +kernel⟩,
   ⟨{ site with doors := put site.doors 3 inManual }, by decide +kernel⟩,
   ⟨bandAt .unbolted site, by decide +kernel⟩⟩

/-- The site with door `d` in MANUAL and the other door of its vestibule in this record. -/
def vestibuleDoors (d other : DoorId) (x : Door) : State := { site with doors := put (put site.doors d inManual) other x }

/-- A THROW at BOLTED; a WITHDRAW at either door of a vestibule with the other OPEN, SECURE, and MANUAL with its bolt thrown. -/
theorem witness_DoorRequestsModeDriveService_other :
    (let s := doored inManual;
      s.free ∧ s.sup.ready = true ∧ s.role 0 ≠ .unused ∧ s.doorBand 0 = .bolted ∧ (s.doors.get 0).mode = .manual ∧
      (s.doors.get 0).state = .manual ∧ s.role 0 = .strongroom 0 ∧ s.hasVestibule 0 = false) ∧
    (∀ p ∈ ([(1, 2), (2, 1)] : List (DoorId × DoorId)), ∀ x ∈ [Door.opening 9 Door.unused, Door.unused, inManual],
      let s := vestibuleDoors p.1 p.2 x
      (s.free ∧ (s.doors.get p.1).mode = .manual ∧ (s.doors.get p.1).state = .manual ∧ s.doorBand p.1 = .bolted) ∧
      (s.zones.get 1).state.refusesAll = false ∧ s.doors.get p.2 = x) ∧
    (∀ x : Door, (vestibuleDoors 2 1 x).role 2 = .vestibuleOuter 1 ∧ (vestibuleDoors 2 1 x).strongroomDoor 1 = some 1 ∧
      (vestibuleDoors 1 2 x).role 1 = .strongroom 1 ∧ (vestibuleDoors 1 2 x).outerDoor 1 = some 2) ∧
    (∀ p ∈ ([(1, 2), (2, 1)] : List (DoorId × DoorId)), ¬(vestibuleDoors p.1 p.2 (Door.opening 9 Door.unused)).countsShut p.2 ∧
      (vestibuleDoors p.1 p.2 Door.unused).countsShut p.2 ∧ (vestibuleDoors p.1 p.2 inManual).countsShut p.2) :=
  ⟨by decide +kernel, by decide +kernel, fun x => (by decide +kernel : site.role 2 = .vestibuleOuter 1 ∧ site.strongroomDoor 1 = some 1 ∧
    site.role 1 = .strongroom 1 ∧ site.outerDoor 1 = some 2), by decide +kernel⟩

theorem witness_PresentDeniedByFirstFailingStep_interlock :
    (∃ (s : State) (w : WaitingPresent), s.strongroomDoor 1 = some 1 ∧ s.outerDoor 1 = some 2 ∧ w.door = 1 ∧
      (s.doors.get 2).state ≠ .secure) ∧
    (∃ (s : State) (w : WaitingPresent), s.strongroomDoor 1 = some 1 ∧ s.outerDoor 1 = some 2 ∧ w.door = 2 ∧
      (s.doors.get 1).state ≠ .secure) :=
  ⟨⟨{ site with doors := put site.doors 2 { Door.unused with state := .opened } }, ⟨1, .inside, 77, true⟩, by decide +kernel⟩,
   ⟨{ site with doors := put site.doors 1 { Door.unused with state := .relocking } }, ⟨2, .outside, 77, true⟩, by decide +kernel⟩⟩

/-- Two occupants in the vestibule of strongroom 2, on their way in this direction. -/
def chamber (dir : Direction) (s : State) : State :=
  { s with locations := [(5, .inVestibule 1), (6, .inVestibule 1)], vests := put s.vests 1 ⟨dir, [⟨5, 77, none⟩, ⟨6, 78, none⟩]⟩ }

/-- The grant of badge 77 for this purpose at a door. -/
def grantAt (d : DoorId) (p : Purpose) (s : State) : State :=
  { s with grants := put s.grants d (some { entry77 .released with purpose := p }) }

theorem witness_VestibulePassagesMoveOccupants :
    (let s := grantAt 2 .entry site;
      s.role 2 = .vestibuleOuter 1 ∧ s.grants.get 2 = some (entry77 .released) ∧ s.location 5 = .outside) ∧
    (let s := grantAt 2 .exit (chamber .outbound site);
      s.role 2 = .vestibuleOuter 1 ∧ s.grants.get 2 = some { entry77 .released with purpose := .exit } ∧
      (s.vests.get 1).occupants = [⟨5, 77, none⟩, ⟨6, 78, none⟩] ∧ sparseOk .outside s.locations = true) ∧
    (let s := { grantAt 1 .exit site with
        rooms := put site.rooms 1 { Room.empty with listed := [listed77] }, locations := [(5, .inStrongroom 1)] };
      s.role 1 = .strongroom 1 ∧ s.hasVestibule 1 = true ∧ s.grants.get 1 = some { entry77 .released with purpose := .exit } ∧
      s.location 5 = .inStrongroom 1 ∧ (s.zones.get 1).state ≠ .heldOccupied) ∧
    (let s := { grantAt 1 .exit site with
        rooms := put site.rooms 1 { Room.empty with listed := [listed77] }, locations := [(5, .inStrongroom 1)]
        zones := put site.zones 1 { Zone.start with state := .predischarge, peak := 1, countdown := some ⟨.automatic, 9⟩ } };
      (s.zones.get 1).state ≠ .heldOccupied ∧
      (∀ c ∈ (s.zones.get 1).countdown, c.kind = .automatic → ((passage 1 s).rooms.get 1).effective ≤ (s.zones.get 1).peak)) ∧
    (site.role 2 = .vestibuleOuter 1 ∧ (site.vests.get 1).occupants = [] ∧
      ((chamber .inbound site).vests.get 1).occupants = [⟨5, 77, none⟩, ⟨6, 78, none⟩] ∧
      sparseOk .outside (chamber .inbound site).locations = true) ∧
    (site.strongroomDoor 1 = some 1 ∧ site.outerDoor 1 = some 2 ∧ site.role 1 = .strongroom 1 ∧ site.role 2 = .vestibuleOuter 1 ∧
      (site.vests.get 1).direction ≠ .outbound) ∧
    (let s := chamber .outbound site;
      (s.vests.get 1).direction = .outbound ∧ (s.doors.get 1).state = .secure ∧ (s.doors.get 2).state = .secure ∧
      s.doorBand 2 = .bolted ∧ s.grants.get 2 = none) := by decide +kernel

/-- The later steps at the outer door of a vestibule, as the statement writes them. -/
def outerSteps (d : DoorId) (v : RoomId) (slot : SlotId) (s : State) : Option Reason :=
  if s.location slot ≠ .outside then some .passback
  else if 16 < (s.rooms.get v).listed.length + (s.vests.get v).occupants.length + 1 then some .strongroomFull
  else if s.grants.get d ≠ none then some .doorBusy
  else if ¬s.doorReady d then some .doorUnavailable
  else if (s.vests.get v).direction = .outbound then some .direction
  else if 2 ≤ (s.vests.get v).occupants.length then some .vestibuleFull
  else if ¬s.secureAt (s.strongroomDoor v) then some .interlock
  else none

/-- The later steps at the inner door of a vestibule, as the statement writes them. -/
def innerSteps (d : DoorId) (v : RoomId) (slot : SlotId) (s : State) : Option Reason :=
  if ∀ o ∈ (s.vests.get v).occupants, o.slot ≠ slot then some .passback
  else if 16 < (s.rooms.get v).listed.length + (s.vests.get v).occupants.length then some .strongroomFull
  else if s.grants.get d ≠ none then some .doorBusy
  else if ¬s.doorReady d then some .doorUnavailable
  else if (s.vests.get v).direction ≠ .inbound then some .direction
  else if ¬s.secureAt (s.outerDoor v) then some .interlock
  else none

/-- The record of badge 77 at the site. -/
abbrev record77 : Credential := ⟨77, .active, 0xFFF, 0, ⟨true, false, false, true⟩⟩

/-- What every entry clause asks of the state. -/
abbrev presentsAt (d : DoorId) (s : State) : Prop :=
  s.free ∧ s.sup.ready = true ∧ s.conflicts 77 = false ∧ s.nv.findBadge 77 = some (5, record77) ∧
  (∀ g ∈ s.grants.get d, g.stage ≠ .awaitPartner)

/-- One person in the vestibule of strongroom 2, in slot 6, on the way in this direction. -/
def oneInside (dir : Direction) (s : State) : State :=
  { s with locations := [(6, .inVestibule 1)], vests := put s.vests 1 ⟨dir, [⟨6, 78, none⟩]⟩ }

/-- A pass and each denial of the vestibule's own steps at its outer door. -/
theorem witness_VestibuleAndPerimeterEntriesFollowTheirSteps :
    ∀ x ∈ ([(site, none), ({ site with locations := [(5, .inStrongroom 1)] }, some .passback),
        ({ site with rooms := put site.rooms 1 { Room.empty with listed := List.replicate 16 ⟨9, 9, none, false⟩ } },
          some .strongroomFull),
        (grantAt 2 .exit site, some .doorBusy), ({ site with doors := put site.doors 2 inManual }, some .doorUnavailable),
        (oneInside .outbound site, some .direction), (oneInside .inbound site, none),
        ({ site with vests := put site.vests 1 ⟨.inbound, [⟨6, 78, none⟩, ⟨7, 79, none⟩]⟩ }, some .vestibuleFull),
        ({ site with doors := put site.doors 1 { Door.unused with state := .opened } }, some .interlock)] :
        List (State × Option Reason)),
      presentsAt 2 x.1 ∧ x.1.role 2 = .vestibuleOuter 1 ∧ x.1.entryRefusal 1 record77 = none ∧ outerSteps 2 1 5 x.1 = x.2 := by
  decide +kernel

/-- A pass, by day and after hours, and each denial of the steps at the inner door; an earlier step. -/
theorem witness_VestibuleAndPerimeterEntriesFollowTheirSteps_inner :
    (∀ x ∈ ([(chamber .inbound site, none), ({ chamber .inbound site with clock := WeekClock.cold }, none), (site, some .passback),
        ({ chamber .inbound site with
          rooms := put site.rooms 1 { Room.empty with listed := List.replicate 15 ⟨9, 9, none, false⟩ } }, some .strongroomFull),
        (grantAt 1 .exit (chamber .inbound site), some .doorBusy),
        ({ chamber .inbound site with doors := put site.doors 1 inManual }, some .doorUnavailable),
        (chamber .outbound site, some .direction),
        ({ chamber .inbound site with doors := put site.doors 2 { Door.unused with state := .opened } }, some .interlock)] :
        List (State × Option Reason)),
      presentsAt 1 x.1 ∧ x.1.role 1 = .strongroom 1 ∧ x.1.hasVestibule 1 = true ∧ x.1.entryRefusal 1 record77 = none ∧
      innerSteps 1 1 5 x.1 = x.2) ∧
    (({ chamber .inbound site with freeze := true } : State).entryRefusal 1 record77 = some .frozen) := by decide +kernel

/-- A pass and each denial at the perimeter door; a door whose grant mode is not AUTO. -/
theorem witness_VestibuleAndPerimeterEntriesFollowTheirSteps_perimeter :
    (∀ x ∈ ([(site, none), (grantAt 3 .entry site, some .doorBusy), ({ site with doors := put site.doors 3 inManual }, some .doorUnavailable)] :
        List (State × Option Reason)),
      presentsAt 3 x.1 ∧ x.1.role 3 = .perimeter ∧ x.1.recordRefusal record77 record77.flags.perimeter = none ∧
      (if x.1.grants.get 3 ≠ none then some .doorBusy else if ¬x.1.doorReady 3 then some .doorUnavailable else none) = x.2) ∧
    site.recordRefusal record77 false = some .noPrivilege ∧
    (let s := { site with nv := { site.nv with
        doors := put site.nv.doors 3 (some { DoorSettings.default with role := .perimeter, grantMode := .confirm }) } };
      presentsAt 3 s ∧ s.role 3 = .perimeter ∧ (s.doorSettings 3).grantMode ≠ .auto) := by decide +kernel

/-- The busy flag of the exit statement, and its door that lets nobody out. -/
def takenForPassage (d : DoorId) (s : State) : Bool :=
  (s.grants.get d).any (fun g => g.purpose = .exit || g.stage = .releasing || g.stage = .released)

/-- The door that is neither SECURE nor hidden nor in MANUAL. -/
def unfitDoor (d : DoorId) (s : State) : Bool :=
  decide ((s.doors.get d).state ≠ .secure ∧ (s.doors.get d).state ≠ .driverLatched ∧ (s.doors.get d).state ≠ .lineFault ∧
    (s.doors.get d).mode = .automatic)

/-- Exits: at a single door from the list, not listed, past a waiting entry grant, at a door in MANUAL, busy and unfit; at both doors
of a vestibule a pass and each refusal. -/
theorem witness_ExitsFollowTheirSteps :
    (∀ x ∈ [({ roomed { Room.empty with listed := [listed77] } with locations := [(5, .inStrongroom 0)] }, false, false),
        (site, false, false), (waiting77 .awaitDelay, false, false), (doored inManual, false, false), (grantAt 0 .exit site, true, false),
        (doored { Door.unused with state := .relocking }, false, true)],
      presentsAt 0 x.1 ∧ x.1.role 0 = .strongroom 0 ∧ x.1.hasVestibule 0 = false ∧ takenForPassage 0 x.1 = x.2.1 ∧
      unfitDoor 0 x.1 = x.2.2) ∧
    (∀ x ∈ ([({ site with locations := [(5, .inStrongroom 1)] }, none), (oneInside .inbound site, some .direction),
        (chamber .outbound site, some .vestibuleFull),
        ({ site with doors := put site.doors 2 { Door.unused with state := .opened } }, some .interlock),
        ({ site with doors := put site.doors 1 { Door.unused with state := .relocking } }, some .doorUnavailable)] :
        List (State × Option Reason)),
      presentsAt 1 x.1 ∧ x.1.role 1 = .strongroom 1 ∧ x.1.hasVestibule 1 = true ∧
      (if takenForPassage 1 x.1 then some .doorBusy
        else if (x.1.vests.get 1).direction = .inbound then some .direction
        else if 2 ≤ (x.1.vests.get 1).occupants.length then some .vestibuleFull
        else if ¬x.1.secureAt (x.1.outerDoor 1) then some .interlock
        else if unfitDoor 1 x.1 then some .doorUnavailable
        else none) = x.2) ∧
    (∀ x ∈ ([(chamber .outbound site, none), (grantAt 2 .exit site, some .doorBusy),
        ({ site with doors := put site.doors 1 { Door.unused with state := .opened } }, some .interlock),
        ({ site with doors := put site.doors 2 { Door.unused with state := .insecure } }, some .doorUnavailable)] :
        List (State × Option Reason)),
      presentsAt 2 x.1 ∧ x.1.role 2 = .vestibuleOuter 1 ∧
      (if takenForPassage 2 x.1 then some .doorBusy
        else if ¬x.1.secureAt (x.1.strongroomDoor 1) then some .interlock
        else if unfitDoor 2 x.1 then some .doorUnavailable
        else none) = x.2) := by
  decide +kernel

theorem witness_ClearAndFlushRemoveOccupants_flush :
    (∃ s : State, s.free ∧ s.hasVestibule 0 = false) ∧
    (∃ s : State, s.free ∧ s.outerDoor 1 = some 2 ∧ s.strongroomDoor 1 = some 1 ∧ s.grants.get 1 = none ∧ s.grantMoving 2 = false ∧
      sparseOk .outside s.locations = true ∧ (s.vests.get 1).occupants.length = 2) :=
  ⟨⟨site, by decide +kernel⟩,
   ⟨{ site with
       locations := [(5, .inVestibule 1), (6, .inVestibule 1)]
       vests := put site.vests 1 ⟨.inbound, [⟨5, 77, none⟩, ⟨6, 78, none⟩]⟩ }, by decide +kernel⟩⟩

/-! ## Witnesses: week clock -/

theorem witness_ClockEventsEvaluateWindowsAndMode :
    (∃ (p : WindowSettings) (day m : Nat), day < 7 ∧ m < 1440 ∧ p.start < p.stop ∧ day = 6 ∧ m = 1439) ∧
    (∃ (p : WindowSettings) (day m : Nat), day < 7 ∧ m < 1440 ∧ p.stop < p.start ∧ day = 0 ∧ m = 0) ∧
    (∃ s : State, s.powered = true ∧ s.clock.boundaryDue = true ∧ s.clock.valid = true) ∧
    (∃ (s : State) (minute second : Nat), s.free ∧ minute < 10080 ∧ second < 60 ∧ minute = 10079 ∧ second = 59) :=
  ⟨⟨⟨127, 420, 1440, true⟩, 6, 1439, by decide⟩, ⟨⟨127, 1320, 360, true⟩, 0, 0, by decide⟩,
   ⟨{ site with clock := { site.clock with boundaryDue := true } }, by decide +kernel⟩, ⟨fresh, 10079, 59, by decide +kernel⟩⟩

/-- MODE_SET that keeps the mode of the site, and one that changes it with no grant anywhere. -/
theorem witness_ClockEventsEvaluateWindowsAndMode_override :
    site.free ∧ (after (.modeSet 9 1) site).clock.mode = site.clock.mode ∧ (after (.modeSet 9 2) site).clock.mode ≠ site.clock.mode ∧
    (∀ d, site.grants.get d = none) ∧ modeGiven { site.clock with override := .forceAfterHours } = .afterHours ∧
    modeGiven { site.clock with override := .auto } = .afterHours ∧
    modeGiven { site.clock with override := .auto, windows := put site.clock.windows 0 true } = .day := by decide +kernel

/-! ## Witnesses: panel link and store -/

/-- The frame receiver of the link holds this. -/
def receiving (r : Receiver) : State := { fresh with link := { fresh.link with receiver := r } }

theorem witness_ReceiverTakesFramesByByte :
    (∃ s : State, s.powered = true ∧ s.link.receiver = .hunt) ∧
    (∃ s : State, s.powered = true ∧ s.link.receiver = .length) ∧
    (∃ (s : State) (len : Nat) (got : List Byte), s.powered = true ∧ s.link.receiver = .body len got ∧ got.length + 1 < len + 2) ∧
    (∃ (s : State) (len : Nat) (got : List Byte) (b : Byte), s.powered = true ∧ s.link.receiver = .body len got ∧
      got.length + 1 = len + 2 ∧ crcAgrees len (got ++ [b]) = false) :=
  ⟨⟨fresh, rfl, rfl⟩, ⟨receiving .length, rfl, rfl⟩, ⟨receiving (.body 2 []), 2, [], by decide +kernel⟩,
   ⟨receiving (.body 2 [1#8, 2#8, 3#8]), 2, [1#8, 2#8, 3#8], 0#8, by decide +kernel⟩⟩

/-- One request of each shape whose number is the first past its range, or 0 where numbers begin at 1. -/
theorem witness_RefusedFramesChangeNothingElse :
    (∃ (i : Instr) (f : RequestFrame) (s : State) (r : Request), encodeRequest i = some f ∧ s.powered = true ∧
      s.link.outstanding = some r) ∧
    fresh.free ∧ site.free ∧ site.sup.ready = true ∧
    (∀ i ∈ [Instr.status 9 4, .measureLine 9 64, .getZone 9 0, .getZone 9 13, .releaseZone 9 13, .getActuator 9 33, .getDoor 9 21,
        .getCredential 9 2048, .modeSet 9 3, .doorMode 9 1 2, .doorDrive 9 21 0, .present 9 21 0 77, .present 9 1 2 77,
        .occupantClear 9 1 0 2048, .occupantClear 9 1 3 0, .timeSet 9 10080 0, .timeSet 9 0 60],
      (encodeRequest i).isSome = true) ∧
    encodeRequest (.rowOpen 9 256) = some ⟨0x20, 9, [0#8]⟩ :=
  ⟨⟨.getClock 9, ⟨0x0A, 9, []⟩, busy fresh, ⟨1, 9⟩, by decide +kernel⟩, by decide +kernel⟩

/-- A settings request of each kind, a mask and a record to stage, each with one value out of its range. -/
theorem witness_RefusedFramesChangeNothingElse_settings :
    (∀ i ∈ [Instr.setClass 9 4 5 4 [⟨4, 0, 9⟩], .setClass 9 0 16 4 [⟨4, 0, 9⟩], .setClass 9 0 5 32 [⟨4, 0, 9⟩], .setClass 9 0 5 4 [⟨4, 9, 8⟩],
        .setClass 9 0 5 4 [⟨255, 0, 9⟩], .setClass 9 0 5 4 [⟨4, 0, 9⟩, ⟨3, 9, 20⟩], .setLoop 9 9 150 2000 60 0 0 0 0 0 0 0,
        .setLoop 9 1 49 2000 60 0 0 0 0 0 0 0, .setLoop 9 1 150 10000 10 0 0 0 0 0 0 0, .setLoop 9 1 150 2000 60 2 0 0 0 0 0 0,
        .setLoop 9 1 150 2000 60 0 0 0 0 0 0 13, .setZone 9 1 121 10 180 10 30 1 180 10 15, .setZone 9 1 30 10 90 91 30 1 180 10 15,
        .setZone 9 13 30 10 90 10 30 1 180 10 15, .setActuator 9 33 1, .setActuator 9 1 13, .setDoor 9 21 0 1 0 5 30 20 8 30 20 60,
        .setDoor 9 1 4 1 0 5 30 20 8 30 20 60, .setDoor 9 1 0 1 3 5 30 20 8 30 20 60, .setDoor 9 1 0 1 0 31 30 20 8 30 20 60,
        .setDoor 9 5 0 1 0 5 30 20 8 30 20 60, .setWindow 9 16 127 420 1140 0, .setWindow 9 0 127 420 420 0, .setNoticeMask 9 [],
        .setNoticeMask 9 [(0x01, 1)], .setNoticeMask 9 [(0x10, 2)], .slotStage 9 2048 1 0 0 0 0, .slotStage 9 0 4294967295 0 0 0 0,
        .slotStage 9 0 1 2 0 0 0, .slotStage 9 0 1 0 4096 0 0, .slotStage 9 0 1 0 0 0 16],
      (encodeRequest i).isSome = true) ∧
    (∀ (c : LineClass) (x : Band), (classIndex c).val = 0 → x.code = 255 → c.hasName x = false) ∧
    (∀ r : Role, roleCode r ≠ (4, 1)) ∧ ¬DoorFigures 31 30 20 8 30 20 60 ∧ ¬site.RoleAllowed 4 (.strongroom 0) ∧
    (let s := { fresh with acts := (every 4).foldl (fun v (a : Fin 4) => put v ⟨a.val, by omega⟩ { Actuator.start with state := .armed, zone := some 0 }) fresh.acts };
      s.free ∧ 4 ≤ ((every 32).filter (fun b => number b ≠ number (31 : ActId) && s.heldFor 0 b)).length) := by
  refine ⟨by decide +kernel, fun c x _ => by cases x <;> (simp [Band.code]; try omega), fun r => by cases r <;> simp [roleCode],
    fun h => absurd h.delay (by decide), fun h => absurd (by decide +kernel) (h.strongroom 0 rfl 0 (by decide)), by decide +kernel⟩

theorem witness_ReadRequestsReportAndChangeNothing :
    (∃ (loops : Vector LoopReply 8) (zones : Vector ZoneBrief 12),
      (∀ k, loops.get k = ⟨(fresh.loops.get k).state, (fresh.loops.get k).station, (fresh.loops.get k).pressAt⟩) ∧
      (∀ z, zones.get z =
        ⟨(fresh.zones.get z).state, (fresh.zones.get z).latchA, (fresh.zones.get z).latchB, (fresh.zones.get z).degraded⟩)) ∧
    (∃ acts : Vector (ActState × Bool) 32, ∀ a, acts.get a = ((fresh.acts.get a).state, (fresh.acts.get a).fault)) ∧
    (∃ (lone : RoomId → LoneReply) (rooms : Vector RoomBrief 12) (vests : Vector (Option (Direction × Nat)) 12)
        (doors : Vector DoorBrief 20),
      (∀ v, (site.rooms.get v).lone = .off ∧ lone v = .off) ∧ (∀ v, rooms.get v = ⟨0, false, false, 0, lone v⟩) ∧
      (∀ v, vests.get v = if site.outerDoor v = none then none else
        some ((site.vests.get v).direction, (site.vests.get v).occupants.length)) ∧
      (∀ d, doors.get d = ⟨(site.doors.get d).state, (site.doors.get d).mode, (site.doors.get d).trips,
        (site.grants.get d).map (fun g => g.stage)⟩)) ∧
    (∃ settings : Vector WindowSettings 16, ∀ w, settings.get w = fresh.windowSettings w) ∧
    (∃ s : State, s.free ∧ ∃ st touched, s.stage = .committing 254 st touched ∧ slotRow 2047 ≠ 254) ∧
    (∃ s : State, s.free ∧ ∃ st touched, s.stage = .opened 255 st touched ∧ slotRow 2047 = 255 ∧ touched.get (slotPlace 2047) = true) ∧
    (∃ (s : State) (x : Actuator) (pre post : List ActId), s.free ∧ s.acts.get 31 = x ∧ x.state = .queued ∧
      s.bank.queue = pre ++ 31 :: post ∧ 31 ∉ pre ∧ pre.length = 1) ∧
    (∃ s : State, s.free ∧ (s.acts.get 31).state ≠ .queued) ∧
    (∀ lone ∈ [Lone.off, .running 0, .prompt 0], (roomed { Room.empty with lone := lone }).free ∧
      ((roomed { Room.empty with lone := lone }).rooms.get 0).lone = lone) :=
  ⟨⟨Vector.replicate 8 ⟨.idle, none, none⟩, Vector.replicate 12 ⟨.quiet, false, false, false⟩, by decide +kernel⟩,
   ⟨Vector.replicate 32 (.unassigned, false), by decide +kernel⟩,
   ⟨fun _ => .off, Vector.replicate 12 ⟨0, false, false, 0, .off⟩, put (Vector.replicate 12 none) 1 (some (.none, 0)),
     Vector.replicate 20 ⟨.secure, .automatic, 0, none⟩, by decide +kernel⟩,
   ⟨Vector.replicate 16 WindowSettings.default, by decide +kernel⟩,
   ⟨{ fresh with stage := .committing 254 noneStaged untouched }, by decide +kernel, noneStaged, untouched, rfl, by decide⟩,
   ⟨{ fresh with stage := .opened 255 noneStaged (put untouched 7 true) }, by decide +kernel, noneStaged, put untouched 7 true, rfl,
     by decide +kernel⟩,
   ⟨{ fresh with acts := put fresh.acts 31 ⟨.queued, some 0, false, none, none, 0, none, false⟩, bank := { Bank.start with queue := [0, 31] } },
     ⟨.queued, some 0, false, none, none, 0, none, false⟩, [0], [], by decide +kernel⟩,
   ⟨fresh, by decide +kernel⟩, by decide +kernel⟩

/-- Each settings request at an end of its ranges. -/
theorem witness_SettingsRequestsBecomeWrites :
    fresh.free ∧
    (1 ≤ 15 ∧ 15 ≤ 15 ∧ 31 ≤ 31 ∧ [(⟨.normal, 0, 1023⟩ : BandRange)].length ≤ 10 ∧
      (∀ r ∈ [(⟨.normal, 0, 1023⟩ : BandRange)], LineClass.detector.hasName r.band = true ∧ r.low ≤ r.high ∧ r.high ≤ 1023) ∧
      [(⟨.normal, 0, 1023⟩ : BandRange)].Pairwise (fun a b => a.high < b.low ∨ b.high < a.low)) ∧
    (50 ≤ 1000 ∧ 1000 ≤ 1000 ∧ 500 ≤ 9999 ∧ 9999 ≤ 10000 ∧ 10 ≤ 10 ∧ 10 ≤ 600 ∧ 1000 < 9999 ∧ 9999 < 10 * 1000 ∧
      (fresh.loops.get 7).state = .idle) ∧
    (∃ (base ext tMax tMan tResume limit soak vent : Nat), base ≤ 120 ∧ ext ≤ 30 ∧ 10 ≤ tMax ∧ tMax ≤ 180 ∧ base ≤ tMax ∧ tMan ≤ 60 ∧
      tMan ≤ tMax ∧ tResume ≤ tMax ∧ 30 ≤ limit ∧ limit ≤ 900 ∧ 1 ≤ soak ∧ soak ≤ 60 ∧ 1 ≤ vent ∧ vent ≤ 120 ∧
      (fresh.zones.get 11).state = .quiet) ∧
    ((fresh.acts.get 31).state = .unassigned ∧
      (∀ y, (fresh.acts.get 31).zone = some y ∨ some (11 : ZoneId) = some y → (fresh.zones.get y).state = .quiet) ∧
      ((every 32).filter (fun b => b ≠ 31 && (fresh.acts.get b).zone = some 11 && (fresh.acts.get b).state ≠ .unassigned)).length < 4) ∧
    (∃ days start stop : Nat, days < 128 ∧ start ≤ 1439 ∧ 1 ≤ stop ∧ stop ≤ 1440 ∧ start ≠ stop ∧ start = 1439 ∧ stop = 1440) := by
  refine ⟨by decide +kernel, by decide, by decide +kernel, ⟨120, 30, 180, 60, 180, 900, 60, 120, by decide +kernel⟩, by decide +kernel,
    ⟨127, 1439, 1440, by decide⟩⟩

/-- Settings that the state of their object refuses: a pressed loop, a zone in ALERT, a fired actuator and one of a zone in ALERT. -/
theorem witness_SettingsRequestsBecomeWrites_state :
    (looped { Loop.start with state := .pressed }).free ∧ ((looped { Loop.start with state := .pressed }).loops.get 0).state ≠ .idle ∧
    (zoneIn .alert).free ∧ ((zoneIn .alert).zones.get 0).state ≠ .quiet ∧ ((zoneIn .alert).zones.get 0).state ≠ .isolated ∧
    (∃ s : State, s.free ∧ (s.acts.get 0).state ≠ .unassigned ∧ (s.acts.get 0).state ≠ .armed) ∧
    (∃ y, some (0 : ZoneId) = some y ∧ ((zoneIn .alert).zones.get y).state ≠ .quiet ∧ ((zoneIn .alert).zones.get y).state ≠ .isolated) :=
  ⟨by decide +kernel, by decide +kernel, by decide +kernel, by decide +kernel, by decide +kernel,
   ⟨{ fresh with acts := put fresh.acts 0 { Actuator.start with state := .fired } }, by decide +kernel⟩, by decide +kernel⟩

/-- Door 5 may become the outer door of strongroom 1, or a perimeter door; while it moves its state refuses that. The figures stand at the
ends of their ranges. -/
theorem witness_SettingsRequestsBecomeWrites_door :
    DoorFigures 1 1 5 2 5 5 15 ∧ DoorFigures 30 120 60 60 600 120 300 ∧ site.free ∧ site.RoleAllowed 4 (.vestibuleOuter 0) ∧
    site.DoorChangeable 4 (.vestibuleOuter 0) ∧ site.RoleAllowed 4 .perimeter ∧
    ¬({ site with doors := put site.doors 4 { Door.unused with state := .relocking } } : State).DoorChangeable 4 .perimeter ∧
    ¬({ chamber .inbound site with doors := put site.doors 2 inManual } : State).DoorChangeable 2 .perimeter := by
  have unused : site.role 4 = .unused := by decide +kernel
  have ahead : site.rolesAhead 4 = [.unused] := by decide +kernel
  have kept (r : Role) :
      ∀ v, .strongroom v ∈ site.rolesAhead 4 → r ≠ .strongroom v → ∀ e, e ≠ 4 → .vestibuleOuter v ∉ site.rolesAhead e := by
    intro v h
    simp [ahead] at h
  refine ⟨by constructor <;> decide, by constructor <;> decide, by decide +kernel, ⟨nofun, ?_, ?_, kept _⟩, ⟨.inl ?_, ?_, ?_, ?_⟩,
    ⟨nofun, nofun, nofun, kept _⟩, fun h => absurd h.state ?_, fun h => absurd (h.occupied 1 ?_ ?_) ?_⟩
  · rintro v ⟨⟩
    exact ⟨by decide +kernel, 0, by decide, by decide +kernel⟩
  · rintro v ⟨⟩
    decide +kernel
  · decide +kernel
  · decide +kernel
  · rintro v - (h | ⟨⟨⟩⟩)
    · rw [unused] at h
      cases h
    · decide +kernel
  · rintro v - ⟨⟩ h
    exact absurd h (by decide +kernel)
  all_goals decide +kernel

theorem witness_StoreCompletesWrites :
    (∃ st : Store, st.running.isSome = true) ∧ (∃ (st : Store) (m : MarkRequest) (rest : List MarkRequest), st.running = none ∧ st.marks = m :: rest) ∧
    (∃ (st : Store) (op : StoreOp) (rest : List StoreOp), st.running = none ∧ st.marks = [] ∧ st.host = op :: rest) ∧
    (∃ (item : MarkItem) (pre : List MarkRequest), pre ≠ [] ∧ ∀ m ∈ pre, m.item ≠ item) ∧
    (∀ item ∈ [MarkItem.discharge 0, .spent 31, .isolate 11], ∃ s : State, s.powered = true ∧
      s.store.running = some ⟨.mark item true, 0⟩ ∧ 0 ≤ s.now) ∧
    (∃ (s : State) (p : ZoneSettings) (r : Request), s.powered = true ∧ s.store.running = some ⟨.settings (.zone 0 p) true, 0⟩ ∧
      0 ≤ s.now ∧ s.link.outstanding = some r) :=
  ⟨⟨⟨some ⟨.commit 0, 0⟩, [], []⟩, rfl⟩, ⟨⟨none, [⟨.spent 0, true⟩], [.commit 0]⟩, ⟨.spent 0, true⟩, [], rfl, rfl⟩,
   ⟨⟨none, [], [.commit 0]⟩, .commit 0, [], rfl, rfl, rfl⟩, ⟨.spent 0, [⟨.isolate 0, true⟩], by decide, by decide⟩,
   fun item _ => ⟨{ fresh with store := ⟨some ⟨.mark item true, 0⟩, [], []⟩ }, rfl, rfl, Nat.zero_le _⟩,
   ⟨{ busy fresh with store := ⟨some ⟨.settings (.zone 0 ZoneSettings.default) true, 0⟩, [], []⟩ }, ZoneSettings.default, ⟨1, 9⟩,
     by decide +kernel⟩⟩

/-- A settings record of each kind at the end of its write, on an object in each state its clause names. -/
theorem witness_StoreCompletesWrites_settings :
    (∀ item ∈ [SettingsItem.cls .door ClassParams.doorDefault, .loop 0 LoopSettings.default, .zone 0 ZoneSettings.default,
        .actuator 0 (some 0), .actuator 0 none, .door 0 { DoorSettings.default with role := .perimeter },
        .door 0 { DoorSettings.default with role := .unused }, .door 0 { DoorSettings.default with role := .strongroom 0 },
        .door 0 { DoorSettings.default with role := .vestibuleOuter 1 }, .window 15 WindowSettings.default,
        .window 0 WindowSettings.default],
      let s := { bandAt .unbolted (busy site) with store := ⟨some ⟨.settings item true, 0⟩, [], []⟩ }
      s.powered = true ∧ s.store.running = some ⟨.settings item true, 0⟩ ∧ 0 ≤ s.now ∧ s.link.outstanding = some ⟨1, 9⟩ ∧
      s.role 0 = .strongroom 0 ∧ s.grants.get 0 = none ∧ (s.doors.get 0).latch = false ∧ (s.doors.get 0).mode = .automatic ∧
      s.doorBand 0 = .unbolted) ∧
    (∀ st ∈ [LoopState.idle, .pressed, .duress], ((looped ⟨st, some 1, some 0, none, none⟩).loops.get 0).state = st ∧
      (looped ⟨st, some 1, some 0, none, none⟩).now ≤ 0 + LoopSettings.default.tDuress ∧
      (looped ⟨st, some 1, some 0, none, none⟩).now ≤ 0 + LoopSettings.default.tStuck * 1000) ∧
    (∀ st ∈ [ActState.unassigned, .armed, .queued, .firing, .fired, .failed],
      ({ fresh with acts := put fresh.acts 0 { Actuator.start with state := st } } : State).acts.get 0 =
        { Actuator.start with state := st }) := by
  decide +kernel

theorem witness_FetchSelectsOldestOfHighestClass :
    (∃ s : State, s.free ∧ s.link.notices = []) ∧ (∃ s : State, s.free ∧ s.link.notices ≠ []) :=
  ⟨⟨{ fresh with link := Link.start }, by decide +kernel⟩, ⟨fresh, by decide +kernel⟩⟩

/-- A notice of one kind, not in transmission. -/
def noted (k : NoticeKind) : Notice := ⟨k, .zone 0, none, 0, none, 255, false⟩

theorem witness_NoticeCoalescesIntoOldest :
    ∃ (lk : Link) (n e : Notice) (pre post : List Notice), n.kind ∉ lk.masks ∧ lk.notices = pre ++ e :: post ∧
      (∀ x ∈ pre, x.inTx = true ∨ x.kind ≠ n.kind ∨ x.object ≠ n.object ∨ x.detail ≠ n.detail) ∧ e.inTx = false ∧ e.kind = n.kind ∧
      e.object = n.object ∧ e.detail = n.detail ∧ e.repeats ≤ 255 :=
  ⟨{ Link.start with notices := [{ noted .entry with inTx := true }, noted .entry] }, noted .entry, noted .entry,
    [{ noted .entry with inTx := true }], [], by decide +kernel⟩

/-- 48 entries that are not LIFE, and 64 entries; no entry is of the new notice's kind. -/
theorem witness_NoticeAdmissionFollowsMaskAndClass :
    (∃ (lk : Link) (n : Notice), (∀ x ∈ lk.notices, x.kind ≠ n.kind) ∧ lk.lost = 254 ∧ lk.lost < 255 ∧ n.kind ∈ lk.masks) ∧
    (∃ (lk : Link) (n : Notice), (∀ x ∈ lk.notices, x.kind ≠ n.kind) ∧ lk.lost < 255 ∧ n.kind ∉ lk.masks ∧ lk.notices.length = 63 ∧
      n.kind.cls = .life) ∧
    (∃ (lk : Link) (n : Notice), (∀ x ∈ lk.notices, x.kind ≠ n.kind) ∧ lk.lost < 255 ∧ n.kind ∉ lk.masks ∧ lk.notices.length < 64 ∧
      n.kind.cls ≠ .life ∧ (lk.notices.filter Notice.nonLife).length = 47) ∧
    (∃ (lk : Link) (n : Notice), (∀ x ∈ lk.notices, x.kind ≠ n.kind) ∧ lk.lost < 255 ∧ n.kind ∉ lk.masks ∧
      48 ≤ (lk.notices.filter Notice.nonLife).length ∧ n.kind.cls = .routine) ∧
    (∃ (lk : Link) (n e : Notice) (pre post : List Notice), (∀ x ∈ lk.notices, x.kind ≠ n.kind) ∧ lk.lost < 255 ∧ n.kind ∉ lk.masks ∧
      64 ≤ lk.notices.length ∧ n.kind.cls = .life ∧ lk.notices = pre ++ e :: post ∧
      (∀ x ∈ pre, x.inTx = true ∨ x.kind.cls = .life) ∧ e.inTx = false ∧ e.kind.cls ≠ .life) ∧
    (∃ (lk : Link) (n e : Notice) (pre post : List Notice), (∀ x ∈ lk.notices, x.kind ≠ n.kind) ∧ lk.lost < 255 ∧ n.kind ∉ lk.masks ∧
      48 ≤ (lk.notices.filter Notice.nonLife).length ∧ n.kind.cls = .alarm ∧ lk.notices = pre ++ e :: post ∧
      (∀ x ∈ pre, x.inTx = true ∨ x.kind.cls ≠ .routine) ∧ e.inTx = false ∧ e.kind.cls = .routine) ∧
    (∃ (s : State) (pairs : List (NoticeKind × Bool)), s.free ∧ 1 ≤ pairs.length ∧ pairs.length ≤ 56 ∧ (∀ p ∈ pairs, p.1.cls ≠ .life)) :=
  ⟨⟨{ Link.start with lost := 254, masks := [.entry] }, noted .entry, by decide +kernel⟩,
   ⟨{ Link.start with notices := List.replicate 63 (noted .duress) }, noted .zoneRelease, by decide +kernel⟩,
   ⟨{ Link.start with notices := List.replicate 47 (noted .exit) }, noted .entry, by decide +kernel⟩,
   ⟨{ Link.start with notices := List.replicate 48 (noted .exit) }, noted .entry, by decide +kernel⟩,
   ⟨{ Link.start with notices := List.replicate 16 (noted .duress) ++ List.replicate 48 (noted .exit) }, noted .zoneRelease, noted .exit,
     List.replicate 16 (noted .duress), List.replicate 47 (noted .exit), by decide +kernel⟩,
   ⟨{ Link.start with notices := noted .deviceStart :: List.replicate 47 (noted .exit) }, noted .zoneHeld, noted .exit,
     [noted .deviceStart], List.replicate 46 (noted .exit), by decide +kernel⟩,
   ⟨fresh, [(.modeChange, true), (.modeChange, false)], by decide +kernel⟩⟩

/-- The reply at the head of the transmit queue is for this. -/
def sending (role : ReplyRole) (s : State) : State := { s with link := { s.link with tx := [⟨0x51, 9, .ok, .none, role⟩] } }

theorem witness_RestartFollowsItsSentReply :
    (∀ role ∈ [ReplyRole.busy, .plain, .fetch 255, .restart], ∃ (s : State) (r : Reply) (rest : List Reply), s.powered = true ∧
      s.link.tx = r :: rest ∧ r.role = role ∧ s.mayRestart = true) ∧
    (∃ (s : State) (r : Reply) (rest : List Reply), s.powered = true ∧ s.link.tx = r :: rest ∧ r.role = .restart ∧ s.mayRestart = false) ∧
    (∃ s : State, s.free ∧ (∀ z, (s.zones.get z).state ≠ .predischarge ∧ (s.zones.get z).state ≠ .held ∧
      (s.zones.get z).state ≠ .heldOccupied ∧ (s.zones.get z).state ≠ .release) ∧ s.commitRunning = false ∧ s.store = ⟨none, [], []⟩) ∧
    (∀ st ∈ [ZoneState.predischarge, .held, .heldOccupied, .release], (zoneIn st).free ∧ ((zoneIn st).zones.get 0).state = st) ∧
    (∃ s : State, s.free ∧ s.commitRunning = true) ∧ (∃ s : State, s.free ∧ s.store.running.isSome = true) :=
  have may : fresh.mayRestart = true := by decide +kernel
  ⟨fun role _ => ⟨sending role fresh, ⟨0x51, 9, .ok, .none, role⟩, [], rfl, rfl, rfl, may⟩,
   ⟨sending .restart (zoneIn .release), ⟨0x51, 9, .ok, .none, .restart⟩, [], by decide +kernel⟩, ⟨fresh, by decide +kernel⟩,
   by decide +kernel, ⟨{ fresh with stage := .committing 0 noneStaged untouched }, by decide +kernel⟩,
   ⟨{ fresh with store := ⟨some ⟨.commit 0, 0⟩, [], []⟩ }, by decide +kernel⟩⟩

theorem witness_BreakAndHostAbsence :
    (∃ (s : State) (item : SettingsItem) (m : Measurement) (g : Grant), s.powered = true ∧ (∀ r ∈ s.link.tx, r.role ≠ .restart) ∧
      s.store.running = some ⟨.settings item true, 0⟩ ∧ s.sup.pending = some m ∧ s.grants.get 0 = some g) ∧
    (∃ (s : State) (g : Grant), s.powered = true ∧ s.link.presenceDl = some 0 ∧ 0 ≤ s.now ∧
      (∀ d g, s.grants.get d = some g → g.stage ≠ .awaitDelay) ∧ s.grants.get 0 = some g ∧ g.stage = .awaitConfirm) :=
  have only (d : DoorId) (g : Grant)
      (h : ({ waiting77 .awaitConfirm with link := { site.link with presenceDl := some 0 } } : State).grants.get d = some g) :
      g.stage ≠ .awaitDelay := by
    have none_waits : ∀ d, ((waiting77 .awaitConfirm).grants.get d).all (fun g => g.stage ≠ .awaitDelay) = true := by decide +kernel
    have one := none_waits d
    rw [show (waiting77 .awaitConfirm).grants.get d = some g from h] at one
    simpa using one
  ⟨⟨{ sending .plain (waiting77 .awaitDelay) with
       sup := { site.sup with pending := some ⟨63, true⟩ }, store := ⟨some ⟨.settings (.actuator 0 none) true, 0⟩, [], []⟩ },
     .actuator 0 none, ⟨63, true⟩, entry77 .awaitDelay, by decide +kernel⟩,
   ⟨{ waiting77 .awaitConfirm with link := { site.link with presenceDl := some 0 } }, entry77 .awaitConfirm, by decide +kernel,
     by decide +kernel, by decide +kernel, only, by decide +kernel, by decide +kernel⟩⟩

/-! ## Witnesses: next states in full and refusals -/

/-- A quarter that ends no ms; ms that end nothing, a second, a minute and the week, over a zone that counts and one that does not. -/
theorem witness_UnconfirmedConversionTouchesNothingElse_tick :
    (fresh.quarters + 1) % 4 ≠ 0 ∧
    (∀ p ∈ ([(0, 0, 998), (0, 58, 999), (10078, 59, 999), (10079, 59, 999)] : List (Nat × Nat × Nat)),
      let s := { zoned { Zone.start with state := .predischarge, countdown := some ⟨.automatic, 1⟩ } fresh with
        quarters := 3, clock := { WeekClock.cold with minute := p.1, second := p.2.1, ms := p.2.2 } }
      (s.quarters + 1) % 4 = 0 ∧ (s.zones.get 0).state = .predischarge ∧ (s.zones.get 11).state ≠ .predischarge ∧
      s.clock.minute < 10080 ∧ s.clock.second < 60 ∧ s.clock.ms < 1000) := by decide +kernel

/-- Zone 1 with settings that make every countdown begin at 0 ms. -/
def atOnce (s : State) : State :=
  { s with nv := { s.nv with
    zones := put s.nv.zones 0 (some { ZoneSettings.default with base := 0, ext := 0, tMan := 0, tResume := 0 }) } }

/-- The second latch of an alerting zone whose countdown begins at 0 ms, with a grant at its door. -/
theorem witness_AutomaticCountdownBeginsAndGrows_second :
    ∀ isB ∈ [true, false],
      let x := { Zone.start with state := .alert, latchA := isB, latchB := !isB }
      let s := atOnce (zoned x (granted (entry77 .released) site))
      s.zones.get 0 = x ∧ x.state = .alert ∧ (if isB then x.latchA else x.latchB) = true ∧
      (if isB then x.latchB else x.latchA) = false ∧
      min ((s.zoneSettings 0).tMax * 1000) (((s.zoneSettings 0).base + (s.zoneSettings 0).ext * 0) * 1000) = 0 := by decide +kernel

/-- A manual release, and the end of a hold, that find 0 ms; a zone in each state for MANUAL at its station line and for RELEASE_ZONE. -/
theorem witness_StationBandsHoldAndResume_whole :
    ∀ st ∈ [ZoneState.quiet, .alert, .predischarge, .held, .heldOccupied, .isolated, .release, .soak, .vent, .discharged, .releaseFailed],
      let x := { Zone.start with state := st, countdown := some ⟨.automatic, 0⟩ }
      let s := atOnce (zoned x fresh)
      s.zones.get 0 = x ∧ x.state = st ∧ x.countdown = some ⟨.automatic, 0⟩ ∧ (s.zoneSettings 0).tMan = 0 ∧
      max 0 ((s.zoneSettings 0).tResume * 1000) = 0 := by decide +kernel

theorem witness_ReleaseZoneActsByState_whole :
    ∀ st ∈ [ZoneState.quiet, .alert, .predischarge, .held, .heldOccupied],
      let x := { Zone.start with state := st, countdown := some ⟨.automatic, 0⟩ }
      let s := atOnce (zoned x fresh)
      s.free ∧ s.zones.get 0 = x ∧ x.state = st ∧ x.countdown = some ⟨.automatic, 0⟩ := by decide +kernel

/-- Every state a ZONE_RESET, ZONE_ISOLATE and ZONE_DEISOLATE can find, both detectors in ALARM and the countdown at 0 ms. -/
theorem witness_SoakVentResetAndIsolationMoveTheZone_whole :
    ∀ st ∈ [ZoneState.quiet, .alert, .predischarge, .held, .heldOccupied, .isolated, .release, .soak, .vent, .discharged, .releaseFailed],
      let x := { Zone.start with state := st }
      let s := atOnce (zoned x (bandsAtZone true true false site))
      s.free ∧ s.zones.get 0 = x ∧ x.state = st ∧ s.ownBand (detectorALine 0) = .alarm ∧ s.ownBand (detectorBLine 0) = .alarm := by
  decide +kernel

/-- A second and a third attempt that end, alone and beside another outstanding actuator, in a zone that has and has not fired. -/
theorem witness_PulseEndConcludesOrRetries_whole :
    ∀ n ∈ [2, 3], ∀ more ∈ [[], [(7 : ActId)]], ∀ fired ∈ [true, false],
      let x : Actuator := ⟨.firing, some 0, false, none, none, n, some 0, false⟩
      let s := zoned { Zone.start with state := .release, outstanding := 0 :: more, fired := fired }
        { fresh with acts := put fresh.acts 0 x, bank := { Bank.start with inFlight := [0], pulseCount := 6 } }
      s.powered = true ∧ s.acts.get 0 = x ∧ x.state = .firing ∧ x.pulseEnd = some 0 ∧ 0 ≤ s.now ∧ (n < 3 ∨ 3 ≤ x.attempts) ∧
      x.zone = some 0 ∧ (s.zones.get 0).state = .release ∧ (s.zones.get 0).outstanding.filter (fun c => c ≠ 0) = more ∧
      (s.zones.get 0).fired = fired := by decide +kernel

/-- A rearm of an actuator that is ARMED, and of one whose zone alerts; suspension of the tests in force, and not. -/
theorem witness_PulsesPausesTestsAndRearm_refused :
    (let s := { fresh with acts := put fresh.acts 0 { Actuator.start with state := .armed } };
      s.free ∧ (s.acts.get 0).state ≠ .fired ∧ (s.acts.get 0).state ≠ .failed) ∧
    (let s := zoned { Zone.start with state := .alert } { fresh with acts := put fresh.acts 0 { Actuator.start with state := .fired, zone := some 0 } };
      s.free ∧ (s.acts.get 0).zone = some 0 ∧ (s.zones.get 0).state = .alert) ∧
    (∃ b, ({ fresh with acts := put fresh.acts 31 { Actuator.start with state := .queued } } : State).acts.get b =
      { Actuator.start with state := .queued }) ∧
    (fresh.powered = true ∧ ∀ b, (fresh.acts.get b).state ≠ .queued ∧ (fresh.acts.get b).state ≠ .firing) :=
  ⟨by decide +kernel, by decide +kernel, ⟨31, by decide +kernel⟩, by decide +kernel⟩

/-- The inner door of a vestibule with an entry grant; a transfer for whom the list has room for two, for one and for nobody. -/
theorem witness_PassagesMoveSlots_inner :
    (let s := grantAt 1 .entry (chamber .inbound site);
      s.role 1 = .strongroom 1 ∧ s.grants.get 1 = some (entry77 .released) ∧ s.hasVestibule 1 = true ∧ (entry77 .released).purpose = .entry) ∧
    (site.role 0 = .strongroom 0 ∧ site.grants.get 0 = none) ∧
    (∀ n ∈ [14, 15, 16],
      let s := { chamber .inbound site with rooms := put site.rooms 1 { Room.empty with listed := List.replicate n ⟨9, 9, none, false⟩ } }
      (s.vests.get 1).occupants = [⟨5, 77, none⟩, ⟨6, 78, none⟩] ∧ s.location 5 = .inVestibule 1 ∧ s.location 6 = .inVestibule 1 ∧
      ([5, 6] : List SlotId).Nodup ∧ sparseOk .outside s.locations = true ∧ (s.rooms.get 1).listed.length = n ∧ n ≤ 16) := by
  decide +kernel

/-- A flush while either door of the vestibule moves; a clearing of a listed person and of either mark, set or not. -/
theorem witness_ClearAndFlushRemoveOccupants_whole :
    (∀ d ∈ ([1, 2] : List DoorId), ∀ st ∈ [GrantStage.releasing, .released],
      let s := { site with grants := put site.grants d (some (entry77 st)) }
      s.free ∧ s.outerDoor 1 = some 2 ∧ s.strongroomDoor 1 = some 1 ∧ s.grants.get d = some (entry77 st)) ∧
    (∀ mark : Bool, let x := { Room.empty with listed := [listed77], evidence := mark, unknown := mark };
      (roomed x).free ∧ (roomed x).rooms.get 0 = x ∧ x.listed.find? (fun e => e.slot = 5) = some listed77) := by decide +kernel

/-- SLOT_STAGE, ROW_COMMIT and ROW_DISCARD with no row open, with another row open, and under a commit. -/
theorem witness_RowProgrammingCommitsTouchedSlots_state :
    (fresh.free ∧ ∀ row staged touched, fresh.stage ≠ .opened row staged touched) ∧
    (let s := { fresh with stage := .committing 0 noneStaged untouched };
      s.free ∧ ∀ row staged touched, s.stage ≠ .opened row staged touched) ∧
    (let s := { fresh with stage := .opened 255 noneStaged untouched };
      s.free ∧ ∀ row staged touched, s.stage = .opened row staged touched → slotRow 0 ≠ row) := by
  refine ⟨⟨by decide +kernel, nofun⟩, ⟨by decide +kernel, nofun⟩, by decide +kernel, ?_⟩
  rintro row staged touched ⟨⟩
  decide +kernel

/-- Badge 77 waits for a partner at the inner door of the vestibule, badge 78 being there too: it passes, the freeze denies it, its row
commits; the vestibule refuses. -/
theorem witness_GrantModeAndPairDecideEntry_inner :
    (let s := { chamber .inbound (busy site) with grants := put site.grants 1 (some (entry77 .awaitPartner)) };
      s.link.outstanding = some ⟨1, 9⟩ ∧ s.grants.get 1 = some (entry77 .awaitPartner) ∧ s.innerRefusal 1 = none ∧
      s.judge 1 (.inner 1) true 2 77 = .passed 5 record77 ∧
      ({ s with freeze := true } : State).judge 1 (.inner 1) true 2 77 = .denied .frozen ∧
      ({ s with stage := .committing 0 noneStaged untouched } : State).judge 1 (.inner 1) true 2 77 = .deferred ∧
      ({ s with doors := put s.doors 2 inManual } : State).innerRefusal 1 = some .interlock) ∧
    (let s := { chamber .inbound site with grants := put site.grants 1 (some (entry77 .awaitPartner)) };
      s.free ∧ s.sup.ready = true ∧ s.role 1 = .strongroom 1 ∧ s.hasVestibule 1 = true ∧ s.conflicts 78 = false ∧
      s.nv.findBadge 78 = some (6, { record77 with badge := 78 }) ∧ (entry77 .awaitPartner).holders.head? = some ⟨5, 77⟩ ∧
      s.innerStepRefusal 1 1 6 { record77 with badge := 78 } = none) ∧
    (let s := waiting77 .awaitPartner;
      s.free ∧ s.role 0 = .strongroom 0 ∧ s.hasVestibule 0 = false ∧ s.singleRefusal 0 0 2 6 { record77 with badge := 78 } = none ∧
      s.singleRefusal 0 0 1 5 record77 = none) := by decide +kernel

/-- A re-check at a door of each role; one that finds the bolt withdrawn; the end of a delay hold; CONFIRM and DENY with no grant, with
one that waits for a partner and with one that moves. -/
theorem witness_WaitingGrantEndsByItsCommand_doors :
    (site.role 0 = .strongroom 0 ∧ site.hasVestibule 0 = false ∧ site.role 1 = .strongroom 1 ∧ site.hasVestibule 1 = true ∧
      site.role 2 = .vestibuleOuter 1 ∧ site.role 3 = .perimeter) ∧
    (let s := bandAt .unbolted (waiting77 .awaitDelay);
      s.grants.get 0 = some (entry77 .awaitDelay) ∧ s.recheckVerdict 0 (entry77 .awaitDelay) = none ∧ s.doorBand 0 = .unbolted ∧
      s.powered = true ∧ (entry77 .awaitDelay).deadline = some 0 ∧ 0 ≤ s.now) ∧
    (site.free ∧ site.grants.get 0 = none) ∧
    (∀ st ∈ [GrantStage.awaitPartner, .releasing, .released],
      (waiting77 st).free ∧ (waiting77 st).grants.get 0 = some (entry77 st) ∧ (entry77 st).stage ≠ .awaitDelay ∧
      (entry77 st).stage ≠ .awaitConfirm) := by decide +kernel

/-- A freeze and a zone in each state, over a grant the change reaches; at RELEASE a resting closed door at UNBOLTED. -/
theorem witness_FreezeCancelsEntryGrants_hand :
    site.freeze = false ∧ site.free ∧
    (∀ st ∈ [ZoneState.alert, .predischarge, .held, .heldOccupied, .release, .soak, .vent, .discharged, .releaseFailed],
      let s := zoned { Zone.start with state := st } (waiting77 .releasing)
      (s.zones.get 0).state = st ∧ s.hazardReaches 0 0 = true) ∧
    (let s := zoned { Zone.start with state := .release } (bandAt .unbolted (doored { Door.unused with state := .insecure }));
      (s.zones.get 0).state = .release ∧ (s.role 0).room = some 0 ∧ (s.doors.get 0).state = .insecure ∧
      (s.doors.get 0).motion = .idle ∧ s.doorBand 0 = .unbolted) := by decide +kernel

/-- A cancellation without a grant; one before the door moves, a CONFIRM waiting with its re-check; one in a cool-down, one in a motion
and one in RELEASED, at the bolt thrown and at it withdrawn; and a moving grant at a door in no such state. -/
theorem witness_FreezeCancelsEntryGrants_cancel :
    site.grants.get 0 = none ∧
    (∀ st ∈ [GrantStage.awaitPartner, .awaitDelay, .awaitConfirm],
      let g := { entry77 st with recheck := some ⟨true⟩ }
      (granted g (busy site)).grants.get 0 = some g ∧ (granted g (busy site)).link.outstanding = some ⟨1, 9⟩ ∧ g.stage = st) ∧
    (∀ b ∈ [Band.bolted, .unbolted],
      ∀ x ∈ [{ Door.unused with state := .releasing, bolt := .withdrawn, motion := .cooling .withdrawn 9 },
          { Door.unused with state := .releasing, bolt := .withdrawn, motion := .moving .withdrawn 9, trips := 3 },
          { Door.unused with state := .released, bolt := .withdrawn, releaseDl := some 9 }, { Door.unused with state := .opened }],
        let s := granted (entry77 .releasing) (bandAt b (doored x))
        s.grants.get 0 = some (entry77 .releasing) ∧ s.doors.get 0 = x ∧ s.doorBand 0 = b ∧ s.role 0 ≠ .unused) := by decide +kernel

/-- A door to re-derive at each band: in AUTOMATIC, latched, in MANUAL; last seen OPENED and not. -/
theorem witness_HiddenAndOverlaidDoorsTakeEachBand_rederive :
    ∀ b ∈ [Band.unknown, .short, .openLine, .unclassified, .bolted, .unbolted, .opened, .egress],
      ∀ x ∈ [{ Door.unused with state := .lineFault }, { Door.unused with state := .secure },
          { Door.unused with state := .lineFault, latch := true }, { Door.unused with state := .manual, mode := .manual },
          { Door.unused with state := .lineFault, position := some .opened }],
        let s := bandAt b (doored x)
        s.doors.get 0 = x ∧ s.doorBand 0 = b ∧ s.role 0 ≠ .unused := by decide +kernel

/-- DOOR_MODE and DOOR_SERVICE of an UNUSED door, of one with a moving grant, and of one in each mode and overlay without a grant. -/
theorem witness_DoorRequestsModeDriveService_state :
    (site.free ∧ site.role 19 = .unused) ∧
    (∀ st ∈ [GrantStage.releasing, .released],
      (waiting77 st).free ∧ (waiting77 st).grants.get 0 = some (entry77 st) ∧ (entry77 st).stage = st) ∧
    (∀ x ∈ [Door.unused, inManual, { Door.unused with state := .lineFault }, { Door.unused with state := .driverLatched, latch := true }],
      (doored x).free ∧ (doored x).doors.get 0 = x ∧ (doored x).role 0 ≠ .unused ∧ (doored x).grants.get 0 = none) := by decide +kernel

/-- A minute boundary not due, one with the clock INVALID, and one with it valid; the last time of the week; each override. -/
theorem witness_ClockEventsEvaluateWindowsAndMode_whole :
    (∀ p ∈ [(false, true), (true, false), (true, true)],
      let s := { site with clock := { site.clock with boundaryDue := p.1, valid := p.2 } }
      s.powered = true ∧ s.clock.boundaryDue = p.1 ∧ s.clock.valid = p.2) ∧
    site.free ∧ 10079 < 10080 ∧ 59 < 60 := by decide +kernel

/-- A kind that no request has, with the longest body; kinds whose body is too long, too short, and disagrees with its count. -/
theorem witness_ReceiverTakesFramesByByte_refused :
    (0xFF < 256 ∧ (List.replicate 248 0#8).length ≤ 248 ∧ bodyLength 0xFF (List.replicate 248 0#8) = none) ∧
    fresh.free ∧ fresh.link.receiver = .hunt ∧
    bodyLength 0x0A [0#8] = some 0 ∧ [0#8].length ≠ 0 ∧ bodyLength 0x01 [] = some 1 ∧ ([] : List Byte).length ≠ 1 ∧
    bodyLength 0x16 [2#8, 0x10#8, 1#8] = some 5 ∧ [2#8, 0x10#8, 1#8].length ≠ 5 := by decide +kernel

/-- A settings record of loop 1 on an IDLE loop, which has no press, and on a press whose recomputed deadlines lie in the past. -/
theorem witness_StoreCompletesWrites_loops :
    (Loop.start.state = .idle ∧ Loop.start.pressAt = none) ∧
    (∀ st ∈ [LoopState.pressed, .unresolved, .duress, .unresolvedDuress],
      let x : Loop := ⟨st, some 1, some 0, some 2000, some 60000⟩
      let s := { busy (looped x) with
        quarters := 240004, store := ⟨some ⟨.settings (.loop 0 LoopSettings.default) true, 0⟩, [], []⟩ }
      s.powered = true ∧ s.loops.get 0 = x ∧ s.link.outstanding = some ⟨1, 9⟩ ∧ s.store.running = some ⟨.settings (.loop 0 LoopSettings.default) true, 0⟩ ∧
      0 ≤ s.now ∧ x.pressAt = some 0 ∧ x.station = some 1 ∧ 0 + LoopSettings.default.tDuress < s.now ∧
      0 + LoopSettings.default.tStuck * 1000 < s.now) := by decide +kernel

/-- A changed role at the outer door of a vestibule with two persons inside, and for a door that becomes one, a grant made meanwhile. -/
theorem witness_StoreCompletesWrites_roles :
    (∀ r ∈ [Role.perimeter, .unused],
      let item := SettingsItem.door 2 { DoorSettings.default with role := r }
      let s := { grantAt 2 .entry (chamber .inbound (busy site)) with store := ⟨some ⟨.settings item true, 0⟩, [], []⟩ }
      s.powered = true ∧ s.store.running = some ⟨.settings item true, 0⟩ ∧ s.link.outstanding = some ⟨1, 9⟩ ∧ 0 ≤ s.now ∧
      s.role 2 = .vestibuleOuter 1 ∧ s.role 2 ≠ r ∧ (s.vests.get 1).occupants.length = 2) ∧
    (site.role 4 ≠ .vestibuleOuter 0) := by decide +kernel

/-- A BREAK that finds the reply of a RESTART, which may restart, or may not; a host that becomes absent over each waiting grant. -/
theorem witness_BreakAndHostAbsence_whole :
    ((∃ r ∈ (sending .restart fresh).link.tx, r.role = .restart) ∧ (sending .restart fresh).powered = true ∧
      (sending .restart fresh).mayRestart = true) ∧
    ((∃ r ∈ (sending .restart (zoneIn .release)).link.tx, r.role = .restart) ∧ (sending .restart (zoneIn .release)).powered = true ∧
      (sending .restart (zoneIn .release)).mayRestart = false) ∧
    (∀ st ∈ [GrantStage.awaitDelay, .awaitConfirm, .awaitPartner],
      let s := { waiting77 st with link := { site.link with presenceDl := some 0 } }
      s.powered = true ∧ s.link.presenceDl = some 0 ∧ 0 ≤ s.now ∧ s.grants.get 0 = some (entry77 st)) := by decide +kernel

/-- A full queue for each class and each case of displacement, the entry in transmission left out; the lost count at 254 and 255. -/
theorem witness_NoticeAdmissionFollowsMaskAndClass_displacement :
    (∀ lost ∈ [254, 255], ∀ k ∈ [NoticeKind.driverLatched, .doorForced],
      let pre := [{ noted .exit with inTx := true }]
      let post := List.replicate 46 (noted .duress) ++ List.replicate 47 (noted .lineFault)
      let lk := { Link.start with lost := lost, notices := pre ++ noted .exit :: post }
      (∀ x ∈ lk.notices, x.kind ≠ k) ∧ lk.lost ≤ 255 ∧ k ∉ lk.masks ∧ 48 ≤ (lk.notices.filter Notice.nonLife).length ∧
      (k.cls = .supervisory ∨ k.cls = .alarm) ∧ (∀ x ∈ pre, x.inTx = true ∨ x.kind.cls ≠ .routine) ∧ (noted .exit).inTx = false ∧
      (noted .exit).kind.cls = .routine) ∧
    (let lk := { Link.start with notices := List.replicate 48 (noted .lineFault) };
      NoticeKind.driverLatched.cls = .supervisory ∧ NoticeKind.doorForced.cls = .alarm ∧ (noted .lineFault).inTx = false ∧
      (noted .lineFault).kind.cls = .supervisory ∧ 48 ≤ (lk.notices.filter Notice.nonLife).length ∧
      (∀ x ∈ lk.notices, x.kind ≠ .driverLatched ∧ x.kind ≠ .doorForced ∧ x.kind.cls ≠ .routine)) ∧
    (let lk := { Link.start with notices := List.replicate 48 (noted .zoneHeld) };
      48 ≤ (lk.notices.filter Notice.nonLife).length ∧
      (∀ x ∈ lk.notices, x.kind ≠ .doorForced ∧ x.kind.cls ≠ .routine ∧ x.kind.cls ≠ .supervisory)) ∧
    (let lk := { Link.start with notices := { noted .duress with inTx := true } :: noted .duress :: List.replicate 62 (noted .duress) };
      NoticeKind.zoneRelease.cls = .life ∧ 64 ≤ lk.notices.length ∧ lk.lost ≤ 255 ∧
      (∀ x ∈ lk.notices, x.kind ≠ .zoneRelease ∧ x.kind.cls = .life)) := by decide +kernel

/-- A fifth trip and each timeout, at the bolt thrown and withdrawn, with the grant of a release; a cool-down that ends at its target. -/
theorem witness_DoorMotionsTripTimeOutAndRelock_whole :
    (∀ b ∈ [Band.bolted, .unbolted, .opened],
      ∀ x ∈ [{ Door.unused with state := .releasing, bolt := .withdrawn, motion := .moving .withdrawn 0, trips := 4 },
          { Door.unused with state := .relocking, motion := .moving .thrown 0 }, { Door.unused with state := .insecure, motion := .moving .thrown 0 },
          { Door.unused with state := .manual, mode := .manual, motion := .moving .thrown 0 },
          { Door.unused with state := .releasing, bolt := .withdrawn, motion := .cooling .withdrawn 0 },
          { Door.unused with state := .relocking, alarm := true, motion := .cooling .thrown 0 },
          { Door.unused with state := .manual, mode := .manual, motion := .cooling .thrown 0 }],
        let s := granted (entry77 .releasing) (bandAt b (doored x))
        s.powered = true ∧ s.doors.get 0 = x ∧ s.doorBand 0 = b ∧ s.grants.get 0 = some (entry77 .releasing) ∧ 0 ≤ s.now) ∧
    Bolt.thrown.reachedAt .bolted = true ∧ Bolt.withdrawn.reachedAt .unbolted = true ∧ Bolt.withdrawn.reachedAt .opened = true ∧
    (∀ b ∈ [Band.bolted, .unbolted],
      let x := { Door.unused with state := .released, bolt := .withdrawn, releaseDl := some 0 }
      let s := granted (entry77 .released) (bandAt b (doored x))
      s.powered = true ∧ s.doors.get 0 = x ∧ s.doorBand 0 = b ∧ s.grants.get 0 = some (entry77 .released) ∧ 0 ≤ s.now) := by decide +kernel

/-- The window deadline of the one listed person, the evidence mark clear and set; a report of E to a zone that takes none. -/
theorem witness_LoneWorkerTimerFollowsPressesAndDeadlines_overdue :
    (∀ mark : Bool,
      let x := { Room.empty with listed := [listed77], evidence := mark, lone := .prompt 0 }
      (roomed x).powered = true ∧ (roomed x).rooms.get 0 = x ∧ x.listed = [listed77] ∧ 0 ≤ (roomed x).now) ∧
    (zoneIn .soak).zones.get 0 = { Zone.start with state := .soak } := by decide +kernel

/-- A PRESENT at an UNUSED door. -/
theorem witness_PresentDeniedByFirstFailingStep_unused : site.free ∧ site.sup.ready = true ∧ site.role 19 = .unused := by decide +kernel

/-- A pass at a single door, by day and after hours with nobody listed, and each denial; a door that stands OPEN, and its line with it. -/
theorem witness_VestibuleAndPerimeterEntriesFollowTheirSteps_single :
    ∀ x ∈ ([(site, none), ({ site with clock := WeekClock.cold }, none), ({ site with locations := [(5, .inStrongroom 1)] }, some .passback),
        (roomed { Room.empty with listed := List.replicate 16 ⟨9, 9, none, false⟩ }, some .strongroomFull),
        (grantAt 0 .exit site, some .doorBusy), (bandAt .opened (doored { Door.unused with state := .opened }), some .doorUnavailable)] :
        List (State × Option Reason)),
      presentsAt 0 x.1 ∧ x.1.role 0 = .strongroom 0 ∧ x.1.hasVestibule 0 = false ∧ x.1.entryRefusal 0 record77 = none ∧
      (if x.1.location 5 ≠ .outside then some .passback
        else if 16 < (x.1.rooms.get 0).listed.length + 1 then some .strongroomFull
        else if x.1.grants.get 0 ≠ none then some .doorBusy
        else if ¬x.1.doorReady 0 then some .doorUnavailable
        else none) = x.2 := by decide +kernel

/-- An exit at an OPEN door in MANUAL; a PRESENT at the inside reader of each kind of door that has waited for a commit, its reply
discarded, while the CONFIRM of the entry grant at that door waits with its re-check. -/
theorem witness_ExitsFollowTheirSteps_waited :
    (presentsAt 0 (bandAt .opened (doored inManual)) ∧ unfitDoor 0 (bandAt .opened (doored inManual)) = false) ∧
    (∀ p ∈ ([(0, .strongroom 0), (1, .strongroom 1), (2, .vestibuleOuter 1)] : List (DoorId × Role)),
      let g := { entry77 .awaitConfirm with recheck := some ⟨true⟩ }
      let s := { busy site with grants := put site.grants p.1 (some g), waitPresents := [⟨p.1, .inside, 78, false⟩] }
      s.powered = true ∧ s.sup.ready = true ∧ s.commitRunning = false ∧ s.waitPresents[0]? = some ⟨p.1, .inside, 78, false⟩ ∧
      s.nv.findBadge 78 = some (6, { record77 with badge := 78 }) ∧ s.role p.1 = p.2 ∧ s.grants.get p.1 = some g ∧
      takenForPassage p.1 s = false ∧ unfitDoor p.1 s = false) := by decide +kernel

/-- A flush with a waiting entry grant at the inner door that an occupant holds. -/
theorem witness_ClearAndFlushRemoveOccupants_holder :
    let s := { chamber .inbound site with grants := put site.grants 1 (some (entry77 .awaitConfirm)) }
    s.free ∧ s.outerDoor 1 = some 2 ∧ s.strongroomDoor 1 = some 1 ∧ s.grants.get 2 = none ∧
    s.grants.get 1 = some (entry77 .awaitConfirm) ∧ (s.vests.get 1).occupants.any (fun o => (entry77 .awaitConfirm).holds o.slot) = true := by
  decide +kernel

/-- The outbound passage of an occupant, and of a holder in each other place; the exit at the inner door of a person listed, and of one
held OUTSIDE; the egress of the holder of a waiting inner grant. -/
theorem witness_VestibulePassagesMoveOccupants_whole :
    (∀ p ∈ [Location.inVestibule 1, .outside, .inStrongroom 0, .inVestibule 0],
      let s := grantAt 2 .exit { chamber .outbound site with locations := [(5, p), (6, .inVestibule 1)] }
      s.role 2 = .vestibuleOuter 1 ∧ s.grants.get 2 = some { entry77 .released with purpose := .exit } ∧
      ({ entry77 .released with purpose := .exit } : Grant).holders = [⟨5, 77⟩] ∧
      (p ≠ .outside → s.location 5 = p)) ∧
    (∀ p ∈ [Location.inStrongroom 1, .outside],
      let s := { grantAt 1 .exit site with
        rooms := put site.rooms 1 { Room.empty with listed := [listed77] }, locations := if p = Location.outside then [] else [(5, p)] }
      s.role 1 = .strongroom 1 ∧ s.hasVestibule 1 = true ∧ s.grants.get 1 = some { entry77 .released with purpose := .exit } ∧
      s.location 5 = p) ∧
    (let s := { chamber .inbound site with grants := put site.grants 1 (some (entry77 .awaitPartner)) };
      s.role 2 = .vestibuleOuter 1 ∧ (s.vests.get 1).occupants = [⟨5, 77, none⟩, ⟨6, 78, none⟩] ∧
      s.grants.get 1 = some (entry77 .awaitPartner)) := by decide +kernel

/-- An OUTBOUND chamber whose two doors are SECURE, the outer line at each band of a closed or open door, with and without a waiting entry
grant at the outer door; doors whose entry to SECURE is not handed on. -/
theorem witness_VestibulePassagesMoveOccupants_release :
    (∀ b ∈ [Band.bolted, .unbolted, .egress, .opened],
      ∀ g ∈ [none, some { entry77 .awaitConfirm with recheck := some ⟨true⟩ }],
        let s := { chamber .outbound site with
          lines := put site.lines 26 { LineRecord.start with confirmed := b }, grants := put site.grants 2 g }
        s.strongroomDoor 1 = some 1 ∧ s.outerDoor 1 = some 2 ∧ s.role 1 = .strongroom 1 ∧ s.role 2 = .vestibuleOuter 1 ∧
        (s.vests.get 1).direction = .outbound ∧ (s.doors.get 1).state = .secure ∧ (s.doors.get 2).state = .secure ∧
        s.doorBand 2 = b ∧ s.grants.get 2 = g) ∧
    site.role 3 = .perimeter ∧ site.role 0 = .strongroom 0 ∧ site.outerDoor 0 = none := by decide +kernel

/-! ## Witnesses: the part as a whole -/

theorem witness_RequestDecodesFromItsEncoding :
    ∃ (i : Instr) (f : RequestFrame), i.wellFormed = true ∧ encodeRequest i = some f :=
  ⟨.present 255 255 255 4294967295, ⟨0x30, 255, [255#8, 255#8, 255#8, 255#8, 255#8, 255#8]⟩, by decide +kernel⟩

theorem witness_ReceiverTakesFramesByByte_frames :
    ∃ (i : Instr) (f : RequestFrame) (s : State), i.wellFormed = true ∧ encodeRequest i = some f ∧ s.powered = true ∧
      s.link.receiver = .hunt :=
  ⟨.restart 0, ⟨0x51, 0, []⟩, fresh, by decide +kernel⟩

/-- The site with zone 1 counting down from its T_max, the longest countdown it can have, and GET_CLOCK in front. -/
def counting : State :=
  { zoned { Zone.start with state := .predischarge, latchA := true, latchB := true, countdown := some ⟨.automatic, 90000⟩ } site with
    pending := [.getClock 9] }

/-- The state that its step leaves. -/
def counted : State := after (.getClock 9) { counting with pending := [] }

theorem step_counting : step counting = .next counted := rfl

theorem witness_QueueBoundsAreKept : QueueBounds counting ∧ step counting = .next counted :=
  ⟨⟨by decide +kernel, by decide +kernel, by decide +kernel, by decide +kernel, by decide +kernel, by decide +kernel⟩, rfl⟩

theorem witness_CountdownNeverExceedsTMax : CountdownBounds counting ∧ step counting = .next counted := by
  refine ⟨⟨?_, nofun, nofun, ?_⟩, rfl⟩
  · intro z p h
    have none_stored : ∀ z, counting.nv.zones.get z = none := by decide +kernel
    rw [none_stored z] at h
    cases h
  · intro z c h
    have bounded : ∀ z, (counting.zones.get z).countdown.all (fun c => c.remaining ≤ (counting.zoneSettings z).tMax * 1000) = true := by
      decide +kernel
    have one := bounded z
    rw [h] at one
    simpa using one

theorem witness_CountdownShapeIsKept : (∀ z, CountdownShape (counting.zones.get z)) ∧ step counting = .next counted := by
  refine ⟨fun z => ⟨?_, ?_, ?_, ?_⟩, rfl⟩
  · revert z
    decide +kernel
  · intro c hs hc
    have kinds : ∀ z, (counting.zones.get z).countdown.all
        (fun c => decide (c.kind = .manual ↔ (counting.zones.get z).override = true)) = true := by decide +kernel
    have one := kinds z
    rw [hc] at one
    exact of_decide_eq_true one
  · intro c hs hc
    have none_held : ∀ z, (counting.zones.get z).state ≠ .held := by decide +kernel
    exact absurd hs (none_held z)
  · revert z
    decide +kernel

theorem witness_ClockShapeIsKept : ClockShape counting.clock ∧ step counting = .next counted :=
  ⟨⟨by decide +kernel, by decide +kernel, by decide +kernel, by decide +kernel⟩, rfl⟩

theorem witness_TablesShapeIsKept : TablesShape counting ∧ step counting = .next counted :=
  ⟨⟨by decide +kernel, by decide +kernel, by decide +kernel, by decide +kernel, by decide +kernel, by decide +kernel, by decide +kernel,
    by decide +kernel⟩, rfl⟩

/-- Its doors are at rest and hold no grant. -/
theorem counting_doors : ∀ d, counting.doors.get d = Door.unused ∧ counting.grants.get d = none ∧ counting.role d = site.role d := by
  decide +kernel

theorem doorsShape_counting : DoorsShape counting := by
  refine ⟨fun d => ?_, fun d => ?_, fun d => ?_, fun d g h => ?_⟩
  · rw [(counting_doors d).1]
    exact ⟨⟨nofun, nofun⟩, fun _ => by decide, by decide, by decide, by decide, by decide, by decide, by decide, nofun, by decide,
      by decide, by decide, by decide⟩
  · simp [State.grantStage, counting_doors d, Door.unused]
  · simp [State.grantStage, counting_doors d, Door.unused]
  · simp [counting_doors d] at h

theorem witness_DoorShapesAreKept :
    (∀ d, DriveFollowsBolt (counting.doors.get d)) ∧ DoorsShape counting ∧ step counting = .next counted :=
  ⟨fun d => (doorsShape_counting.doors d).follows, doorsShape_counting, rfl⟩

/-- Before READY: a first code of SHORT, the third one, which confirms and is held back, and a measurement whose request stands. -/
theorem witness_ConversionUpdatesLineRecord_held :
    (∀ g ∈ [Grantor.scan, .measurement true, .measurement false], ∀ s0 ∈ [fresh, busy fresh],
      let s := converting 24 g { s0 with lines := put fresh.lines 24 ⟨.bolted, some .short, 2, none, none, some 1⟩ }
      let t := after (.conversionEnd (some 0)) s
      s.powered = true ∧ s.sup.ready = false ∧ t.sup.ready = false ∧ s.classParams .door = ClassParams.doorDefault ∧
      (t.lines.get 24).confirmed ≠ (s.lines.get 24).confirmed) ∧
    (let s := converting 24 .scan { fresh with lines := put fresh.lines 24 ⟨.bolted, none, 0, none, none, some 1⟩ };
      let t := after (.conversionEnd (some 0)) s;
      t.sup.ready = s.sup.ready ∧ (t.lines.get 24).confirmed = (s.lines.get 24).confirmed) := by decide +kernel

/-- A manual withdraw that OPEN completes: at a door last seen open, and at one that was not, its egress handle pressed or not. -/
theorem witness_HiddenAndOverlaidDoorsTakeEachBand_open :
    ∀ m ∈ [Motion.moving .withdrawn 9, .cooling .withdrawn 9], ∀ e ∈ [true, false], ∀ q ∈ [none, some Position.opened],
      let x := { inManual with motion := m, egress := e, position := q }
      let s := bandAt .opened (doored x)
      s.sup.ready = true ∧ s.role 0 ≠ .unused ∧ s.doorBand 0 = .opened ∧ s.doors.get 0 = x ∧ Bolt.withdrawn.reachedAt .opened = true := by
  decide +kernel

/-- A withdraw whose target the line shows already, at a single door and at either door of a vestibule. -/
theorem witness_DoorRequestsModeDriveService_shown :
    (∀ b ∈ [Band.unbolted, .opened, .egress],
      let s := bandAt b (doored inManual)
      s.free ∧ (s.doors.get 0).mode = .manual ∧ (s.doors.get 0).state = .manual ∧ s.role 0 = .strongroom 0 ∧
      s.hasVestibule 0 = false ∧ (s.zones.get 0).state.refusesAll = false ∧ s.doorBand 0 = b) ∧
    (∀ p ∈ ([(1, 2), (2, 1)] : List (DoorId × DoorId)), ∀ b ∈ [Band.unbolted, .opened, .egress],
      let s0 := vestibuleDoors p.1 p.2 Door.unused
      let s := { s0 with lines := put s0.lines (doorLine p.1) { LineRecord.start with confirmed := b } }
      s.free ∧ (s.doors.get p.1).mode = .manual ∧ (s.doors.get p.1).state = .manual ∧ s.doorBand p.1 = b ∧ s.countsShut p.2 ∧
      (s.zones.get 1).state.refusesAll = false) := by decide +kernel

/-- A holder who is found in another strongroom, in a vestibule and OUTSIDE, at each passage. -/
theorem witness_PassagesMoveSlots_found :
    ∀ l ∈ [[], [((5 : SlotId), Location.inStrongroom 2)], [(5, .inVestibule 1)]],
      let s := { site with locations := l }
      (granted (entry77 .released) s).role 0 = .strongroom 0 ∧ (granted (entry77 .released) s).hasVestibule 0 = false ∧
      (∀ d ∈ ([0, 1] : List DoorId), (grantAt d .exit s).grants.get d = some { entry77 .released with purpose := .exit }) ∧
      (grantAt 2 .entry s).grants.get 2 = some (entry77 .released) ∧ (grantAt 2 .entry s).role 2 = .vestibuleOuter 1 := by decide +kernel

/-- A settings write whose reply a BREAK has discarded. -/
theorem witness_StoreCompletesWrites_discarded :
    ∀ item ∈ [SettingsItem.cls .door ClassParams.doorDefault, .loop 0 LoopSettings.default, .zone 0 ZoneSettings.default,
        .actuator 0 (some 0), .door 0 { DoorSettings.default with role := .perimeter }, .window 0 WindowSettings.default],
      let s := { site with store := ⟨some ⟨.settings item false, 0⟩, [], []⟩ }
      s.powered = true ∧ s.store.running = some ⟨.settings item false, 0⟩ ∧ 0 ≤ s.now ∧ s.link.outstanding = none := by decide +kernel

/-- Two actuators of zone 1 by their records, one that is stored and one that waits: the zone holds four, and a fifth is refused. -/
def fourHeld : State :=
  { fresh with
    acts := put (put fresh.acts 0 { Actuator.start with state := .armed, zone := some 0 }) 1
      { Actuator.start with state := .fired, zone := some 0 }
    nv := { Nv.blank with assignments := put (put (put Nv.blank.assignments 0 (some 0)) 1 (some 0)) 2 (some 0) }
    store := ⟨some ⟨.mark (.spent 1) true, 9⟩, [], [.settings (.actuator 3 (some 0)) false]⟩ }

theorem test_fifth_actuator_is_refused :
    ((every 32).filter (fun b => b ≠ 4 && fourHeld.heldFor 0 b)).length = 4 ∧
    after (.setActuator 9 5 1) fourHeld = (heard 0x13 9 fourHeld).withReply 0x13 9 .badValue .none := by decide +kernel

/-- Door 5 is about to be the outer door of strongroom 1; no other door may become it, nor may door 1 leave its role. -/
theorem test_waiting_role_is_taken :
    let s := { site with store := ⟨some ⟨.settings (.door 4 { DoorSettings.default with role := .vestibuleOuter 0 }) false, 9⟩, [], []⟩ }
    after (.setDoor 9 6 1 1 0 5 30 20 8 30 20 60) s = (heard 0x14 9 s).withReply 0x14 9 .badValue .none ∧
    after (.setDoor 9 1 2 0 0 5 30 20 8 30 20 60) s = (heard 0x14 9 s).withReply 0x14 9 .badValue .none := by decide +kernel

theorem rolesUnique_counting : RolesUnique counting := by
  have ahead : ∀ d, counting.rolesAhead d = [site.role d] := by decide +kernel
  have unique : ∀ d e v, (site.role d = .strongroom v → site.role e = .strongroom v → d = e) ∧
    (site.role d = .vestibuleOuter v → site.role e = .vestibuleOuter v → d = e) := by decide +kernel
  refine ⟨fun v d e h k => ?_, fun v d e h k => ?_⟩ <;> simp only [ahead, List.mem_singleton] at h k
  · exact (unique d e v).1 h.symm k.symm
  · exact (unique d e v).2 h.symm k.symm

theorem witness_VestibuleShapeIsKept :
    DoorsShape counting ∧ VestibuleShape counting ∧ RolesUnique counting ∧ step counting = .next counted :=
  have unmoved : ∀ d, counting.grantMoving d = false := by decide +kernel
  ⟨doorsShape_counting,
   ⟨by decide +kernel, fun v d g _ h => by simp [counting_doors d] at h, fun v d g _ h => by simp [counting_doors d] at h,
     fun v d e _ _ h => by simp [unmoved d] at h⟩,
   rolesUnique_counting, rfl⟩

theorem witness_BadgesStayUnique : BadgesUnique counting ∧ step counting = .next counted := by
  refine ⟨⟨by decide +kernel, by decide +kernel, by decide +kernel, ?_, nofun⟩, rfl⟩
  intro row staged touched j h
  rcases h with h | h <;> cases h

theorem witness_IsolatedZoneLeavesByDeisolateOnly :
    ∃ (c : Instr) (s t : State) (z : ZoneId), exec c s = .next t ∧ (s.zones.get z).state = .isolated :=
  ⟨.getClock 9, zoneIn .isolated, after (.getClock 9) (zoneIn .isolated), 0, rfl, by decide +kernel⟩

end Sys2Proof.Tests
end

/-! Proofs of the family of line supervision. -/

namespace Sys2Proof.Machine

/-! ## Requests that read one object -/

/-- A reading request whose operand names an object answers with the object's data. -/
theorem readObject_some {α : Type} {s : State} {r : Request} (a : α) (f : State → α → ReplyData)
    (h : s.link.outstanding = some r) :
    readObject (some a) f s = s.withReply r.kind r.tag .ok (f s a) :=
  answerData_outstanding (f s a) h

/-- A reading request whose operand names no object is refused with BAD_VALUE. -/
theorem readObject_none {α : Type} {s : State} {r : Request} (f : State → α → ReplyData)
    (h : s.link.outstanding = some r) :
    readObject none f s = s.withReply r.kind r.tag .badValue .none :=
  answer_outstanding .badValue h

/-! ## GET_LINE (R17) -/

theorem exec_getLine_free {s : State} (tag n : Nat) (h : s.free) :
    exec (.getLine tag n) s = .next (performGetLine n (heard 0x02 tag s)) :=
  onRequest_free 0x02 tag (performGetLine n) h

/-- A line number from 0 to 63 is answered with the line's reply. -/
theorem performGetLine_line {s : State} {r : Request} (l : LineId) (h : s.link.outstanding = some r) :
    performGetLine l.val s = s.withReply r.kind r.tag .ok (.line (s.lineReply l)) := by
  rw [performGetLine, fromZero_val, readObject_some _ _ h]

/-- A line number from 64 is refused. -/
theorem performGetLine_outside {s : State} {r : Request} {n : Nat} (hn : 64 ≤ n) (h : s.link.outstanding = some r) :
    performGetLine n s = s.withReply r.kind r.tag .badValue .none := by
  rw [performGetLine, fromZero_none hn, readObject_none _ h]

/-- Taking a request changes nothing that GET_LINE reports. -/
@[simp] theorem lineReply_heard (kind tag : Nat) (l : LineId) (s : State) :
    (heard kind tag s).lineReply l = s.lineReply l := rfl

/-- GET_LINE reports the fast-follow of a line with a staff loop. -/
theorem lineReply_of_loop {l : LineId} {k : LoopId} (s : State) (hl : loopOfLine l = some k) :
    s.lineReply l = ⟨lineClass l, (s.lines.get l).confirmed, (s.lines.get l).candidate, (s.lines.get l).count,
      (s.lines.get l).lastCode, (s.lines.get l).lastTime, some (s.sup.fastFollow.get k).isSome⟩ := by
  simp only [State.lineReply, hl, Option.map_some]

/-- GET_LINE reports no fast-follow for a line of another class. -/
theorem lineReply_of_no_loop {l : LineId} (s : State) (hl : loopOfLine l = none) :
    s.lineReply l = ⟨lineClass l, (s.lines.get l).confirmed, (s.lines.get l).candidate, (s.lines.get l).count,
      (s.lines.get l).lastCode, (s.lines.get l).lastTime, none⟩ := by
  simp only [State.lineReply, hl, Option.map_none]

/-- Settles O10: the request is taken as the outstanding one, and its operand either names a line, with a staff loop or
without one, or is refused. -/
theorem getLineReportsRecord : Obligations.GetLineReportsRecord := by
  unfold Obligations.GetLineReportsRecord
  intro s tag n hfree
  have hout := heard_outstanding 0x02 tag s
  rw [exec_getLine_free tag n hfree]
  constructor
  · rintro l rfl
    rw [performGetLine_line l hout, lineReply_heard]
    cases hl : loopOfLine l with
    | none => simp only [lineReply_of_no_loop s hl]
    | some k => simp only [lineReply_of_loop s hl]
  · intro hn
    rw [performGetLine_outside hn hout]

end Sys2Proof.Machine

/-! Proofs of the family of countdown, abort and occupied hold. -/

namespace Sys2Proof.Machine

/-! ## What a change of actuators and firing bank leaves as it is -/

section
variable {s t : State} (h : BankOnly s t)
include h

theorem BankOnly.zones : t.zones = s.zones := by obtain ⟨_, _, rfl⟩ := h; rfl

theorem BankOnly.store : t.store = s.store := by obtain ⟨_, _, rfl⟩ := h; rfl

end

/-! ## The hand-over of actuators to the firing queue (R84) -/

/-- The actuators of a list are handed to the firing queue one after another, as `enterRelease` hands over the ARMED ones. -/
def queueAll (l : List ActId) (s : State) : State := l.foldl (fun s a => queueArmed a s) s

theorem queueAll_cons (a : ActId) (rest : List ActId) (s : State) :
    queueAll (a :: rest) s = queueAll rest (queueArmed a s) := rfl

@[simp] theorem queueArmed_bank (a : ActId) (s : State) :
    (queueArmed a s).bank = { s.bank with queue := s.bank.queue ++ [a] } := rfl

theorem queueArmed_acts_same (a : ActId) (s : State) : ((queueArmed a s).acts.get a).state = .queued := by
  simp [queueArmed]

theorem queueArmed_acts_other {a b : ActId} (s : State) (h : b ≠ a) : (queueArmed a s).acts.get b = s.acts.get b := by
  simp [queueArmed, h]

theorem queueAll_reach (l : List ActId) (s : State) : BankOnly s (queueAll l s) := by
  induction l generalizing s with
  | nil => exact .refl s
  | cons a rest ih => exact (queueArmed_reach a s).trans (ih (queueArmed a s))

@[simp] theorem queueAll_bank (l : List ActId) (s : State) :
    (queueAll l s).bank = { s.bank with queue := s.bank.queue ++ l } := by
  induction l generalizing s with
  | nil => simp [queueAll]
  | cons a rest ih => simp [queueAll_cons, ih]

theorem queueAll_acts_other {l : List ActId} {b : ActId} (s : State) (h : b ∉ l) :
    (queueAll l s).acts.get b = s.acts.get b := by
  induction l generalizing s with
  | nil => rfl
  | cons a rest ih =>
    obtain ⟨hba, hrest⟩ := not_or.1 (mt List.mem_cons.2 h)
    exact (ih (queueArmed a s) hrest).trans (queueArmed_acts_other s hba)

/-- Every actuator handed over is QUEUED after the last has been. -/
theorem queueAll_acts_mem {l : List ActId} {b : ActId} (s : State) (h : b ∈ l) :
    ((queueAll l s).acts.get b).state = .queued := by
  induction l generalizing s with
  | nil => cases h
  | cons a rest ih =>
    by_cases hb : b ∈ rest
    · exact ih (queueArmed a s) hb
    · have hba : b = a := (List.mem_cons.1 h).resolve_right hb
      subst hba
      rw [queueAll_cons, queueAll_acts_other _ hb, queueArmed_acts_same]

/-! ## What the pulse grants keep (R85, R86) -/

theorem grantOne_pause (s : State) : (grantOne s).bank.pauseEnd = s.bank.pauseEnd := by
  rcases grantOne_cases s with e | ⟨a, rest, _, _, e⟩ <;> rw [e]

theorem grantPulses_pause (s : State) : (grantPulses s).bank.pauseEnd = s.bank.pauseEnd :=
  (grantOne_pause _).trans (grantOne_pause s)

/-- A QUEUED actuator stays so or becomes FIRING. -/
theorem grantPulses_queued {s : State} {a : ActId} (h : (s.acts.get a).state = .queued) :
    ((grantPulses s).acts.get a).state = .queued ∨ ((grantPulses s).acts.get a).state = .firing := by
  rcases grantOne_state (grantOne s) a with second | second
  · rcases grantOne_state s a with first | first
    · exact .inl (second.trans (first.trans h))
    · exact .inr (second.trans first)
  · exact .inr second

/-! ## The entry to RELEASE in three parts (R50 to R53, R84, R85) -/

/-- The zone record on entry to RELEASE, the actuators of `armed` outstanding. -/
def Zone.releasing (armed : List ActId) (x : Zone) : Zone :=
  { x with state := .release, countdown := none, holdDl := none, outstanding := armed, fired := false, discharge := true }

/-- The first part: the zone record, ZONE_RELEASE, the discharge mark and the notices of the doors that are not SECURE. -/
def releaseRecorded (z : ZoneId) (s : State) : State :=
  let t := requestMark (.discharge z) true
    (raise .zoneRelease (.zone z) none (s.setZone z (Zone.releasing (s.armedOf z) (s.zones.get z))))
  reportOpenDoor (t.outerDoor z) (reportOpenDoor (t.strongroomDoor z) t)

/-- The second part: the ARMED actuators, their first pulses and the hand-over of the zone's state. -/
def releaseHanded (z : ZoneId) (s : State) : State :=
  handZone z (grantPulses (queueAll (s.armedOf z) (releaseRecorded z s)))

/-- The third part: without an ARMED actuator the release has failed. -/
theorem enterRelease_eq (z : ZoneId) (s : State) :
    enterRelease z s = if (s.armedOf z).isEmpty then failRelease z (releaseHanded z s) else releaseHanded z s := rfl

/-- Past the record and the mark, the first part raises notices only. -/
theorem releaseRecorded_reach (z : ZoneId) (s : State) :
    AccessOnly (requestMark (.discharge z) true
      (raise .zoneRelease (.zone z) none (s.setZone z (Zone.releasing (s.armedOf z) (s.zones.get z)))))
      (releaseRecorded z s) :=
  (reportOpenDoor_reach ..).trans (reportOpenDoor_reach ..)

@[simp] theorem releaseRecorded_zones (z : ZoneId) (s : State) :
    (releaseRecorded z s).zones = put s.zones z (Zone.releasing (s.armedOf z) (s.zones.get z)) :=
  (releaseRecorded_reach z s).zones

@[simp] theorem releaseRecorded_acts (z : ZoneId) (s : State) : (releaseRecorded z s).acts = s.acts :=
  (releaseRecorded_reach z s).acts

@[simp] theorem releaseRecorded_bank (z : ZoneId) (s : State) : (releaseRecorded z s).bank = s.bank :=
  (releaseRecorded_reach z s).bank

@[simp] theorem releaseRecorded_store (z : ZoneId) (s : State) :
    (releaseRecorded z s).store = markQueued (.discharge z) true s :=
  (releaseRecorded_reach z s).store

@[simp] theorem releaseHanded_acts (z : ZoneId) (s : State) :
    (releaseHanded z s).acts = (grantPulses (queueAll (s.armedOf z) (releaseRecorded z s))).acts :=
  (handZone_reach ..).acts

@[simp] theorem releaseHanded_bank (z : ZoneId) (s : State) :
    (releaseHanded z s).bank = (grantPulses (queueAll (s.armedOf z) (releaseRecorded z s))).bank :=
  (handZone_reach ..).bank

@[simp] theorem releaseHanded_zones (z : ZoneId) (s : State) :
    (releaseHanded z s).zones = put s.zones z (Zone.releasing (s.armedOf z) (s.zones.get z)) := by
  have hand : (releaseHanded z s).zones = _ := (handZone_reach ..).zones
  rw [hand, (grantPulses_reach _).zones, (queueAll_reach ..).zones, releaseRecorded_zones]

@[simp] theorem releaseHanded_store (z : ZoneId) (s : State) :
    (releaseHanded z s).store = markQueued (.discharge z) true s := by
  have hand : (releaseHanded z s).store = _ := (handZone_reach ..).store
  rw [hand, (grantPulses_reach _).store, (queueAll_reach ..).store, releaseRecorded_store]

/-! ## The failure of a release (R50, R52) -/

/-- Past the zone record, a failed release reaches the access fields alone. -/
theorem failRelease_recorded (z : ZoneId) (s : State) :
    AccessOnly (s.setZone z { s.zones.get z with state := .releaseFailed }) (failRelease z s) :=
  (raise_reach ..).trans (handZone_reach ..)

@[simp] theorem failRelease_zones (z : ZoneId) (s : State) :
    (failRelease z s).zones = put s.zones z { s.zones.get z with state := .releaseFailed } :=
  (failRelease_recorded z s).zones

@[simp] theorem failRelease_acts (z : ZoneId) (s : State) : (failRelease z s).acts = s.acts :=
  (failRelease_recorded z s).acts

@[simp] theorem failRelease_bank (z : ZoneId) (s : State) : (failRelease z s).bank = s.bank :=
  (failRelease_recorded z s).bank

@[simp] theorem failRelease_store (z : ZoneId) (s : State) : (failRelease z s).store = s.store :=
  (failRelease_recorded z s).store

/-! ## What the entry to RELEASE does (R50, R53, R84, R85) -/

theorem enterRelease_zones (z : ZoneId) (s : State) :
    (enterRelease z s).zones = put s.zones z { Zone.releasing (s.armedOf z) (s.zones.get z) with
      state := if s.armedOf z = [] then .releaseFailed else .release } := by
  rw [enterRelease_eq]
  by_cases unarmed : s.armedOf z = []
  · simp [unarmed]
  · simp [unarmed, Zone.releasing]

theorem enterRelease_acts (z : ZoneId) (s : State) :
    (enterRelease z s).acts = (grantPulses (queueAll (s.armedOf z) (releaseRecorded z s))).acts := by
  rw [enterRelease_eq]
  split <;> simp

theorem enterRelease_bank (z : ZoneId) (s : State) :
    (enterRelease z s).bank = (grantPulses (queueAll (s.armedOf z) (releaseRecorded z s))).bank := by
  rw [enterRelease_eq]
  split <;> simp

theorem enterRelease_store (z : ZoneId) (s : State) :
    (enterRelease z s).store = markQueued (.discharge z) true s := by
  rw [enterRelease_eq]
  split <;> simp

/-- In every state the model's entry to RELEASE is the one the obligations describe. -/
theorem enterRelease_entersRelease (z : ZoneId) (s : State) : EntersRelease z s (enterRelease z s) where
  zone := by rw [enterRelease_zones, put_get_same]; rfl
  others y hy := by rw [enterRelease_zones, put_get_other _ _ hy]
  handed a ha := by
    rw [enterRelease_acts]
    exact grantPulses_queued (queueAll_acts_mem _ ha)
  rest a ha hq := by
    have unqueued : a ∉ (queueAll (s.armedOf z) (releaseRecorded z s)).bank.queue := by simp [ha, hq]
    rw [enterRelease_acts, grantPulses_acts unqueued, queueAll_acts_other _ ha, releaseRecorded_acts]
  order := by rw [enterRelease_bank, grantPulses_order]; simp
  pulses := by
    rw [enterRelease_bank]
    simpa using grantPulses_count (queueAll (s.armedOf z) (releaseRecorded z s))
  pause := by rw [enterRelease_bank, grantPulses_pause]; simp
  mark := enterRelease_store z s

/-! ## A report of E to a zone in HELD_OCCUPIED (R75) -/

theorem reportE_heldOccupied {z : ZoneId} {s : State} (h : (s.zones.get z).state = .heldOccupied) :
    reportE z s = if (s.rooms.get z).effective = 0 then enterRelease z s else s := by
  simp only [reportE, h]
  rfl

/-- Settles O15: a report of 0 is the entry to RELEASE, and any other is nothing. -/
theorem occupancyReportEndsOccupiedHold : Obligations.OccupancyReportEndsOccupiedHold := by
  unfold Obligations.OccupancyReportEndsOccupiedHold
  intro s z held
  rw [reportE_heldOccupied held]
  constructor
  · intro empty
    rw [if_pos empty]
    exact enterRelease_entersRelease z s
  · intro occupied
    rw [if_neg (Nat.ne_of_gt occupied)]

end Sys2Proof.Machine

/-! Proofs of the family of panel link notices and stored settings. -/

namespace Sys2Proof.Machine

/-! ## Coalescing (R195) -/

/-- A repeat count within its range goes up by one and stays at 255. -/
theorem bump_eq_min {n : Nat} (h : n ≤ 255) : bump n = min 255 (n + 1) := by
  unfold bump Config.maxCount
  split <;> omega

theorem matches_iff {k : NoticeKind} {o : NoticeObject} {d : Option Detail} {e : Notice} :
    e.matches k o d = true ↔ e.inTx = false ∧ e.kind = k ∧ e.object = o ∧ e.detail = d := by
  simp only [Notice.matches, Bool.and_eq_true, Bool.not_eq_true', decide_eq_true_eq, and_assoc]

theorem matches_eq_false_iff {k : NoticeKind} {o : NoticeObject} {d : Option Detail} {e : Notice} :
    e.matches k o d = false ↔ e.inTx = true ∨ e.kind ≠ k ∨ e.object ≠ o ∨ e.detail ≠ d := by
  simp only [Notice.matches, Bool.and_eq_false_iff, Bool.not_eq_false', decide_eq_false_iff_not, or_assoc, ne_eq]

/-- Where the oldest matching entry stands is where coalescing counts the repeat. -/
theorem coalesce_append {k : NoticeKind} {o : NoticeObject} {d : Option Detail} {pre : List Notice} {e : Notice}
    (post : List Notice) (older : ∀ x ∈ pre, x.matches k o d = false) (he : e.matches k o d = true) :
    coalesce k o d (pre ++ e :: post) = some (pre ++ { e with repeats := bump e.repeats } :: post) := by
  induction pre with
  | nil => simp only [List.nil_append, coalesce, if_pos he]
  | cons x rest ih =>
    have hx : x.matches k o d = false := older x List.mem_cons_self
    have hrest := ih fun y hy => older y (List.mem_cons_of_mem x hy)
    simp only [List.cons_append, coalesce, hx, Bool.false_eq_true, if_false, hrest, Option.map_some]

/-- A notice that is not masked and coalesces changes the queue alone. -/
theorem take_of_coalesce {lk : Link} {n : Notice} {q : List Notice} (unmasked : n.kind ∉ lk.masks)
    (h : coalesce n.kind n.object n.detail lk.notices = some q) : lk.take n = { lk with notices := q } := by
  simp only [Link.take, if_neg unmasked, h]

/-- Settles O46: the named entry is the oldest that matches, so coalescing counts the repeat there. -/
theorem noticeCoalescesIntoOldest : Obligations.NoticeCoalescesIntoOldest := by
  unfold Obligations.NoticeCoalescesIntoOldest
  intro lk n e pre post unmasked hq older notInTx hkind hobject hdetail hrepeats
  have hpre : ∀ x ∈ pre, x.matches n.kind n.object n.detail = false := fun x hx => matches_eq_false_iff.2 (older x hx)
  have he : e.matches n.kind n.object n.detail = true := matches_iff.2 ⟨notInTx, hkind, hobject, hdetail⟩
  rw [← bump_eq_min hrepeats]
  apply take_of_coalesce unmasked
  rw [hq, coalesce_append post hpre he]

end Sys2Proof.Machine


/-! Proof of the step's own statement. -/

namespace Sys2Proof.Machine

/-- Settles O1: by the definition of a step. -/
theorem stepRunsFrontCommand : Obligations.StepRunsFrontCommand := by
  refine ⟨fun c rest s h => ?_, fun s h => ?_⟩ <;> simp [step, h]

end Sys2Proof.Machine


/-! Proofs of the shapes that every step keeps: the elementary moves that every operation is made of. -/

namespace Sys2Proof.Machine

/-! ## Elementary moves -/

/-- What a command may do besides the moves that every command may make: which zones may leave ISOLATED, and whether it may touch the
week clock, the credential rows, and the roles of the doors; and whether it is looked at apart what it does to the order of doors and
grants. -/
structure Scope where
  leaves : ZoneId → Prop
  clock  : Prop
  rows   : Prop
  roles  : Prop
  apart  : Prop

/-- The scope of a command that touches none of these. -/
def Scope.plain : Scope := ⟨fun _ => False, False, False, False, False⟩

/-- Zone `z` may take the record `x`: the shape of its countdown, the bound of T_max and ISOLATED are kept. -/
structure ZoneMove (K : Scope) (s : State) (z : ZoneId) (x : Zone) : Prop where
  shape    : CountdownShape (s.zones.get z) → CountdownShape x
  bound    : (s.zoneSettings z).ok = true →
    (∀ c, (s.zones.get z).countdown = some c → c.remaining ≤ (s.zoneSettings z).tMax * 1000) →
    ∀ c, x.countdown = some c → c.remaining ≤ (s.zoneSettings z).tMax * 1000
  isolated : (s.zones.get z).state = .isolated → x.state = .isolated ∨ K.leaves z

/-- A settings record that a request may hand to the store (R61, R79, R158). -/
structure RequestFits (K : Scope) (s : State) (item : SettingsItem) : Prop where
  zone     : ∀ z p, item = .zone z p → p.ok = true
  actuator : ∀ a z, item = .actuator a (some z) → s.zoneFull z a = false
  door     : ∀ d p, item = .door d p → K.roles

/-- A nonvolatile memory that differs in marks and in records that no shape but those of the scope speaks of. -/
structure NvMove (K : Scope) (m n : Nv) : Prop where
  zones       : n.zones = m.zones
  assignments : n.assignments = m.assignments
  credentials : n.credentials = m.credentials ∨
    K.rows ∧ (sparseOk Credential.empty m.credentials = true → sparseOk Credential.empty n.credentials = true)
  doors       : n.doors = m.doors ∨ K.roles

/-- Every settings record that `u` has accepted `st` has accepted too. -/
def Store.Within (u st : Store) : Prop :=
  ∀ item owed, .settings item owed ∈ u.accepted → ∃ owed', .settings item owed' ∈ st.accepted

/-- `t` follows from `s` by elementary moves. Every operation but a start is made of them. -/
inductive Steps (K : Scope) : State → State → Prop
  | refl (s : State) : Steps K s s
  | trans {s t u : State} (h : Steps K s t) (k : Steps K t u) : Steps K s u
  | free {s t : State} (h : t = { s with
      lines := t.lines, sup := t.sup, loops := t.loops, grants := t.grants, freeze := t.freeze, hostPresent := t.hostPresent
      waitPresents := t.waitPresents, waitGets := t.waitGets, quarters := t.quarters }) : Steps K s t
  | clock (h : K.clock) (c : WeekClock) (s : State) : Steps K s { s with clock := c }
  | asOf {s u : State} (t : Nat) (h : Steps K (s.asAt t) u) : Steps K s { u with quarters := s.quarters, clock := s.clock }
  | link (lk : Link) (s : State) (h : QueueBounds s → QueueBounds { s with link := lk }) : Steps K s { s with link := lk }
  | zones (zs : Vector Zone 12) (s : State) (h : ∀ z, ZoneMove K s z (zs.get z)) : Steps K s { s with zones := zs }
  | act (a : ActId) (x : Actuator) (s : State)
      (h : ∀ z, x.zone = some z → (s.acts.get a).zone = some z ∨ s.nv.assignments.get a = some z) : Steps K s (s.setAct a x)
  | bank (b : Bank) (s : State)
      (h : s.bank.inFlight.length ≤ 2 → s.bank.pulseCount ≤ 6 → b.inFlight.length ≤ 2 ∧ b.pulseCount ≤ 6) :
      Steps K s { s with bank := b }
  | room (v : RoomId) (x : Room) (s : State) (h : (s.rooms.get v).listed.length ≤ 16 → x.listed.length ≤ 16)
      (k : (s.rooms.get v).assumedOut.length ≤ 8 → x.assumedOut.length ≤ 8) : Steps K s (s.setRoom v x)
  | location (slot : SlotId) (p : Location) (s : State) : Steps K s (s.setLocation slot p)
  | vest (v : RoomId) (x : Vestibule) (s : State)
      (h : ((s.vests.get v).direction = .none ↔ (s.vests.get v).occupants = []) → (x.direction = .none ↔ x.occupants = [])) :
      Steps K s (s.setVest v x)
  | door (d : DoorId) (x : Door) (s : State) (h : DriveFollowsBolt (s.doors.get d) → DriveFollowsBolt x) : Steps K s (s.setDoor d x)
  | store (st : Store) (s : State) (h : st.Within s.store) : Steps K s { s with store := st }
  | request (item : SettingsItem) (s : State) (h : RequestFits K s item) : Steps K s (requestSettings item s)
  | stage (h : K.rows) (g : Stage) (s : State) : Steps K s { s with stage := g }
  | nv (n : Nv) (s : State) (h : NvMove K s.nv n) : Steps K s { s with nv := n }
  | writeZone (z : ZoneId) (p : ZoneSettings) (owed : Bool) (dl : Nat) (s : State)
      (h : s.store.running = some ⟨.settings (.zone z p) owed, dl⟩) :
      Steps K s (clampCountdown z { endRunning s with nv := s.nv.writeSettings (.zone z p) })
  | writeActuator (a : ActId) (z : Option ZoneId) (owed : Bool) (dl : Nat) (s : State)
      (h : s.store.running = some ⟨.settings (.actuator a z) owed, dl⟩) :
      Steps K s { endRunning s with nv := s.nv.writeSettings (.actuator a z) }

/-! ## What no move reaches -/

section
variable {K : Scope} {s t : State}

theorem Steps.pending (h : Steps K s t) : t.pending = s.pending := by
  induction h with
  | trans _ _ ih ik => exact ik.trans ih
  | free h => rw [h]
  | asOf t _ ih => rw [ih]; unfold State.asAt; split <;> rfl
  | _ => rfl

/-- A command that does not touch the week clock leaves it as it is. -/
theorem Steps.clock_eq (h : Steps K s t) (quiet : ¬K.clock) : t.clock = s.clock := by
  induction h with
  | trans _ _ ih ik => exact ik.trans ih
  | free h => rw [h]
  | clock h => exact absurd h quiet
  | _ => rfl

/-- A command that does not touch the credential rows leaves the stage as it is. -/
theorem Steps.stage_eq (h : Steps K s t) (quiet : ¬K.rows) : t.stage = s.stage := by
  induction h with
  | trans _ _ ih ik => exact ik.trans ih
  | free h => rw [h]
  | asOf t _ ih => rw [ih]; unfold State.asAt; split <;> rfl
  | stage h => exact absurd h quiet
  | _ => rfl

theorem Steps.credentials_eq (h : Steps K s t) (quiet : ¬K.rows) : t.nv.credentials = s.nv.credentials := by
  induction h with
  | trans _ _ ih ik => exact ik.trans ih
  | free h => rw [h]
  | asOf t _ ih => rw [ih]; unfold State.asAt; split <;> rfl
  | nv n s h => exact h.credentials.resolve_right fun k => quiet k.1
  | _ => rfl

end

end Sys2Proof.Machine


/-! Proofs of the shapes that every step keeps: the order that the vestibule shape needs of doors and grants, and what keeps it. -/

namespace Sys2Proof.Machine

variable {s t u : State} {d : DoorId}

/-! ## Motions and states of a door (R142 to R145) -/

/-- The target of the motion under way. -/
def Door.target (x : Door) : Option Bolt :=
  match x.motion with
  | .idle => none
  | .moving target _ => some target
  | .cooling retry _ => some retry

/-- The door is RELEASING or RELEASED. -/
def Door.held (x : Door) : Prop := x.state = .releasing ∨ x.state = .released

/-- The motion goes where the state says: a releasing door is not throwing, a released one rests, and only a releasing door, or one in
MANUAL, withdraws. -/
structure Guided (x : Door) : Prop where
  releasing   : x.state = .releasing → x.target ≠ some .thrown
  released    : x.state = .released → x.target = none
  withdrawing : x.target = some .withdrawn → x.state = .releasing ∨ x.state = .manual

theorem Guided.idle {x : Door} (rest : x.motion = .idle) : Guided x := by
  have none : x.target = none := by rw [Door.target, rest]
  exact ⟨fun _ => (by rw [none]; nofun), fun _ => none, fun h => (by rw [none] at h; cases h)⟩

/-- A door with the state and the target of a guided one. -/
theorem Guided.same {x y : Door} (h : Guided x) (state : y.state = x.state) (target : y.target = x.target) : Guided y :=
  ⟨fun e => target ▸ h.releasing (state ▸ e), fun e => target ▸ h.released (state ▸ e),
    fun e => state ▸ h.withdrawing (target ▸ e)⟩

/-- A throw under way, at a door that is neither RELEASING nor RELEASED. -/
theorem Guided.throwing {x : Door} (away : ¬ x.held) (target : x.target = some .thrown) : Guided x :=
  ⟨fun e => absurd (.inl e) away, fun e => absurd (.inr e) away, fun e => by rw [target] at e; cases e⟩

theorem Guided.withdrawn {x : Door} (state : x.state = .releasing) (target : x.target = some .withdrawn) : Guided x :=
  ⟨fun _ => (by rw [target]; nofun), fun e => (by rw [state] at e; cases e), fun _ => .inl state⟩

theorem Guided.manual {x : Door} (state : x.state = .manual) : Guided x :=
  ⟨fun e => (by rw [state] at e; cases e), fun e => (by rw [state] at e; cases e), fun _ => .inr state⟩

/-! ## The order of doors, grants and vestibules (R129, R162 to R171) -/

/-- The two doors of one vestibule. -/
def State.Paired (s : State) (d e : DoorId) : Prop :=
  ∃ v, s.role d = .strongroom v ∧ s.role e = .vestibuleOuter v ∨ s.role d = .vestibuleOuter v ∧ s.role e = .strongroom v

/-- A grant of this purpose and these holders may move at the door. -/
structure MayMove (s : State) (d : DoorId) (p : Purpose) (hs : List Holder) : Prop where
  inbound   : ∀ v, s.role d = .vestibuleOuter v → p = .entry → hs.length = 1 ∧ (s.vests.get v).occupants.length ≤ 1
  outbound  : ∀ v, s.role d = .strongroom v → p = .exit →
    hs.length = 1 ∧ (s.hasVestibule v = true → (s.vests.get v).occupants.length ≤ 1)
  interlock : ∀ e, s.Paired d e → s.grantMoving e = false

/-- A grant goes with the state of its door, and moves only where it may. -/
structure GrantFits (s : State) (d : DoorId) (x : Door) (g : Grant) : Prop where
  held    : g.stage.waits = false ↔ x.held
  waiting : g.stage.waits = true → g.purpose = .entry ∧ g.holders ≠ []
  outer   : ∀ v, s.role d = .vestibuleOuter v → g.purpose = .entry → g.holders.length = 1 ∧ g.stage ≠ .awaitPartner
  moves   : g.stage.waits = false → MayMove s d g.purpose g.holders

/-- What the vestibule shape needs of the other records, and that shape itself. -/
structure Ordered (s : State) : Prop where
  guided   : ∀ d, Guided (s.doors.get d)
  fits     : ∀ d g, s.grants.get d = some g → GrantFits s d (s.doors.get d) g
  capacity : ∀ v, (s.vests.get v).occupants.length ≤ 2
  inner    : ∀ v d e, s.role d = .strongroom v → s.role e = .strongroom v → d = e
  outer    : ∀ v d e, s.role d = .vestibuleOuter v → s.role e = .vestibuleOuter v → d = e

theorem State.Paired.symm {e : DoorId} (h : s.Paired d e) : s.Paired e d := by
  obtain ⟨v, h | h⟩ := h
  · exact ⟨v, .inr ⟨h.2, h.1⟩⟩
  · exact ⟨v, .inl ⟨h.2, h.1⟩⟩

theorem State.Paired.ne {e : DoorId} (h : s.Paired d e) : e ≠ d := by
  rintro rfl
  obtain ⟨v, ⟨a, b⟩ | ⟨a, b⟩⟩ := h <;> rw [a] at b <;> cases b

theorem grantMoving_eq_true : s.grantMoving d = true ↔ ∃ g, s.grants.get d = some g ∧ g.stage.waits = false := by
  unfold State.grantMoving
  cases s.grants.get d <;> simp

theorem grantMoving_eq_false : s.grantMoving d = false ↔ ∀ g, s.grants.get d = some g → g.stage.waits = true := by
  unfold State.grantMoving
  cases s.grants.get d <;> simp

theorem role_congr (nv : t.nv.doors = s.nv.doors) (d : DoorId) : t.role d = s.role d := by
  rw [State.role, State.role, State.doorSettings, State.doorSettings, nv]

theorem hasVestibule_congr (roles : ∀ d, t.role d = s.role d) (v : RoomId) : t.hasVestibule v = s.hasVestibule v := by
  simp only [State.hasVestibule, State.outerDoor, roles]

theorem Paired_congr (roles : ∀ d, t.role d = s.role d) {e : DoorId} : t.Paired d e ↔ s.Paired d e := by
  simp only [State.Paired, roles]

theorem strongroomDoor_role {v : RoomId} {i : DoorId} (h : s.strongroomDoor v = some i) : s.role i = .strongroom v := by
  simpa using List.find?_some h

theorem outerDoor_role {v : RoomId} {o : DoorId} (h : s.outerDoor v = some o) : s.role o = .vestibuleOuter v := by
  simpa using List.find?_some h

/-- What lets a grant move does so where roles stand, vestibules have not grown and no other door's grant has begun to move. -/
theorem MayMove.mono {p : Purpose} {hs : List Holder} (h : MayMove s d p hs) (roles : ∀ d, t.role d = s.role d)
    (vests : ∀ v, (t.vests.get v).occupants.length ≤ (s.vests.get v).occupants.length)
    (still : ∀ e, s.Paired d e → s.grantMoving e = false → t.grantMoving e = false) : MayMove t d p hs where
  inbound v role entry := by
    obtain ⟨one, few⟩ := h.inbound v (roles d ▸ role) entry
    exact ⟨one, Nat.le_trans (vests v) few⟩
  outbound v role exit := by
    obtain ⟨one, few⟩ := h.outbound v (roles d ▸ role) exit
    exact ⟨one, fun has => Nat.le_trans (vests v) (few (hasVestibule_congr roles v ▸ has))⟩
  interlock e pair := still e ((Paired_congr roles).1 pair) (h.interlock e ((Paired_congr roles).1 pair))

/-! ## Changes at one door -/

/-- One door takes another record and another grant, and vestibules may lose occupants. -/
theorem Ordered.change {x : Door} {g : Option Grant} (o : Ordered s) (doors : ∀ e, t.doors.get e = if e = d then x else s.doors.get e)
    (grants : ∀ e, t.grants.get e = if e = d then g else s.grants.get e)
    (vests : ∀ v, (t.vests.get v).occupants.length ≤ (s.vests.get v).occupants.length) (roles : ∀ d, t.role d = s.role d)
    (guided : Guided x) (fits : ∀ y, g = some y → GrantFits s d x y) : Ordered t := by
  have others : ∀ e, e ≠ d → t.grantMoving e = s.grantMoving e := fun e other => by
    unfold State.grantMoving
    rw [grants e, if_neg other]
  have here : t.grantMoving d = true → ∃ y, g = some y ∧ y.stage.waits = false := fun moving => by
    obtain ⟨y, grant, moves⟩ := grantMoving_eq_true.1 moving
    rw [grants d, if_pos rfl] at grant
    exact ⟨y, grant, moves⟩
  have still : ∀ e y, e ≠ d → s.grants.get e = some y → y.stage.waits = false → ∀ f, s.Paired e f → s.grantMoving f = false →
      t.grantMoving f = false := fun e y other grant moves f pair rests => by
    by_cases at_ : f = d
    · subst at_
      refine Bool.eq_false_iff.2 fun moving => ?_
      obtain ⟨z, is, goes⟩ := here moving
      have locked := ((fits z is).moves goes).interlock e pair.symm
      exact absurd (grantMoving_eq_true.2 ⟨y, grant, moves⟩) (by rw [locked]; exact Bool.false_ne_true)
    · rw [others f at_, rests]
  refine ⟨fun e => ?_, fun e y grant => ?_, fun v => Nat.le_trans (vests v) (o.capacity v), fun v a b ra rb => ?_, fun v a b ra rb => ?_⟩
  · rw [doors e]
    split
    · exact guided
    · exact o.guided e
  · rw [grants e] at grant
    rw [doors e]
    split at grant
    next same =>
      subst same
      obtain ⟨held, waiting, outer, moves⟩ := fits y grant
      rw [if_pos rfl]
      refine ⟨held, waiting, fun v role => outer v (roles e ▸ role), fun goes => (moves goes).mono roles vests fun f pair rests => ?_⟩
      rw [others f pair.ne, rests]
    next other =>
      obtain ⟨held, waiting, outer, moves⟩ := o.fits e y grant
      rw [if_neg other]
      exact ⟨held, waiting, fun v role => outer v (roles e ▸ role),
        fun goes => (moves goes).mono roles vests (still e y other grant goes)⟩
  · exact o.inner v a b (roles a ▸ ra) (roles b ▸ rb)
  · exact o.outer v a b (roles a ▸ ra) (roles b ▸ rb)

/-- A grant goes with another record of its door that is held exactly where the old one is. -/
theorem GrantFits.redoor {x y : Door} {g : Grant} (h : GrantFits s d x g) (held : y.held ↔ x.held) : GrantFits s d y g :=
  ⟨h.held.trans held.symm, h.waiting, h.outer, h.moves⟩

/-- A door takes a record that is held exactly where the old one is. -/
theorem Ordered.door {x : Door} (o : Ordered s) (guided : Guided x) (held : x.held ↔ (s.doors.get d).held) : Ordered (s.setDoor d x) :=
  o.change (t := s.setDoor d x) (d := d) (x := x) (g := s.grants.get d) (fun e => put_get ..)
    (fun e => (by by_cases same : e = d <;> simp [same, State.setDoor])) (fun _ => Nat.le_refl _) (fun _ => rfl) guided
    fun y grant => (o.fits d y grant).redoor held

/-- A door without a moving grant takes a record that is not held. -/
theorem Ordered.door_still {x : Door} (o : Ordered s) (guided : Guided x) (still : s.grantMoving d = false) (away : ¬ x.held) :
    Ordered (s.setDoor d x) := by
  refine o.change (d := d) (x := x) (g := s.grants.get d) (fun e => put_get ..)
    (fun e => (by by_cases same : e = d <;> simp [same, State.setDoor])) (fun _ => Nat.le_refl _) (fun _ => rfl) guided fun y grant => ?_
  have waits := grantMoving_eq_false.1 still y grant
  obtain ⟨_, waiting, outer, moves⟩ := o.fits d y grant
  exact ⟨⟨fun h => (by rw [waits] at h; cases h), fun h => absurd h away⟩, waiting, outer, moves⟩

/-- A door that is not held has no moving grant. -/
theorem Ordered.still (o : Ordered s) (away : ¬ (s.doors.get d).held) : s.grantMoving d = false :=
  grantMoving_eq_false.2 fun y grant => by
    refine Classical.byContradiction fun moving => ?_
    exact away ((o.fits d y grant).held.1 (by simpa using moving))

theorem not_held_of_state {x : Door} (releasing : x.state ≠ .releasing) (released : x.state ≠ .released) : ¬ x.held :=
  fun h => h.elim releasing released

/-! ## Changes that end grants and empty vestibules -/

/-- Doors and roles are those of `s`, grants may have ended or changed in deadline and re-check, and vestibules may have lost occupants. -/
structure Lessens (s t : State) : Prop where
  doors  : t.doors = s.doors
  roles  : ∀ d, t.role d = s.role d
  grants : ∀ d y, t.grants.get d = some y →
    ∃ g, s.grants.get d = some g ∧ y.purpose = g.purpose ∧ y.holders = g.holders ∧ y.stage = g.stage
  vests  : ∀ v, (t.vests.get v).occupants.length ≤ (s.vests.get v).occupants.length

theorem Lessens.frame (doors : t.doors = s.doors) (grants : t.grants = s.grants) (vests : t.vests = s.vests)
    (nv : t.nv.doors = s.nv.doors) : Lessens s t :=
  ⟨doors, role_congr nv, fun _ y h => ⟨y, grants ▸ h, rfl, rfl, rfl⟩, fun _ => vests ▸ Nat.le_refl _⟩

theorem Lessens.refl (s : State) : Lessens s s := .frame rfl rfl rfl rfl

theorem Lessens.trans (h : Lessens s t) (k : Lessens t u) : Lessens s u where
  doors := k.doors.trans h.doors
  roles d := (k.roles d).trans (h.roles d)
  grants d y grant := by
    obtain ⟨g, grant, p, hs, st⟩ := k.grants d y grant
    obtain ⟨f, grant, p', hs', st'⟩ := h.grants d g grant
    exact ⟨f, grant, p.trans p', hs.trans hs', st.trans st'⟩
  vests v := Nat.le_trans (k.vests v) (h.vests v)

theorem Lessens.ite {c : Prop} [Decidable c] (ht : c → Lessens s t) (hu : ¬c → Lessens s u) : Lessens s (if c then t else u) := by
  split
  · exact ht ‹_›
  · exact hu ‹_›

theorem Lessens.foldl {α : Type} {f : State → α → State} (h : ∀ s a, Lessens s (f s a)) (l : List α) (s : State) :
    Lessens s (l.foldl f s) := by
  induction l generalizing s with
  | nil => exact .refl s
  | cons a rest ih => exact (h s a).trans (ih (f s a))

theorem Lessens.still (h : Lessens s t) (rests : s.grantMoving d = false) : t.grantMoving d = false :=
  grantMoving_eq_false.2 fun y grant => by
    obtain ⟨g, old, _, _, stage⟩ := h.grants d y grant
    rw [stage]
    exact grantMoving_eq_false.1 rests g old

theorem Lessens.ordered (h : Lessens s t) (o : Ordered s) : Ordered t := by
  refine ⟨fun d => h.doors ▸ o.guided d, fun d y grant => ?_, fun v => Nat.le_trans (h.vests v) (o.capacity v), fun v a b ra rb => ?_,
    fun v a b ra rb => ?_⟩
  · obtain ⟨g, old, purpose, holders, stage⟩ := h.grants d y grant
    obtain ⟨held, waiting, outer, moves⟩ := o.fits d g old
    rw [h.doors]
    refine ⟨by rw [stage]; exact held, by rw [stage, purpose, holders]; exact waiting, fun v role => ?_, fun goes => ?_⟩
    · rw [purpose, holders, stage]
      exact outer v (h.roles d ▸ role)
    · rw [purpose, holders]
      exact (moves (stage ▸ goes)).mono h.roles h.vests fun e _ => h.still
  · exact o.inner v a b (h.roles a ▸ ra) (h.roles b ▸ rb)
  · exact o.outer v a b (h.roles a ▸ ra) (h.roles b ▸ rb)

theorem MayMove.lessens {p : Purpose} {hs : List Holder} (h : MayMove s d p hs) (k : Lessens s t) : MayMove t d p hs :=
  h.mono k.roles k.vests fun _ _ => k.still

/-! ## Moves -/

/-- `t` follows from `s` by elementary moves, and by none that disorders doors, grants and vestibules but where that is looked at apart. -/
structure Moves (K : Scope) (s t : State) : Prop where
  steps   : Steps K s t
  ordered : ¬K.apart → Ordered s → Ordered t

section
variable {K : Scope}

theorem Steps.lessened (h : Steps K s t) (k : Lessens s t) : Moves K s t := ⟨h, fun _ => k.ordered⟩

theorem Steps.framed (h : Steps K s t) (doors : t.doors = s.doors) (grants : t.grants = s.grants) (vests : t.vests = s.vests)
    (nv : t.nv.doors = s.nv.doors) : Moves K s t := h.lessened (.frame doors grants vests nv)

theorem Moves.refl (s : State) : Moves K s s := ⟨.refl s, fun _ => id⟩

theorem Moves.trans (h : Moves K s t) (k : Moves K t u) : Moves K s u :=
  ⟨h.steps.trans k.steps, fun here => k.ordered here ∘ h.ordered here⟩

theorem asAt_frame (n : Nat) (s : State) : Lessens s (s.asAt n) := by
  unfold State.asAt
  split
  · exact .frame rfl rfl rfl rfl
  · exact .refl s

theorem Moves.asOf (n : Nat) (h : Moves K (s.asAt n) u) : Moves K s { u with quarters := s.quarters, clock := s.clock } :=
  ⟨.asOf n h.steps, fun here o =>
    Lessens.ordered (s := u) (.frame rfl rfl rfl rfl) (h.ordered here ((asAt_frame n s).ordered o))⟩

/-- What no shape speaks of, grants aside. -/
theorem Moves.free (h : t = { s with
    lines := t.lines, sup := t.sup, loops := t.loops, freeze := t.freeze, hostPresent := t.hostPresent
    waitPresents := t.waitPresents, waitGets := t.waitGets, quarters := t.quarters }) : Moves K s t := by
  have grants : t.grants = s.grants := by rw [h]
  refine Steps.framed (.free ?_) (by rw [h]) grants (by rw [h]) (by rw [h])
  rw [grants]
  exact h

theorem Moves.clock (h : K.clock) (c : WeekClock) (s : State) : Moves K s { s with clock := c } :=
  Steps.framed (.clock h c s) rfl rfl rfl rfl

theorem Moves.link (lk : Link) (s : State) (h : QueueBounds s → QueueBounds { s with link := lk }) : Moves K s { s with link := lk } :=
  Steps.framed (.link lk s h) rfl rfl rfl rfl

theorem Moves.zones (zs : Vector Zone 12) (s : State) (h : ∀ z, ZoneMove K s z (zs.get z)) : Moves K s { s with zones := zs } :=
  Steps.framed (.zones zs s h) rfl rfl rfl rfl

theorem Moves.act (a : ActId) (x : Actuator) (s : State)
    (h : ∀ z, x.zone = some z → (s.acts.get a).zone = some z ∨ s.nv.assignments.get a = some z) : Moves K s (s.setAct a x) :=
  Steps.framed (.act a x s h) rfl rfl rfl rfl

theorem Moves.bank (b : Bank) (s : State)
    (h : s.bank.inFlight.length ≤ 2 → s.bank.pulseCount ≤ 6 → b.inFlight.length ≤ 2 ∧ b.pulseCount ≤ 6) :
    Moves K s { s with bank := b } := Steps.framed (.bank b s h) rfl rfl rfl rfl

theorem Moves.room (v : RoomId) (x : Room) (s : State) (h : (s.rooms.get v).listed.length ≤ 16 → x.listed.length ≤ 16)
    (k : (s.rooms.get v).assumedOut.length ≤ 8 → x.assumedOut.length ≤ 8) : Moves K s (s.setRoom v x) :=
  Steps.framed (.room v x s h k) rfl rfl rfl rfl

theorem Moves.location (slot : SlotId) (p : Location) (s : State) : Moves K s (s.setLocation slot p) :=
  Steps.framed (.location slot p s) rfl rfl rfl rfl

theorem Moves.store (st : Store) (s : State) (h : st.Within s.store) : Moves K s { s with store := st } :=
  Steps.framed (.store st s h) rfl rfl rfl rfl

theorem Moves.request (item : SettingsItem) (s : State) (h : RequestFits K s item) : Moves K s (requestSettings item s) :=
  Steps.framed (.request item s h) rfl rfl rfl rfl

theorem Moves.stage (h : K.rows) (g : Stage) (s : State) : Moves K s { s with stage := g } := Steps.framed (.stage h g s) rfl rfl rfl rfl

theorem Moves.nv (n : Nv) (s : State) (h : NvMove K s.nv n) (doors : n.doors = s.nv.doors) : Moves K s { s with nv := n } :=
  Steps.framed (.nv n s h) rfl rfl rfl doors

theorem Moves.writeZone (z : ZoneId) (p : ZoneSettings) (owed : Bool) (dl : Nat) (s : State)
    (h : s.store.running = some ⟨.settings (.zone z p) owed, dl⟩) :
    Moves K s (clampCountdown z { endRunning s with nv := s.nv.writeSettings (.zone z p) }) :=
  Steps.framed (.writeZone z p owed dl s h) rfl rfl rfl rfl

theorem Moves.writeActuator (a : ActId) (z : Option ZoneId) (owed : Bool) (dl : Nat) (s : State)
    (h : s.store.running = some ⟨.settings (.actuator a z) owed, dl⟩) :
    Moves K s { endRunning s with nv := s.nv.writeSettings (.actuator a z) } :=
  Steps.framed (.writeActuator a z owed dl s h) rfl rfl rfl rfl

/-- A change at doors, grants and vestibules that keeps their order. -/
theorem Steps.ordering (h : Steps K s t) (k : Ordered s → Ordered t) : Moves K s t := ⟨h, fun _ => k⟩

/-- A change whose order is looked at apart. -/
theorem Steps.apart (h : Steps K s t) (k : K.apart) : Moves K s t := ⟨h, fun here => absurd k here⟩

/-! ## Composition -/

/-- The last move first: what it does says what stands before it. -/
theorem Moves.after (k : Moves K t u) (h : Moves K s t) : Moves K s u := h.trans k

theorem Moves.ite {c : Prop} [Decidable c] (ht : c → Moves K s t) (hu : ¬c → Moves K s u) : Moves K s (if c then t else u) := by
  split
  · exact ht ‹_›
  · exact hu ‹_›

theorem Moves.when {c : Prop} [Decidable c] (ht : Moves K s t) : Moves K s (if c then t else s) :=
  .ite (fun _ => ht) (fun _ => .refl s)

theorem Moves.unless {c : Prop} [Decidable c] (ht : Moves K s t) : Moves K s (if c then s else t) :=
  .ite (fun _ => .refl s) (fun _ => ht)

theorem Moves.foldl {α : Type} {f : State → α → State} (h : ∀ s a, Moves K s (f s a)) (l : List α) (s : State) :
    Moves K s (l.foldl f s) := by
  induction l generalizing s with
  | nil => exact .refl s
  | cons a rest ih => exact (h s a).trans (ih (f s a))

theorem Moves.forEach {n : Nat} {f : Fin n → State → State} (h : ∀ i s, Moves K s (f i s)) (s : State) :
    Moves K s (Machine.forEach f s) := Moves.foldl (fun s i => h i s) _ s

end

end Sys2Proof.Machine


/-! Proofs of the shapes that every step keeps: the operations on grants, vestibules, doors and bolts as moves. -/

namespace Sys2Proof.Machine

variable {K : Scope}

/-! ## Composition -/

/-- The last move first: what it does says what stands before it. -/
theorem Steps.after {s t u : State} (k : Steps K t u) (h : Steps K s t) : Steps K s u := h.trans k

theorem Steps.ite {c : Prop} [Decidable c] {s t u : State} (ht : c → Steps K s t) (hu : ¬c → Steps K s u) :
    Steps K s (if c then t else u) := by
  split
  · exact ht ‹_›
  · exact hu ‹_›

theorem Steps.when {c : Prop} [Decidable c] {s t : State} (ht : Steps K s t) : Steps K s (if c then t else s) :=
  .ite (fun _ => ht) (fun _ => .refl s)

theorem Steps.unless {c : Prop} [Decidable c] {s t : State} (ht : Steps K s t) : Steps K s (if c then s else t) :=
  .ite (fun _ => .refl s) (fun _ => ht)

theorem Steps.foldl {α : Type} {f : State → α → State} (h : ∀ s a, Steps K s (f s a)) (l : List α) (s : State) :
    Steps K s (l.foldl f s) := by
  induction l generalizing s with
  | nil => exact .refl s
  | cons a rest ih => exact (h s a).trans (ih (f s a))

theorem Steps.forEach {n : Nat} {f : Fin n → State → State} (h : ∀ i s, Steps K s (f i s)) (s : State) :
    Steps K s (Machine.forEach f s) := Steps.foldl (fun s i => h i s) _ s

/-! ## Notices and replies (R190, R193 to R197) -/

/-- There is room where both bounds leave a place, that of the classes below LIFE for a notice below LIFE alone (R196). -/
theorem hasRoom_iff {c : NoticeClass} {q : List Notice} :
    hasRoom c q = true ↔ q.length < 64 ∧ (c = .life ∨ (q.filter Notice.nonLife).length < 48) := by
  unfold hasRoom
  rw [Bool.and_eq_true, Bool.or_eq_true, decide_eq_true_iff, decide_eq_true_iff, decide_eq_true_iff]
  rfl

/-- The queue with one more entry in it, of the class of `n`, after an entry has been displaced for it. -/
theorem displaced_bounds {n : Notice} {q r : List Notice} (h : displace n.kind.cls q = some r) (total : q.length ≤ 64)
    (nonLife : (q.filter Notice.nonLife).length ≤ 48) :
    (r ++ [n]).length ≤ 64 ∧ ((r ++ [n]).filter Notice.nonLife).length ≤ 48 ∧ ∀ e ∈ r, e ∈ q := by
  obtain ⟨pre, e, post, rfl, rfl, -, hcls⟩ := displace_some h
  simp only [List.length_append, List.length_cons, List.filter_append, List.filter_cons, List.length_nil] at total nonLife ⊢
  refine ⟨by omega, ?_, fun x hx => by simp at hx ⊢; grind⟩
  rcases hcls with hlife | hnon
  · have : n.nonLife = false := by simp [Notice.nonLife, hlife]
    rw [this]
    split at nonLife <;> simp at nonLife ⊢ <;> omega
  · rw [hnon] at nonLife
    split <;> simp at nonLife ⊢ <;> omega

/-- A new notice keeps the bounds of the queue, whatever becomes of it. -/
theorem take_bounds {s : State} (n : Notice) (once : n.repeats = 1) (h : QueueBounds s) :
    QueueBounds { s with link := s.link.take n } := by
  obtain ⟨total, nonLife, repeats, lost, masks, busy⟩ := h
  unfold Link.take
  split
  · exact ⟨total, nonLife, repeats, lost, masks, busy⟩
  · split
    · rename_i q hq
      obtain ⟨pre, e, post, hl, rfl, -, -⟩ := coalesce_some hq
      rw [hl] at total nonLife repeats
      refine ⟨by simpa using total, ?_, ?_, lost, masks, busy⟩
      · have same : Notice.nonLife { e with repeats := bump e.repeats } = Notice.nonLife e := rfl
        simpa [List.filter_cons, same, apply_ite List.length] using nonLife
      · intro x hx
        have he := repeats e (by simp)
        simp only [List.mem_append, List.mem_cons] at hx
        rcases hx with hx | rfl | hx
        · exact repeats x (by simp [hx])
        · exact ⟨Nat.le_trans he.1 (le_bump _), bump_le he.2⟩
        · exact repeats x (by simp [hx])
    · split
      · rename_i hroom
        rw [hasRoom_iff] at hroom
        refine ⟨by rw [List.length_append]; exact hroom.1, ?_, ?_, lost, masks, busy⟩
        · simp only [List.filter_append, List.filter_cons, List.filter_nil, List.length_append]
          rcases hroom.2 with hlife | hfew
          · simpa [Notice.nonLife, hlife] using nonLife
          · split <;> simp <;> omega
        · intro x hx
          rcases List.mem_append.1 hx with hx | hx
          · exact repeats x hx
          · rw [List.mem_singleton.1 hx, once]; decide
      · split
        · rename_i r hr
          obtain ⟨htotal, hnon, hsub⟩ := displaced_bounds hr total nonLife
          refine ⟨htotal, hnon, ?_, bump_le lost, masks, busy⟩
          intro x hx
          rcases List.mem_append.1 hx with hx | hx
          · exact repeats x (hsub x hx)
          · rw [List.mem_singleton.1 hx, once]; decide
        · exact ⟨total, nonLife, repeats, bump_le lost, masks, busy⟩

theorem raise_steps (k : NoticeKind) (o : NoticeObject) (d : Option Detail) (s : State) : Steps K s (raise k o d s) :=
  .link _ s (take_bounds _ rfl)

theorem raiseDoor_steps (k : NoticeKind) (d : DoorId) (det : Option Detail) (s : State) : Steps K s (raiseDoor k d det s) :=
  .when (raise_steps ..)

/-- A reply that is no LINK_BUSY keeps their number. -/
theorem reply_steps (st : Status) (data : ReplyData) {role : ReplyRole} (h : role ≠ .busy) (s : State) :
    Steps K s (reply st data role s) := by
  unfold reply
  split
  · exact .refl s
  · refine .link _ s fun b => ⟨b.total, b.nonLife, b.repeats, b.lost, b.masks, ?_⟩
    simpa [List.filter_append, h] using b.busy

theorem answerOwed_steps (owed : Bool) (st : Status) (data : ReplyData) (s : State) : Steps K s (answerOwed owed st data s) :=
  .when (reply_steps st data (by decide) s)

/-! ## Grants and vestibules (R129, R163, R173) -/

theorem setGrant_steps (d : DoorId) (x : Option Grant) (s : State) : Steps K s (s.setGrant d x) := .free rfl

theorem dropGrant_steps (d : DoorId) (r : Reason) (s : State) : Steps K s (dropGrant d r s) := by
  unfold dropGrant
  split
  · exact .refl s
  · dsimp only
    split
    · exact ((setGrant_steps ..).trans (raise_steps ..)).trans (answerOwed_steps ..)
    · exact (setGrant_steps ..).trans (raise_steps ..)

theorem handRemoval_steps (v : RoomId) (slot : SlotId) (s : State) : Steps K s (handRemoval v slot s) := by
  unfold handRemoval
  split
  · exact .refl s
  · split
    · exact .refl s
    · exact .when (dropGrant_steps ..)

/-- A vestibule that loses a slot keeps its direction exactly while an occupant is left. -/
theorem Vestibule.without_shape (slot : SlotId) {x : Vestibule} (h : x.direction = .none ↔ x.occupants = []) :
    (x.without slot).direction = .none ↔ (x.without slot).occupants = [] := by
  unfold Vestibule.without
  cases hrest : x.occupants.filter (fun o => o.slot ≠ slot) with
  | nil => simp
  | cons o rest =>
    have : x.occupants ≠ [] := by rintro e; simp [e] at hrest
    simp [h, this]

theorem vestRemove_steps (v : RoomId) (slot : SlotId) (s : State) : Steps K s (vestRemove v slot s) :=
  .when ((Steps.vest v _ s (Vestibule.without_shape slot)).trans (handRemoval_steps ..))

theorem vestAppend_steps (v : RoomId) (slot : SlotId) (badge : Nat) {dir : Direction} (hdir : dir ≠ .none) (s : State) :
    Steps K s (vestAppend v slot badge dir s) :=
  .vest v _ s fun _ => by simp [hdir]

theorem emptyVestibule_steps (v : RoomId) (k : NoticeKind) (s : State) : Steps K s (emptyVestibule v k s) :=
  (((Steps.vest v Vestibule.empty s fun _ => by simp [Vestibule.empty]).trans
    (Steps.foldl (fun s (o : Occupant) => Steps.location o.slot .outside s) _ _)).trans
    (Steps.foldl (fun s (o : Occupant) => handRemoval_steps v o.slot s) _ _)).trans
    (Steps.foldl (fun s (o : Occupant) => raise_steps k (.strongroom v) (some (.badge o.badge)) s) _ _)

/-! ## Bolts (R140 to R148, R151, R171) -/

theorem drive_moving (target : Bolt) (dl : Nat) {x : Door} (h : x.motion = .moving target dl) (k : x.bolt = target) :
    DriveFollowsBolt x :=
  ⟨fun _ _ e => by rw [h] at e; cases e; exact k, fun _ _ e => by simp [h] at e⟩

theorem drive_cooling (retry : Bolt) (dl : Nat) {x : Door} (h : x.motion = .cooling retry dl) (k : x.bolt = retry) :
    DriveFollowsBolt x :=
  ⟨fun _ _ e => by simp [h] at e, fun _ _ e => by rw [h] at e; cases e; exact k⟩

theorem drive_idle {x : Door} (h : x.motion = .idle) : DriveFollowsBolt x :=
  ⟨fun _ _ e => by simp [h] at e, fun _ _ e => by simp [h] at e⟩

/-- A door record with the same motion and bolt command follows its bolt where the old one does. -/
theorem drive_same {x y : Door} (h : y.motion = x.motion) (k : y.bolt = x.bolt) (hx : DriveFollowsBolt x) : DriveFollowsBolt y :=
  ⟨fun t dl e => k.trans (hx.1 t dl (h ▸ e)), fun t dl e => k.trans (hx.2 t dl (h ▸ e))⟩

/-- A door at rest takes any record at rest. -/
theorem setDoor_idle_steps (d : DoorId) {x : Door} (h : x.motion = .idle) (s : State) : Steps K s (s.setDoor d x) :=
  .door d x s fun _ => drive_idle h

/-- A change of a door record that leaves its motion and its bolt command. -/
theorem modDoor_steps (d : DoorId) {f : Door → Door} (s : State)
    (h : ∀ x, (f x).motion = x.motion ∧ (f x).bolt = x.bolt := by exact fun _ => ⟨rfl, rfl⟩) : Steps K s (modDoor d f s) :=
  .door d _ s (drive_same (h _).1 (h _).2)

theorem startMotion_steps (d : DoorId) (target : Bolt) (s : State) : Steps K s (startMotion d target s) :=
  .door d _ s fun _ => drive_moving target _ rfl rfl

theorem stopAtTarget_steps (d : DoorId) (target : Bolt) (s : State) : Steps K s (stopAtTarget d target s) :=
  setDoor_idle_steps d rfl s

theorem enterOpen_steps (d : DoorId) (s : State) : Steps K s (enterOpen d s) := setDoor_idle_steps d rfl s

theorem enterReleased_steps (d : DoorId) (s : State) : Steps K s (enterReleased d s) :=
  (setDoor_idle_steps d rfl s).trans (setGrant_steps ..)

theorem beginWithdraw_steps (d : DoorId) (s : State) : Steps K s (beginWithdraw d s) :=
  .ite (fun _ => (stopAtTarget_steps ..).trans (enterReleased_steps ..)) (fun _ => startMotion_steps ..)

theorem startRelease_steps (d : DoorId) (s : State) : Steps K s (startRelease d s) :=
  (Steps.door d { s.doors.get d with state := .releasing } s (drive_same rfl rfl)).trans (beginWithdraw_steps ..)

theorem autoRelease_steps (v : RoomId) (s : State) : Steps K s (autoRelease v s) := by
  unfold autoRelease
  split
  · dsimp only
    split
    · split
      · exact ((((dropGrant_steps ..).trans (setGrant_steps ..)).trans (startRelease_steps ..)).trans
          ((enterOpen_steps ..).trans (setGrant_steps ..))).trans (emptyVestibule_steps ..)
      · exact ((dropGrant_steps ..).trans (setGrant_steps ..)).trans (startRelease_steps ..)
    · exact .refl s
  · exact .refl s

theorem handSecure_steps (d : DoorId) (rederived : Bool) (s : State) : Steps K s (handSecure d rederived s) := by
  unfold handSecure
  split
  · exact autoRelease_steps ..
  · exact .when (autoRelease_steps ..)
  · exact .refl s

theorem enterSecure_steps (d : DoorId) (rederived : Bool) (s : State) : Steps K s (enterSecure d rederived s) :=
  (setDoor_idle_steps d rfl s).trans <| .trans (.when (raiseDoor_steps ..)) (.unless (handSecure_steps ..))

theorem beginThrow_steps (d : DoorId) (s : State) : Steps K s (beginThrow d s) :=
  .ite (fun _ => (stopAtTarget_steps ..).trans (enterSecure_steps ..)) (fun _ => startMotion_steps ..)

theorem throwInto_steps (st : DoorState) (d : DoorId) (s : State) : Steps K s (throwInto st d s) :=
  (Steps.door d { s.doors.get d with state := st, releaseDl := none, heldOpenDl := none } s (drive_same rfl rfl)).trans
    (beginThrow_steps ..)

theorem throwKeepingTrips_steps (d : DoorId) (s : State) : Steps K s (throwKeepingTrips d s) :=
  (throwInto_steps ..).trans (.door d _ _ (drive_same rfl rfl))

theorem doorCancelled_steps (d : DoorId) (s : State) : Steps K s (doorCancelled d s) := by
  unfold doorCancelled
  dsimp only
  split
  · exact .door d _ s fun _ => drive_cooling .thrown _ rfl rfl
  · exact throwKeepingTrips_steps ..
  · exact throwKeepingTrips_steps ..
  · exact .refl s

theorem cancelGrant_steps (d : DoorId) (r : Reason) (s : State) : Steps K s (cancelGrant d r s) :=
  .ite (fun _ => (dropGrant_steps ..).trans (doorCancelled_steps ..)) (fun _ => dropGrant_steps ..)

theorem failGrant_steps (d : DoorId) (s : State) : Steps K s (failGrant d s) := by
  unfold failGrant
  split
  · exact .unless ((setGrant_steps ..).trans (raiseDoor_steps ..))
  · exact .refl s

theorem enterOverlay_steps (st : DoorState) (d : DoorId) (s : State) : Steps K s (enterOverlay st d s) :=
  (setDoor_idle_steps d rfl s).trans (failGrant_steps ..)

theorem rederive_steps (d : DoorId) (s : State) : Steps K s (rederive d s) := by
  unfold rederive
  dsimp only
  split
  · refine setDoor_idle_steps d ?_ s
    split
    · rfl
    · rfl
    · split <;> rfl
    · rfl
  · split
    · exact (setDoor_idle_steps d rfl s).trans (enterSecure_steps ..)
    · exact (setDoor_idle_steps d rfl s).trans (throwInto_steps ..)
    · exact .ite (fun _ => (setDoor_idle_steps d rfl s).trans (enterOpen_steps ..)) (fun _ => setDoor_idle_steps d rfl s)
    · exact (setDoor_idle_steps d rfl s).trans (enterOpen_steps ..)

theorem manualMotion_steps (d : DoorId) (target : Bolt) (s : State) : Steps K s (manualMotion d target s) :=
  .ite (fun _ => (stopAtTarget_steps ..).trans (raiseDoor_steps ..)) (fun _ => startMotion_steps ..)

theorem stopMotion_steps (d : DoorId) (s : State) : Steps K s (stopMotion d s) := setDoor_idle_steps d rfl s

end Sys2Proof.Machine


/-! Proofs of the shapes that every step keeps: the operations on grants, vestibules, doors and bolts keep the order of doors and grants. -/

namespace Sys2Proof.Machine

variable {K : Scope} {s : State} {d : DoorId}

/-! ## Notices, grants that end and vestibules that lose occupants (R129, R163, R173) -/

theorem raise_lessens (k : NoticeKind) (o : NoticeObject) (det : Option Detail) (s : State) : Lessens s (raise k o det s) :=
  .frame rfl rfl rfl rfl

theorem raiseDoor_lessens (k : NoticeKind) (d : DoorId) (det : Option Detail) (s : State) : Lessens s (raiseDoor k d det s) :=
  .ite (fun _ => raise_lessens ..) (fun _ => .refl s)

theorem reply_lessens (st : Status) (data : ReplyData) (role : ReplyRole) (s : State) : Lessens s (reply st data role s) := by
  unfold reply
  split
  · exact .refl s
  · exact .frame rfl rfl rfl rfl

theorem answerOwed_lessens (owed : Bool) (st : Status) (data : ReplyData) (s : State) : Lessens s (answerOwed owed st data s) :=
  .ite (fun _ => reply_lessens ..) (fun _ => .refl s)

/-- A grant record with another deadline, re-check or reader. -/
theorem regrant_lessens {g y : Grant} (old : s.grants.get d = some g) (purpose : y.purpose = g.purpose) (holders : y.holders = g.holders)
    (stage : y.stage = g.stage) : Lessens s (s.setGrant d (some y)) where
  doors := rfl
  roles _ := rfl
  grants e z h := by
    simp only [State.setGrant_grants, put_get] at h
    split at h
    next same => cases h; subst same; exact ⟨g, old, purpose, holders, stage⟩
    next => exact ⟨z, h, rfl, rfl, rfl⟩
  vests _ := Nat.le_refl _

theorem endGrant_lessens (d : DoorId) (s : State) : Lessens s (s.setGrant d none) where
  doors := rfl
  roles _ := rfl
  grants e z h := by
    simp only [State.setGrant_grants, put_get] at h
    split at h
    next => cases h
    next => exact ⟨z, h, rfl, rfl, rfl⟩
  vests _ := Nat.le_refl _

theorem setVest_lessens {v : RoomId} {x : Vestibule} (h : x.occupants.length ≤ (s.vests.get v).occupants.length) :
    Lessens s (s.setVest v x) where
  doors := rfl
  roles _ := rfl
  grants _ z h := ⟨z, h, rfl, rfl, rfl⟩
  vests e := by
    simp only [State.setVest_vests, put_get]
    split
    next same => exact same ▸ h
    next => exact Nat.le_refl _

theorem location_lessens (slot : SlotId) (p : Location) (s : State) : Lessens s (s.setLocation slot p) := .frame rfl rfl rfl rfl

theorem dropGrant_lessens (d : DoorId) (r : Reason) (s : State) : Lessens s (dropGrant d r s) := by
  unfold dropGrant
  split
  · exact .refl s
  · dsimp only
    split
    · exact ((endGrant_lessens ..).trans (raise_lessens ..)).trans (answerOwed_lessens ..)
    · exact (endGrant_lessens ..).trans (raise_lessens ..)

theorem handRemoval_lessens (v : RoomId) (slot : SlotId) (s : State) : Lessens s (handRemoval v slot s) := by
  unfold handRemoval
  split
  · exact .refl s
  · split
    · exact .refl s
    · exact .ite (fun _ => dropGrant_lessens ..) (fun _ => .refl s)

theorem vestRemove_lessens (v : RoomId) (slot : SlotId) (s : State) : Lessens s (vestRemove v slot s) :=
  .ite (fun _ => (setVest_lessens (List.length_filter_le ..)).trans (handRemoval_lessens ..)) (fun _ => .refl s)

theorem emptied_lessens (v : RoomId) (s : State) : Lessens s (s.setVest v Vestibule.empty) := setVest_lessens (Nat.zero_le _)

theorem emptyVestibule_lessens (v : RoomId) (k : NoticeKind) (s : State) : Lessens s (emptyVestibule v k s) :=
  (((emptied_lessens v s).trans (Lessens.foldl (fun s (o : Occupant) => location_lessens o.slot .outside s) _ _)).trans
    (Lessens.foldl (fun s (o : Occupant) => handRemoval_lessens v o.slot s) _ _)).trans
    (Lessens.foldl (fun s (o : Occupant) => raise_lessens k (.strongroom v) (some (.badge o.badge)) s) _ _)

theorem failGrant_lessens (d : DoorId) (s : State) : Lessens s (failGrant d s) := by
  unfold failGrant
  split
  · exact .ite (fun _ => .refl s) (fun _ => (endGrant_lessens ..).trans (raiseDoor_lessens ..))
  · exact .refl s

theorem raise_moves (k : NoticeKind) (o : NoticeObject) (det : Option Detail) (s : State) : Moves K s (raise k o det s) :=
  (raise_steps ..).lessened (raise_lessens ..)

theorem raiseDoor_moves (k : NoticeKind) (d : DoorId) (det : Option Detail) (s : State) : Moves K s (raiseDoor k d det s) :=
  (raiseDoor_steps ..).lessened (raiseDoor_lessens ..)

theorem reply_moves (st : Status) (data : ReplyData) {role : ReplyRole} (h : role ≠ .busy) (s : State) :
    Moves K s (reply st data role s) := (reply_steps st data h s).lessened (reply_lessens ..)

theorem answer_moves (st : Status) (s : State) : Moves K s (answer st s) := reply_moves st .none (by decide) s

theorem answerData_moves (data : ReplyData) (s : State) : Moves K s (answerData data s) := reply_moves .ok data (by decide) s

theorem answerOwed_moves (owed : Bool) (st : Status) (data : ReplyData) (s : State) : Moves K s (answerOwed owed st data s) :=
  (answerOwed_steps ..).lessened (answerOwed_lessens ..)

theorem endGrant_moves (d : DoorId) (s : State) : Moves K s (s.setGrant d none) := (setGrant_steps ..).lessened (endGrant_lessens ..)

theorem dropGrant_moves (d : DoorId) (r : Reason) (s : State) : Moves K s (dropGrant d r s) :=
  (dropGrant_steps ..).lessened (dropGrant_lessens ..)

theorem vestRemove_moves (v : RoomId) (slot : SlotId) (s : State) : Moves K s (vestRemove v slot s) :=
  (vestRemove_steps ..).lessened (vestRemove_lessens ..)

theorem emptyVestibule_moves (v : RoomId) (k : NoticeKind) (s : State) : Moves K s (emptyVestibule v k s) :=
  (emptyVestibule_steps ..).lessened (emptyVestibule_lessens ..)

theorem failGrant_moves (d : DoorId) (s : State) : Moves K s (failGrant d s) := (failGrant_steps ..).lessened (failGrant_lessens ..)

/-! A door whose grant has ended has none that moves. -/

theorem grantMoving_of_none (h : s.grants.get d = none) : s.grantMoving d = false :=
  grantMoving_eq_false.2 fun _ k => by rw [h] at k; cases k

theorem answerOwed_grants (owed : Bool) (st : Status) (data : ReplyData) (s : State) : (answerOwed owed st data s).grants = s.grants := by
  unfold answerOwed reply
  split
  · split <;> rfl
  · rfl

theorem raiseDoor_grants (k : NoticeKind) (d : DoorId) (det : Option Detail) (s : State) : (raiseDoor k d det s).grants = s.grants := by
  unfold raiseDoor
  split <;> rfl

theorem dropGrant_grant (d : DoorId) (r : Reason) (s : State) : (dropGrant d r s).grants.get d = none := by
  unfold dropGrant
  split
  · assumption
  · dsimp only
    split
    · rw [answerOwed_grants]
      simp [raise]
    · simp [raise]

theorem dropGrant_still (d : DoorId) (r : Reason) (s : State) : (dropGrant d r s).grantMoving d = false :=
  grantMoving_of_none (dropGrant_grant d r s)

theorem grantMoving_failGrant (d : DoorId) (s : State) : (failGrant d s).grantMoving d = false := by
  unfold failGrant
  split
  next g grant =>
    split
    next waits => exact grantMoving_eq_false.2 fun y is => by rw [grant] at is; cases is; exact waits
    next => exact grantMoving_of_none (by rw [raiseDoor_grants]; simp)
  next none_ => exact grantMoving_of_none none_

/-! ## Bolts (R140 to R148, R151) -/

theorem setDoor_setDoor (d : DoorId) (x y : Door) (s : State) : (s.setDoor d x).setDoor d y = s.setDoor d y := by
  simp [State.setDoor]

/-- A change of a door record that leaves its state, its motion and its bolt command. -/
theorem modDoor_moves (d : DoorId) {f : Door → Door} (s : State)
    (h : ∀ x, (f x).motion = x.motion ∧ (f x).bolt = x.bolt ∧ (f x).state = x.state := by exact fun _ => ⟨rfl, rfl, rfl⟩) :
    Moves K s (modDoor d f s) := by
  refine (modDoor_steps d s fun x => ⟨(h x).1, (h x).2.1⟩).ordering fun o => o.door ((o.guided d).same (h _).2.2 ?_) ?_
  · rw [Door.target, (h _).1]; rfl
  · rw [Door.held, (h _).2.2]; rfl

theorem setAlarm_moves (d : DoorId) (s : State) : Moves K s (setAlarm d s) := modDoor_moves ..

/-- A door at rest in the state it has. -/
theorem Ordered.rest {x : Door} (o : Ordered s) (idle : x.motion = .idle) (state : x.state = (s.doors.get d).state) :
    Ordered (s.setDoor d x) :=
  o.door (.idle idle) (by rw [Door.held, state]; rfl)

theorem stopAtTarget_moves (d : DoorId) (target : Bolt) (s : State) : Moves K s (stopAtTarget d target s) :=
  (stopAtTarget_steps ..).ordering fun o => o.rest rfl rfl

theorem stopMotion_moves (d : DoorId) (s : State) : Moves K s (stopMotion d s) := (stopMotion_steps ..).ordering fun o => o.rest rfl rfl

theorem enterOpen_ordered (o : Ordered s) (still : s.grantMoving d = false) : Ordered (enterOpen d s) :=
  o.door_still (.idle rfl) still (not_held_of_state nofun nofun)

/-- A door opens under its grant, which ends (R147). -/
theorem opened_ordered (o : Ordered s) : Ordered ((enterOpen d s).setGrant d none) :=
  o.change (d := d) (g := none) (fun _ => put_get ..) (fun _ => put_get ..) (fun _ => Nat.le_refl _) (fun _ => rfl) (.idle rfl) nofun

/-- The withdraw of a releasing door is complete: its grant is RELEASED with it (R145). -/
theorem enterReleased_ordered (o : Ordered s) (releasing : (s.doors.get d).state = .releasing) : Ordered (enterReleased d s) := by
  unfold enterReleased
  refine o.change (d := d) (g := (s.grants.get d).map fun y : Grant => { y with stage := .released }) (fun _ => put_get ..)
    (fun _ => put_get ..) (fun _ => Nat.le_refl _) (fun _ => rfl) (.idle rfl) fun y is => ?_
  obtain ⟨g, grant, rfl⟩ := Option.map_eq_some_iff.1 is
  obtain ⟨held, -, outer, moves⟩ := o.fits d g grant
  exact ⟨⟨fun _ => .inr rfl, fun _ => rfl⟩, nofun, fun v role entry => ⟨(outer v role entry).1, nofun⟩,
    fun _ => moves (held.2 (.inl releasing))⟩

theorem beginWithdraw_ordered (o : Ordered s) (releasing : (s.doors.get d).state = .releasing) : Ordered (beginWithdraw d s) := by
  unfold beginWithdraw
  split
  · exact enterReleased_ordered (o.rest rfl rfl) (by simp [stopAtTarget, releasing])
  · exact o.door (.withdrawn releasing rfl) Iff.rfl

/-- A grant that may move is released to its door (R145). -/
theorem startRelease_ordered {g : Grant} (o : Ordered s) (stage : g.stage = .releasing) (may : MayMove s d g.purpose g.holders) :
    Ordered (startRelease d (s.setGrant d (some g))) := by
  have released (x : Door) (state : x.state = .releasing) (guided : Guided x) : Ordered ((s.setGrant d (some g)).setDoor d x) := by
    refine o.change (d := d) (g := some g) (fun _ => put_get ..) (fun _ => put_get ..) (fun _ => Nat.le_refl _) (fun _ => rfl) guided ?_
    rintro _ ⟨⟩
    refine ⟨⟨fun _ => .inl state, fun _ => (by rw [stage]; rfl)⟩, fun h => (by rw [stage] at h; cases h), fun v role entry => ?_,
      fun _ => may⟩
    exact ⟨(may.inbound v role entry).1, by rw [stage]; nofun⟩
  unfold startRelease beginWithdraw
  split
  · refine enterReleased_ordered ?_ (by simp [stopAtTarget])
    unfold stopAtTarget
    rw [setDoor_setDoor]
    exact released _ (by simp) (.idle rfl)
  · unfold startMotion
    rw [setDoor_setDoor]
    exact released _ (by simp) (.withdrawn (by simp) rfl)

theorem autoRelease_ordered (v : RoomId) (o : Ordered s) : Ordered (autoRelease v s) := by
  unfold autoRelease
  split
  next i e inner outer =>
    dsimp only
    split
    next free =>
      simp only [Bool.and_eq_true, decide_eq_true_eq] at free
      obtain ⟨⟨⟨-, shut⟩, -⟩, -⟩ := free
      have less := dropGrant_lessens e .direction s
      have ri := strongroomDoor_role inner
      have re := outerDoor_role outer
      have may : MayMove (dropGrant e .direction s) e .exit ((s.vests.get v).occupants.map fun p => ⟨p.slot, p.badge⟩) := by
        refine MayMove.lessens ⟨fun _ _ => nofun, fun w role => ?_, fun f pair => ?_⟩ less
        · rw [re] at role; cases role
        · obtain ⟨w, ⟨a, b⟩ | ⟨a, b⟩⟩ := pair
          · rw [re] at a; cases a
          · rw [re] at a
            cases a
            rw [o.inner v f i b ri]
            exact o.still (not_held_of_state (by simp [shut]) (by simp [shut]))
      have started := startRelease_ordered (g := ⟨_, .exit, .inside, .releasing, none, none⟩) (less.ordered o) rfl may
      split
      · exact (emptyVestibule_lessens ..).ordered (opened_ordered started)
      · exact started
    next => exact o
  next => exact o

theorem autoRelease_moves (v : RoomId) (s : State) : Moves K s (autoRelease v s) := (autoRelease_steps ..).ordering (autoRelease_ordered v)

theorem handSecure_moves (d : DoorId) (rederived : Bool) (s : State) : Moves K s (handSecure d rederived s) := by
  unfold handSecure
  split
  · exact autoRelease_moves ..
  · exact .when (autoRelease_moves ..)
  · exact .refl s

theorem enterSecure_ordered (rederived : Bool) (o : Ordered s) (still : s.grantMoving d = false) : Ordered (enterSecure d rederived s) := by
  have shut := o.door_still (x := { s.doors.get d with
    state := .secure, bolt := .thrown, motion := .idle, egress := false, alarm := false, releaseDl := none, heldOpenDl := none })
    (.idle rfl) still (not_held_of_state nofun nofun)
  have rest : Moves .plain _ (enterSecure d rederived s) :=
    .trans (.when (raiseDoor_moves .doorSecured d none _)) (.unless (handSecure_moves d rederived _))
  exact rest.ordered id shut

/-- The door takes a state that holds no grant, with a throw begun. -/
theorem throwInto_ordered {st : DoorState} (o : Ordered s) (still : s.grantMoving d = false)
    (away : st ≠ .releasing ∧ st ≠ .released := by decide) : Ordered (throwInto st d s) := by
  unfold throwInto beginThrow
  split
  · refine enterSecure_ordered false ?_ still
    unfold stopAtTarget
    rw [setDoor_setDoor]
    exact o.door_still (.idle rfl) still (not_held_of_state (by simpa using away.1) (by simpa using away.2))
  · unfold startMotion
    rw [setDoor_setDoor]
    have away : ¬ Door.held { ((s.setDoor d { s.doors.get d with state := st, releaseDl := none, heldOpenDl := none }).doors.get d) with
        bolt := .thrown, motion := .moving .thrown (s.now + Config.motionTimeoutMs) } :=
      not_held_of_state (by simpa using away.1) (by simpa using away.2)
    exact o.door_still (.throwing away rfl) still away

theorem beginThrow_ordered (o : Ordered s) (away : ¬ (s.doors.get d).held) : Ordered (beginThrow d s) := by
  unfold beginThrow
  split
  · exact enterSecure_ordered false (o.rest rfl rfl) (o.still away)
  · exact o.door_still (.throwing away rfl) (o.still away) away

theorem throwKeepingTrips_ordered (o : Ordered s) (still : s.grantMoving d = false) : Ordered (throwKeepingTrips d s) :=
  (modDoor_moves (K := .plain) d (f := fun x => { x with trips := (s.doors.get d).trips }) _).ordered id
    (throwInto_ordered o still)

theorem doorCancelled_ordered (o : Ordered s) (still : s.grantMoving d = false) : Ordered (doorCancelled d s) := by
  unfold doorCancelled
  dsimp only
  split
  · exact o.door_still (.throwing (not_held_of_state nofun nofun) rfl) still (not_held_of_state nofun nofun)
  · exact throwKeepingTrips_ordered o still
  · exact throwKeepingTrips_ordered o still
  · exact o

theorem cancelGrant_moves (d : DoorId) (r : Reason) (s : State) : Moves K s (cancelGrant d r s) := by
  refine (cancelGrant_steps ..).ordering fun o => ?_
  have dropped := (dropGrant_lessens d r s).ordered o
  unfold cancelGrant
  split
  · exact doorCancelled_ordered dropped (dropGrant_still ..)
  · exact dropped

theorem enterOverlay_ordered {st : DoorState} (o : Ordered s) (away : st ≠ .releasing ∧ st ≠ .released := by decide) :
    Ordered (enterOverlay st d s) := by
  unfold enterOverlay failGrant
  simp only [State.setDoor_grants]
  split
  next g grant =>
    split
    next waits =>
      have still := grantMoving_eq_false.2 fun y is => (Option.some.inj (grant.symm.trans is)) ▸ waits
      exact o.door_still (.idle rfl) still (not_held_of_state away.1 away.2)
    next =>
      refine (raiseDoor_lessens ..).ordered ?_
      exact o.change (d := d) (g := none) (fun _ => put_get ..) (fun _ => put_get ..) (fun _ => Nat.le_refl _) (fun _ => rfl) (.idle rfl) nofun
  next gone => exact o.door_still (.idle rfl) (grantMoving_of_none gone) (not_held_of_state away.1 away.2)

theorem enterOverlay_moves (st : DoorState) (d : DoorId) (s : State) (away : st ≠ .releasing ∧ st ≠ .released := by decide) :
    Moves K s (enterOverlay st d s) := (enterOverlay_steps ..).ordering fun o => enterOverlay_ordered o away

theorem overlayOf_away {b : Band} {x : Door} {st : DoorState} (h : overlayOf b x = some st) : st ≠ .releasing ∧ st ≠ .released := by
  unfold overlayOf at h
  split at h
  · cases h
    exact ⟨nofun, nofun⟩
  · split at h
    · cases h
      exact ⟨nofun, nofun⟩
    · split at h
      · cases h
        exact ⟨nofun, nofun⟩
      · cases h

theorem rederive_ordered (o : Ordered s) (still : s.grantMoving d = false) : Ordered (rederive d s) := by
  have rested : Ordered (s.setDoor d { s.doors.get d with motion := .idle, releaseDl := none, heldOpenDl := none }) := o.rest rfl rfl
  unfold rederive
  dsimp only
  split
  next st hidden =>
    obtain ⟨a, b⟩ := overlayOf_away hidden
    have away {x : Door} (state : x.state = st) (idle : x.motion = .idle) : Ordered (s.setDoor d x) :=
      o.door_still (.idle idle) still (not_held_of_state (state ▸ a) (state ▸ b))
    split
    · exact away rfl rfl
    · exact away rfl rfl
    · split
      · exact away rfl rfl
      · exact away rfl rfl
    · exact away rfl rfl
  next =>
    split
    · exact enterSecure_ordered true rested still
    · exact throwInto_ordered rested still
    · split
      · exact enterOpen_ordered rested still
      · exact o.door_still (.idle rfl) still (not_held_of_state nofun nofun)
    · exact enterOpen_ordered rested still

theorem manualMotion_ordered (target : Bolt) (o : Ordered s) (manual : (s.doors.get d).state = .manual) :
    Ordered (manualMotion d target s) := by
  unfold manualMotion
  split
  · exact (raiseDoor_lessens ..).ordered (o.rest rfl rfl)
  · exact o.door (.manual manual) Iff.rfl

/-! What stands before the operations that hold for a door without a moving grant. -/

theorem enterOpen_moves {d : DoorId} {s : State} (still : Ordered s → s.grantMoving d = false) : Moves K s (enterOpen d s) :=
  (enterOpen_steps ..).ordering fun o => enterOpen_ordered o (still o)

theorem enterSecure_moves {d : DoorId} {s : State} (rederived : Bool) (still : Ordered s → s.grantMoving d = false) :
    Moves K s (enterSecure d rederived s) := (enterSecure_steps ..).ordering fun o => enterSecure_ordered rederived o (still o)

theorem throwInto_moves {st : DoorState} {d : DoorId} {s : State} (still : Ordered s → s.grantMoving d = false)
    (away : st ≠ .releasing ∧ st ≠ .released := by decide) : Moves K s (throwInto st d s) :=
  (throwInto_steps ..).ordering fun o => throwInto_ordered o (still o) away

theorem beginThrow_moves {d : DoorId} {s : State} (away : ¬ (s.doors.get d).held) : Moves K s (beginThrow d s) :=
  (beginThrow_steps ..).ordering fun o => beginThrow_ordered o away

theorem rederive_moves {d : DoorId} {s : State} (still : Ordered s → s.grantMoving d = false) : Moves K s (rederive d s) :=
  (rederive_steps ..).ordering fun o => rederive_ordered o (still o)

theorem manualMotion_moves (target : Bolt) {d : DoorId} {s : State} (manual : (s.doors.get d).state = .manual) :
    Moves K s (manualMotion d target s) := (manualMotion_steps ..).ordering fun o => manualMotion_ordered target o manual

/-! ## What a zone's change of state, the freeze and a change of mode do to grants and doors (R59, R121, R135, R159) -/

theorem cancelHazard_moves (z : ZoneId) (s : State) : Moves K s (cancelHazard z s) :=
  Moves.forEach (fun _ _ => .when (cancelGrant_moves ..)) s

theorem throwsAtRelease_away {z : ZoneId} (h : s.throwsAtRelease z d = true) : ¬ (s.doors.get d).held := by
  simp only [State.throwsAtRelease, Bool.and_eq_true, Bool.or_eq_true, decide_eq_true_eq] at h
  rcases h.1.1.2 with state | state <;> exact not_held_of_state (by simp [state]) (by simp [state])

theorem handZone_moves (z : ZoneId) (s : State) : Moves K s (handZone z s) := by
  unfold handZone
  exact .trans (cancelHazard_moves z s) (.when (Moves.forEach
    (fun _ _ => .ite (fun throws => beginThrow_moves (throwsAtRelease_away throws)) (fun _ => .refl _)) _))

theorem reportOpenDoor_moves (d : Option DoorId) (s : State) : Moves K s (reportOpenDoor d s) := by
  unfold reportOpenDoor
  split
  · exact .unless (raise_moves ..)
  · exact .refl s

theorem setFreeze_moves (s : State) : Moves K s (setFreeze s) := by
  unfold setFreeze
  refine .unless (.trans (t := { s with freeze := true }) (.free rfl) (Moves.forEach (fun d t => ?_) _))
  split
  · exact .when (cancelGrant_moves ..)
  · exact .refl _

theorem cancelOutOfHours_moves (s : State) : Moves K s (cancelOutOfHours s) :=
  Moves.forEach (fun _ _ => .when (cancelGrant_moves ..)) s

end Sys2Proof.Machine


/-! Proofs of the shapes that every step keeps: the operations on zones, actuators and strongrooms as moves. -/

namespace Sys2Proof.Machine

variable {K : Scope} {s : State} {z : ZoneId}

/-! ## Which records a zone may take -/

theorem ZoneMove.refl (z : ZoneId) (s : State) : ZoneMove K s z (s.zones.get z) := ⟨id, fun _ h => h, .inl⟩

/-- A change that leaves state, countdown and override. -/
theorem ZoneMove.aside {x : Zone} (hs : x.state = (s.zones.get z).state) (hc : x.countdown = (s.zones.get z).countdown)
    (ho : x.override = (s.zones.get z).override) : ZoneMove K s z x where
  shape h := by
    refine ⟨?_, ?_, ?_, ?_⟩ <;> rw [hs]
    · rw [hc]; exact h.present
    · rw [hc, ho]; exact h.running
    · rw [hc]; exact h.held
    · rw [ho]; exact h.clear
  bound _ h := hc ▸ h
  isolated h := .inl (hs.trans h)

/-- A zone without a countdown that goes on to a state without one. -/
theorem ZoneMove.onward {x : Zone} (before : (s.zones.get z).state ≠ .predischarge ∧ (s.zones.get z).state ≠ .held)
    (into : x.state ≠ .predischarge ∧ x.state ≠ .held ∧ x.state ≠ .heldOccupied)
    (hc : x.countdown = (s.zones.get z).countdown) (hi : (s.zones.get z).state = .isolated → K.leaves z) : ZoneMove K s z x where
  shape h := by
    have none : x.countdown.isSome ≠ true := by
      rw [hc, ne_eq, h.present]
      grind
    exact ⟨⟨fun k => absurd k none, fun k => by grind⟩, fun _ k => absurd k into.1, fun _ k => absurd k into.2.1, fun k => by grind⟩
  bound _ h := hc ▸ h
  isolated h := .inr (hi h)

/-- A zone that drops its countdown as it enters a state without one. -/
theorem ZoneMove.dropped {x : Zone} (into : x.state ≠ .predischarge ∧ x.state ≠ .held ∧ x.state ≠ .heldOccupied)
    (hc : x.countdown = none) (hi : (s.zones.get z).state ≠ .isolated) : ZoneMove K s z x where
  shape _ :=
    ⟨⟨fun k => by simp [hc] at k, fun k => by grind⟩, fun _ k => absurd k into.1, fun _ k => absurd k into.2.1, fun k => by grind⟩
  bound _ _ c h := by simp [hc] at h
  isolated h := absurd h hi

/-- A zone that enters HELD_OCCUPIED with the override clear. -/
theorem ZoneMove.occupied {x : Zone} (hs : x.state = .heldOccupied) (hc : x.countdown = none)
    (ho : CountdownShape (s.zones.get z) → x.override = false) (hi : (s.zones.get z).state ≠ .isolated) : ZoneMove K s z x where
  shape h :=
    ⟨⟨fun k => by simp [hc] at k, fun k => by simp [hs] at k⟩, fun _ k => by simp [hs] at k, fun _ k => by simp [hs] at k,
      fun _ => ho h⟩
  bound _ _ c h := by simp [hc] at h
  isolated h := absurd h hi

/-- A zone that counts down from `c` in PREDISCHARGE. -/
theorem ZoneMove.counting {x : Zone} {c : Countdown} (hs : x.state = .predischarge) (hc : x.countdown = some c)
    (ho : CountdownShape (s.zones.get z) → (c.kind = .manual ↔ x.override = true))
    (hb : (s.zoneSettings z).ok = true → c.remaining ≤ (s.zoneSettings z).tMax * 1000 ∨
      ∃ c', (s.zones.get z).countdown = some c' ∧ c.remaining ≤ c'.remaining)
    (hi : (s.zones.get z).state ≠ .isolated) : ZoneMove K s z x where
  shape h :=
    ⟨by simp [hs, hc], fun _ _ k => by rw [hc] at k; cases k; exact ho h, fun _ k => by simp [hs] at k, fun k => by simp [hs] at k⟩
  bound ok h c' k := by
    rw [hc] at k
    cases k
    rcases hb ok with hb | ⟨c', hc', hb⟩
    · exact hb
    · exact Nat.le_trans hb (h c' hc')
  isolated h := absurd h hi

/-- A zone whose automatic countdown `c` stands in HELD. -/
theorem ZoneMove.standing {x : Zone} {c : Countdown} (hs : x.state = .held) (hc : x.countdown = some c)
    (hk : CountdownShape (s.zones.get z) → c.kind = .automatic) (ho : CountdownShape (s.zones.get z) → x.override = false)
    (hb : (s.zoneSettings z).ok = true → c.remaining ≤ (s.zoneSettings z).tMax * 1000 ∨
      ∃ c', (s.zones.get z).countdown = some c' ∧ c.remaining ≤ c'.remaining)
    (hi : (s.zones.get z).state ≠ .isolated) : ZoneMove K s z x where
  shape h :=
    ⟨by simp [hs, hc], fun _ k => by simp [hs] at k, fun _ _ k => by rw [hc] at k; cases k; exact hk h, fun _ => ho h⟩
  bound ok h c' k := by
    rw [hc] at k
    cases k
    rcases hb ok with hb | ⟨c', hc', hb⟩
    · exact hb
    · exact Nat.le_trans hb (h c' hc')
  isolated h := absurd h hi

theorem setZone_moves {x : Zone} (h : ZoneMove K s z x) : Moves K s (s.setZone z x) :=
  .zones _ s fun y => by
    rw [put_get]
    split
    · exact ‹y = z› ▸ h
    · exact .refl y s

theorem setZone_setZone (z : ZoneId) (x y : Zone) (s : State) : (s.setZone z x).setZone z y = s.setZone z y := by
  simp [State.setZone]

/-! ## The firing bank (R84 to R86) -/

theorem Store.Within.refl (st : Store) : st.Within st := fun _ owed h => ⟨owed, h⟩

/-- A mark handed to the controller, and an operation that it starts, add no settings record. -/
theorem Store.within_startNext (now : Nat) {u st : Store} (h : u.Within st) : (u.startNext now).Within st :=
  fun item owed k => h item owed ((Store.mem_accepted_startNext now item owed u).1 k)

theorem requestMark_moves (item : MarkItem) (value : Bool) (s : State) : Moves K s (requestMark item value s) :=
  .store _ s (Store.within_startNext _ fun _ owed h => ⟨owed, h⟩)

/-- An actuator record with the same zone. -/
theorem setAct_moves (a : ActId) {x : Actuator} (h : x.zone = (s.acts.get a).zone) : Moves K s (s.setAct a x) :=
  .act a x s fun _ k => .inl (h ▸ k)


/-- An actuator and the firing bank change together. -/
theorem actBank_moves (a : ActId) {x : Actuator} {b : Bank} (h : x.zone = (s.acts.get a).zone)
    (k : s.bank.inFlight.length ≤ 2 → s.bank.pulseCount ≤ 6 → b.inFlight.length ≤ 2 ∧ b.pulseCount ≤ 6) :
    Moves K s { s.setAct a x with bank := b } :=
  (setAct_moves a h).trans (.bank b (s.setAct a x) k)

theorem queueArmed_moves (a : ActId) (s : State) : Moves K s (queueArmed a s) := actBank_moves a rfl fun h k => ⟨h, k⟩

theorem grantOne_moves (s : State) : Moves K s (grantOne s) := by
  have hb := @grantOne_bounds s
  rcases grantOne_cases s with e | ⟨a, rest, -, -, e⟩
  · rw [e]; exact .refl s
  · rw [e] at hb ⊢
    exact actBank_moves a rfl hb

theorem grantPulses_moves (s : State) : Moves K s (grantPulses s) := (grantOne_moves s).trans (grantOne_moves _)

theorem pauseTest_moves (s : State) : Moves K s (pauseTest s) := .when (.bank _ s fun h k => ⟨h, k⟩)

theorem endPause_moves (s : State) : Moves K s (endPause s) :=
  (Moves.bank { s.bank with pulseCount := 0, pauseEnd := none } s fun h _ => ⟨h, Nat.zero_le 6⟩).trans (grantPulses_moves _)

/-! ## Release (R50 to R52) -/

theorem failRelease_moves {z : ZoneId} {s : State} (h : (s.zones.get z).state = .release) : Moves K s (failRelease z s) :=
  (handZone_moves ..).after <| (raise_moves ..).after <| setZone_moves (.onward (by simp [h]) (by simp) rfl (by simp [h]))

theorem queueAll_moves (l : List ActId) (s : State) : Moves K s (queueAll l s) := Moves.foldl (fun s a => queueArmed_moves a s) l s

/-- A zone that is not ISOLATED enters RELEASE. -/
theorem enterRelease_moves {z : ZoneId} {s : State} (h : (s.zones.get z).state ≠ .isolated) : Moves K s (enterRelease z s) := by
  have handed : Moves K s (releaseHanded z s) :=
    (handZone_moves ..).after <| (grantPulses_moves _).after <| (queueAll_moves ..).after <|
      (reportOpenDoor_moves ..).after <| (reportOpenDoor_moves ..).after <| (requestMark_moves ..).after <| (raise_moves ..).after <|
      setZone_moves (.dropped (by simp [Zone.releasing]) rfl h)
  rw [enterRelease_eq]
  exact .ite (fun _ => handed.trans (failRelease_moves (by simp [Zone.releasing]))) (fun _ => handed)

theorem concludeRelease_moves (z : ZoneId) (s : State) : Moves K s (concludeRelease z s) := by
  unfold concludeRelease
  dsimp only
  refine Moves.ite (fun h => ?_) (fun _ => .refl s)
  have released : (s.zones.get z).state = .release := by simp at h; exact h.1
  refine .ite (fun _ => ?_) (fun _ => failRelease_moves released)
  exact (handZone_moves ..).after (setZone_moves (.onward (by simp [released]) (by simp) rfl (by simp [released])))

theorem zoneResult_moves (z : ZoneId) (a : ActId) (fired : Bool) (s : State) : Moves K s (zoneResult z a fired s) :=
  (concludeRelease_moves ..).after (setZone_moves (.aside rfl rfl rfl))

/-! ## Countdowns (R43, R45, R47 to R49, R63 to R76) -/

theorem takeExpiry_moves {z : ZoneId} {s : State} (h : (s.zones.get z).state = .predischarge) : Moves K s (takeExpiry z s) := by
  unfold takeExpiry
  dsimp only
  split
  · exact .refl s
  · rename_i c hc
    refine Moves.ite (fun hold => ?_) (fun _ => enterRelease_moves (by simp [h]))
    refine (handZone_moves ..).after <| (raise_moves ..).after <| setZone_moves (.occupied rfl rfl (fun sh => ?_) (by simp [h]))
    have auto : c.kind = .automatic := by
      simp only [State.expiryHolds, Bool.and_eq_true, decide_eq_true_eq] at hold
      exact hold.1.1
    simpa [auto] using (sh.running c h hc).symm

/-- The state in which a countdown has begun or goes on, before an expiry at 0 ms: its zone is in PREDISCHARGE. -/
theorem runCountdown_moves {z : ZoneId} {s : State} (x : Zone) (c : Countdown) (detail : Named)
    (h : ZoneMove K s z { x with state := .predischarge, countdown := some c }) :
    Moves K s (runCountdown z c detail (s.setZone z x)) := by
  unfold runCountdown
  simp only [State.setZone_zones, put_get_same, setZone_setZone]
  have raised : Moves K s (raise .zonePredischarge (.zone z) (some (.named detail))
      (s.setZone z { x with state := .predischarge, countdown := some c })) := (setZone_moves h).trans (raise_moves ..)
  refine .after (.when (takeExpiry_moves ?_)) (.ite (fun _ => raised) (fun _ => (handZone_moves ..).after raised))
  split
  · simp
  · rw [(handZone_reach ..).zones]
    simp

theorem holdCountdown_moves {z : ZoneId} {s : State} (x : Zone) (c : Countdown)
    (h : ZoneMove K s z { x with state := .held, countdown := some c, holdDl := none }) :
    Moves K s (holdCountdown z c (s.setZone z x)) := by
  unfold holdCountdown
  simp only [State.setZone_zones, put_get_same, setZone_setZone]
  exact (setZone_moves h).trans ((raise_moves ..).trans (handZone_moves ..))

theorem setZone_same (z : ZoneId) (s : State) : s.setZone z (s.zones.get z) = s := by simp [State.setZone]

/-- The figures of a settings record in range (R39). -/
theorem ZoneSettings.ok_le {p : ZoneSettings} (h : p.ok = true) : p.tMan ≤ p.tMax ∧ p.tResume ≤ p.tMax := by
  simp only [ZoneSettings.ok, Bool.and_eq_true, decide_eq_true_eq] at h
  omega

theorem automaticEntry_moves {z : ZoneId} {s : State} (h : (s.zones.get z).state ≠ .isolated) : Moves K s (automaticEntry z s) := by
  unfold automaticEntry
  dsimp only
  refine .ite (fun _ => holdCountdown_moves _ _ ?_) (fun _ => runCountdown_moves _ _ _ ?_)
  · exact .standing rfl rfl (fun _ => rfl) (fun _ => rfl) (fun _ => .inl (Nat.min_le_left ..)) h
  · exact .counting rfl rfl (fun _ => by simp) (fun _ => .inl (Nat.min_le_left ..)) h

/-! What a manual release and an abort are in each state of the zone. -/

theorem manualRelease_fresh {z : ZoneId} {s : State} (h : (s.zones.get z).state = .quiet ∨ (s.zones.get z).state = .alert) :
    manualRelease z s = runCountdown z ⟨.manual, (s.zoneSettings z).tMan * 1000⟩ .manual
      (s.setZone z { s.zones.get z with peak := 0, override := true }) := by
  rcases h with h | h <;> simp only [manualRelease, h]

theorem manualRelease_counting {z : ZoneId} {s : State} {c : Countdown} (hc : (s.zones.get z).countdown = some c)
    (h : (s.zones.get z).state = .predischarge ∨ (s.zones.get z).state = .held) :
    manualRelease z s = runCountdown z ⟨.manual, min c.remaining ((s.zoneSettings z).tMan * 1000)⟩ .manual
      (s.setZone z { s.zones.get z with override := true }) := by
  rcases h with h | h <;> simp only [manualRelease, h, hc]

theorem manualRelease_stopped {z : ZoneId} {s : State} (hc : (s.zones.get z).countdown = none)
    (h : (s.zones.get z).state = .predischarge ∨ (s.zones.get z).state = .held) : manualRelease z s = s := by
  rcases h with h | h <;> simp only [manualRelease, h, hc]

theorem manualRelease_occupied {z : ZoneId} {s : State} (h : (s.zones.get z).state = .heldOccupied) :
    manualRelease z s = enterRelease z s := by
  simp only [manualRelease, h]

theorem manualRelease_isolated {z : ZoneId} {s : State} (h : (s.zones.get z).state = .isolated) :
    manualRelease z s = raise .releaseIgnored (.zone z) none s := by
  simp only [manualRelease, h]

/-- A state of a zone past its countdown and its hold. -/
def ZoneState.released : ZoneState → Bool
  | .release | .soak | .vent | .discharged | .releaseFailed => true
  | _ => false

theorem manualRelease_released {z : ZoneId} {s : State} (h : (s.zones.get z).state.released = true) : manualRelease z s = s := by
  cases hs : (s.zones.get z).state <;> simp only [hs, ZoneState.released, Bool.false_eq_true] at h <;> simp only [manualRelease, hs]

theorem ZoneState.cases (st : ZoneState) : (st = .quiet ∨ st = .alert) ∨ (st = .predischarge ∨ st = .held) ∨ st = .heldOccupied ∨
    st = .isolated ∨ st.released = true := by
  cases st <;> simp [ZoneState.released]

theorem manualRelease_moves (z : ZoneId) (s : State) : Moves K s (manualRelease z s) := by
  have man : (s.zoneSettings z).ok = true → (s.zoneSettings z).tMan * 1000 ≤ (s.zoneSettings z).tMax * 1000 :=
    fun ok => Nat.mul_le_mul_right _ (ZoneSettings.ok_le ok).1
  rcases (s.zones.get z).state.cases with h | h | h | h | h
  · rw [manualRelease_fresh h]
    exact runCountdown_moves _ _ _ (.counting rfl rfl (fun _ => by simp) (fun ok => .inl (man ok)) (by rcases h with h | h <;> simp [h]))
  · cases hc : (s.zones.get z).countdown with
    | none => rw [manualRelease_stopped hc h]; exact .refl s
    | some c =>
      rw [manualRelease_counting hc h]
      exact runCountdown_moves _ _ _ (.counting rfl rfl (fun _ => by simp)
        (fun ok => .inl (Nat.le_trans (Nat.min_le_right ..) (man ok))) (by rcases h with h | h <;> simp [h]))
  · rw [manualRelease_occupied h]; exact enterRelease_moves (by simp [h])
  · rw [manualRelease_isolated h]; exact raise_moves ..
  · rw [manualRelease_released h]; exact .refl s

theorem abort_counting {z : ZoneId} {s : State} {c : Countdown} (h : (s.zones.get z).state = .predischarge)
    (hc : (s.zones.get z).countdown = some c) :
    abort z s = if (s.zones.get z).override then s else holdCountdown z c s := by
  simp only [abort, h, hc]

theorem abort_occupied {z : ZoneId} {s : State} (h : (s.zones.get z).state = .heldOccupied) :
    abort z s = holdCountdown z ⟨.automatic, 0⟩ s := by
  simp only [abort, h]

/-- An abort of a zone that neither counts nor holds an occupied release does nothing. -/
theorem abort_other {z : ZoneId} {s : State} (h : (s.zones.get z).state = .predischarge → (s.zones.get z).countdown = none)
    (k : (s.zones.get z).state ≠ .heldOccupied) : abort z s = s := by
  cases hs : (s.zones.get z).state with
  | predischarge => simp only [abort, hs, h hs]
  | heldOccupied => exact absurd hs k
  | _ => simp only [abort, hs]

/-- An automatic countdown that a zone holds from now on. -/
theorem holdCountdown_present_moves {z : ZoneId} {s : State} {c : Countdown}
    (hk : CountdownShape (s.zones.get z) → c.kind = .automatic)
    (ho : CountdownShape (s.zones.get z) → (s.zones.get z).override = false)
    (hb : c.remaining = 0 ∨ (s.zones.get z).countdown = some c) (hi : (s.zones.get z).state ≠ .isolated) :
    Moves K s (holdCountdown z c s) := by
  have h := holdCountdown_moves (K := K) (z := z) (s := s) (s.zones.get z) c (.standing rfl rfl hk ho (fun _ => ?_) hi)
  · rwa [setZone_same] at h
  · exact hb.imp (fun e => by simp [e]) (fun e => ⟨c, e, Nat.le_refl _⟩)

theorem abort_moves (z : ZoneId) (s : State) : Moves K s (abort z s) := by
  by_cases occupied : (s.zones.get z).state = .heldOccupied
  · rw [abort_occupied occupied]
    exact holdCountdown_present_moves (fun _ => rfl) (fun sh => sh.clear (.inr occupied)) (.inl rfl) (by simp [occupied])
  · by_cases idle : (s.zones.get z).state = .predischarge → (s.zones.get z).countdown = none
    · rw [abort_other idle occupied]; exact .refl s
    · obtain ⟨counting, present⟩ := Classical.not_imp.1 idle
      obtain ⟨c, hc⟩ := Option.ne_none_iff_exists'.1 present
      rw [abort_counting counting hc]
      refine Moves.ite (fun _ => .refl s) (fun clear => ?_)
      have clear : (s.zones.get z).override = false := by simpa using clear
      refine holdCountdown_present_moves (fun sh => ?_) (fun _ => clear) (.inr hc) (by simp [counting])
      have := sh.running c counting hc
      cases hk : c.kind with
      | automatic => rfl
      | manual => simp [hk, clear] at this

theorem resumeCountdown_held {z : ZoneId} {s : State} {c : Countdown} (h : (s.zones.get z).state = .held)
    (hc : (s.zones.get z).countdown = some c) :
    resumeCountdown z s =
      runCountdown z { c with remaining := max c.remaining ((s.zoneSettings z).tResume * 1000) } .resume s := by
  simp only [resumeCountdown, h, hc]

theorem resumeCountdown_other {z : ZoneId} {s : State} (h : (s.zones.get z).state = .held → (s.zones.get z).countdown = none) :
    resumeCountdown z s = s := by
  unfold resumeCountdown
  dsimp only
  split
  · rename_i hs hc
    rw [h hs] at hc
    cases hc
  · rfl

theorem resumeCountdown_moves (z : ZoneId) (s : State) : Moves K s (resumeCountdown z s) := by
  by_cases idle : (s.zones.get z).state = .held → (s.zones.get z).countdown = none
  · rw [resumeCountdown_other idle]; exact .refl s
  · obtain ⟨held, present⟩ := Classical.not_imp.1 idle
    obtain ⟨c, hc⟩ := Option.ne_none_iff_exists'.1 present
    have h := runCountdown_moves (K := K) (z := z) (s := s) (s.zones.get z)
      { c with remaining := max c.remaining ((s.zoneSettings z).tResume * 1000) } .resume ⟨?_, ?_, by simp [held]⟩
    · rw [resumeCountdown_held held hc]
      rwa [setZone_same] at h
    · intro sh
      have auto := sh.held c held hc
      have clear := sh.clear (.inl held)
      exact ⟨by simp, fun _ _ k => by cases k; simp [auto, clear], by simp, by simp⟩
    · intro ok bound c' k
      cases k
      exact Nat.max_le.2 ⟨bound c hc, Nat.mul_le_mul_right 1000 (ZoneSettings.ok_le ok).2⟩

theorem reportE_moves (z : ZoneId) (s : State) : Moves K s (reportE z s) := by
  unfold reportE
  dsimp only
  have longer {c : Countdown} {n : Nat} (hc : (s.zones.get z).countdown = some c) : Moves K s (s.setZone z { s.zones.get z with
      peak := s.occupancy z, countdown := some { c with remaining := min ((s.zoneSettings z).tMax * 1000) n } }) := by
    refine setZone_moves ⟨fun sh => ⟨?_, ?_, ?_, sh.clear⟩, ?_, .inl⟩
    · simpa [hc] using sh.present
    · rintro _ h ⟨rfl⟩
      exact sh.running c h hc
    · rintro _ h ⟨rfl⟩
      exact sh.held c h hc
    · rintro - - _ ⟨rfl⟩
      exact Nat.min_le_left ..
  split
  · exact .when (enterRelease_moves (by simp [*]))
  · exact .when (longer ‹_›)
  · exact .when (longer ‹_›)
  · exact .refl s

/-! ## Detector latches and the station line (R40 to R44) -/

theorem setLatch_moves (z : ZoneId) (isB : Bool) (s : State) : Moves K s (setLatch z isB s) := by
  unfold setLatch
  exact .ite (fun _ => .unless ((raise_moves ..).after (setZone_moves (.aside rfl rfl rfl))))
    (fun _ => .unless ((raise_moves ..).after (setZone_moves (.aside rfl rfl rfl))))

theorem latchMoves_moves (z : ZoneId) (isB : Bool) (s : State) : Moves K s (latchMoves z isB s) := by
  unfold latchMoves
  dsimp only
  split
  case h_1 =>
    refine .ite (fun _ => automaticEntry_moves (by simp [*])) (fun _ => .when ?_)
    exact (handZone_moves ..).after <| (raise_moves ..).after <| setZone_moves (.onward (by simp [*]) (by simp) rfl (by simp [*]))
  case h_2 => exact .when (automaticEntry_moves (by simp [*]))
  all_goals exact .refl s

theorem detectorAlarm_moves (z : ZoneId) (isB : Bool) (s : State) : Moves K s (detectorAlarm z isB s) :=
  .unless ((setLatch_moves ..).trans (latchMoves_moves ..))

theorem relatch_moves (z : ZoneId) (s : State) : Moves K s (relatch z s) := by
  unfold relatch
  exact .trans (.trans (.when (setLatch_moves ..)) (.when (setLatch_moves ..))) (latchMoves_moves ..)

theorem detectorChange_moves (z : ZoneId) (isB : Bool) (b : Band) (s : State) : Moves K s (detectorChange z isB b s) :=
  .after (.when (detectorAlarm_moves ..)) (setZone_moves (.aside rfl rfl rfl))

theorem stationChange_moves (z : ZoneId) (b : Band) (s : State) : Moves K s (stationChange z b s) :=
  .ite (fun _ => manualRelease_moves ..) (fun _ => .ite (fun _ => abort_moves ..) (fun _ => .when (resumeCountdown_moves ..)))

/-! ## Soak, vent, reset and isolation (R54 to R57) -/

theorem enterVent_moves {z : ZoneId} {s : State} (h : (s.zones.get z).state = .soak) : Moves K s (enterVent z s) :=
  (handZone_moves ..).after (setZone_moves (.onward (by simp [h]) (by simp) rfl (by simp [h])))

theorem enterDischarged_moves {z : ZoneId} {s : State} (h : (s.zones.get z).state = .vent) : Moves K s (enterDischarged z s) :=
  (handZone_moves ..).after <| (raise_moves ..).after <| setZone_moves (.onward (by simp [h]) (by simp) rfl (by simp [h]))

theorem enterQuiet_moves {z : ZoneId} {x : Zone} {s : State}
    (before : (s.zones.get z).state ≠ .predischarge ∧ (s.zones.get z).state ≠ .held)
    (hc : x.countdown = (s.zones.get z).countdown) (hi : (s.zones.get z).state = .isolated → K.leaves z) :
    Moves K s (enterQuiet z x s) := by
  unfold enterQuiet
  exact (relatch_moves ..).after <| (handZone_moves ..).after <| (raise_moves ..).after <| setZone_moves (.onward before (by simp) hc hi)

theorem zone_onward_states {z : ZoneId} {s : State} (h : (s.zones.get z).state = .quiet ∨ (s.zones.get z).state = .alert) :
    ((s.zones.get z).state ≠ .predischarge ∧ (s.zones.get z).state ≠ .held) ∧ (s.zones.get z).state ≠ .isolated := by
  rcases h with h | h <;> simp [h]

theorem isolate_moves {z : ZoneId} {s : State} (h : (s.zones.get z).state = .quiet ∨ (s.zones.get z).state = .alert) :
    Moves K s (isolate z s) := by
  obtain ⟨before, present⟩ := zone_onward_states h
  unfold isolate
  exact (handZone_moves ..).after <| (raise_moves ..).after <| (requestMark_moves ..).after <|
    setZone_moves (.onward before (by simp) rfl (fun k => absurd k present))

/-! ## Continuity tests and pulse results (R82, R83, R87, R88) -/

theorem testActuator_moves (a : ActId) (r : TestResult) (s : State) : Moves K s (testActuator a r s) := by
  unfold testActuator
  exact .after (.ite (fun _ => .when (raise_moves ..)) (fun _ => .unless (raise_moves ..))) (setAct_moves a rfl)

theorem resumeTests_moves (coils : Vector TestResult 32) (s : State) : Moves K s (resumeTests coils s) :=
  .unless (Moves.forEach (fun _ _ => .when (testActuator_moves ..)) s)

theorem concludeActuator_moves (a : ActId) (st : ActState) (s : State) : Moves K s (concludeActuator a st s) := by
  unfold concludeActuator
  dsimp only
  have h : Moves K s (s.setAct a { s.acts.get a with state := st, zone := s.nv.assignments.get a }) := .act a _ s fun _ k => .inr k
  split
  · exact h.trans (zoneResult_moves ..)
  · exact h

theorem pulseFired_moves (a : ActId) (s : State) : Moves K s (pulseFired a s) :=
  (concludeActuator_moves ..).after <| (raise_moves ..).after <| (requestMark_moves ..).after <| setAct_moves a rfl

theorem pulseMissed_moves (a : ActId) (s : State) : Moves K s (pulseMissed a s) := by
  unfold pulseMissed
  exact .ite (fun _ => actBank_moves a rfl fun h k => ⟨h, k⟩)
    (fun _ => (raise_moves ..).trans (concludeActuator_moves ..))

theorem endPulse_moves (a : ActId) (current : Bool) (coils : Vector TestResult 32) (s : State) :
    Moves K s (endPulse a current coils s) := by
  unfold endPulse
  have left : Moves K s { s.setAct a { s.acts.get a with pulseEnd := none } with
      bank := { s.bank with inFlight := s.bank.inFlight.filter (fun b => b ≠ a) } } :=
    actBank_moves a rfl fun h k => ⟨Nat.le_trans (List.length_filter_le ..) h, k⟩
  exact (resumeTests_moves ..).after <| (grantPulses_moves _).after <| (pauseTest_moves _).after <|
    .after (.ite (fun _ => pulseFired_moves ..) (fun _ => pulseMissed_moves ..)) left

theorem rearm_moves (a : ActId) (s : State) : Moves K s (rearm a s) := by
  unfold rearm
  refine .after (setAct_moves a ?_) (.when (requestMark_moves ..))
  by_cases fired : (s.acts.get a).state = .fired
  · rw [if_pos fired]
    rfl
  · rw [if_neg fired]

/-- An assignment that the store holds takes effect. -/
theorem assign_moves (a : ActId) {z : Option ZoneId} {s : State} (h : s.nv.assignments.get a = z) : Moves K s (assign a z s) := by
  unfold assign
  dsimp only
  have taken {x : Actuator} (hx : x.zone = z) : Moves K s (s.setAct a x) := .act a x s fun y k => .inr (h.trans (hx ▸ k))
  split
  · exact .refl s
  · exact .refl s
  · exact taken rfl
  · exact taken rfl
  all_goals
    refine .unless ?_
    split
    · exact taken rfl
    · exact taken rfl

/-! ## Strongroom records (R96 to R109) -/

/-- A strongroom record with another lone-worker state or other marks. -/
theorem setRoom_moves (v : RoomId) {x : Room} (h : x.listed.length ≤ max 16 (s.rooms.get v).listed.length)
    (k : x.assumedOut = (s.rooms.get v).assumedOut) : Moves K s (s.setRoom v x) :=
  .room v x s (fun hx => by omega) (fun hx => k ▸ hx)

theorem startInterval_moves (v : RoomId) (s : State) : Moves K s (startInterval v s) := setRoom_moves v (Nat.le_max_right ..) rfl

theorem evalLone_moves (v : RoomId) (s : State) : Moves K s (evalLone v s) := by
  unfold evalLone
  split
  · split
    · exact startInterval_moves ..
    · exact .refl s
    · exact .refl s
  · exact setRoom_moves v (Nat.le_max_right ..) rfl

theorem shortPress_moves (v : RoomId) (s : State) : Moves K s (shortPress v s) := by
  unfold shortPress
  split
  · exact .refl s
  · exact startInterval_moves ..
  · exact startInterval_moves ..

theorem settle_moves (before : Vector Room 12) (s : State) : Moves K s (settle before s) :=
  Moves.forEach (fun v _ => .trans (.when (reportE_moves v _)) (.when (evalLone_moves v _))) s

theorem settled_moves {f : State → State} (h : Moves K s (f s)) : Moves K s (settled f s) := h.trans (settle_moves ..)

theorem setEvidence_moves (v : RoomId) (s : State) : Moves K s (setEvidence v s) :=
  settled_moves (setRoom_moves v (Nat.le_max_right ..) rfl)

theorem startPrompt_moves (v : RoomId) (s : State) : Moves K s (startPrompt v s) :=
  (raise_moves ..).after (setRoom_moves v (Nat.le_max_right ..) rfl)

theorem takeOverdue_moves (v : RoomId) (s : State) : Moves K s (takeOverdue v s) :=
  (startInterval_moves ..).after <| (setEvidence_moves ..).after (raise_moves ..)

/-! ## Moving a slot, and passages (R97 to R102, R166, R169, R173, R174) -/

theorem Room.without_length (slot : SlotId) (r : Room) : (r.without slot).listed.length ≤ r.listed.length :=
  List.length_filter_le ..

theorem takeOut_moves (slot : SlotId) (s : State) : Moves K s (takeOut slot s) := by
  unfold takeOut
  split
  · exact .refl s
  · exact setRoom_moves _ (Nat.le_trans (Room.without_length ..) (Nat.le_max_right ..)) rfl
  · exact vestRemove_moves ..

theorem reportCorrection_moves (found expected : Location) (v : RoomId) (badge : Nat) (s : State) :
    Moves K s (reportCorrection found expected v badge s) := by
  unfold reportCorrection
  refine .unless ?_
  split <;> exact raise_moves ..

theorem moveTo_moves (slot : SlotId) (badge : Nat) (expected target : Location) (v : RoomId) (s : State) :
    Moves K s (moveTo slot badge expected target v s) :=
  (takeOut_moves ..).trans ((Moves.location ..).trans (reportCorrection_moves ..))

theorem listOne_moves (v : RoomId) (slot : SlotId) (badge : Nat) (expected : Location) (via : Bool) (s : State) :
    Moves K s (listOne v slot badge expected via s) := by
  have out := (takeOut_moves (K := K) slot s).trans (reportCorrection_moves (s.location slot) expected v badge (takeOut slot s))
  unfold listOne
  dsimp only
  refine .ite (fun few => ?_) (fun _ => ?_)
  · refine (raise_moves ..).after <| (Moves.location ..).after <| .after (.room v _ _ (fun _ => ?_) (fun h => h)) out
    simpa [Config.maxListed, Nat.succ_le_iff] using few
  · exact (raise_moves ..).after <| (Moves.location ..).after <| .after (.room v _ _ (fun h => h) (fun h => h)) out

theorem emptied_moves (v : RoomId) (s : State) : Moves K s (s.setVest v Vestibule.empty) :=
  (Steps.vest v Vestibule.empty s fun _ => by simp [Vestibule.empty]).lessened (emptied_lessens v s)

theorem transfer_moves (v : RoomId) (s : State) : Moves K s (transfer v s) :=
  (emptied_moves v s).trans
    (Moves.foldl (fun t (o : Occupant) => listOne_moves v o.slot o.badge (.inVestibule v) true t) _ _)

/-! A slot joins a vestibule only where there is a place, and no grant at either door that rests on it (R164, R166, R170). -/

theorem takeOut_lessens (slot : SlotId) (s : State) : Lessens s (takeOut slot s) := by
  unfold takeOut
  split
  · exact .refl s
  · exact .frame rfl rfl rfl rfl
  · exact vestRemove_lessens ..

theorem reportCorrection_lessens (found expected : Location) (v : RoomId) (badge : Nat) (s : State) :
    Lessens s (reportCorrection found expected v badge s) := by
  unfold reportCorrection
  refine .ite (fun _ => .refl s) (fun _ => ?_)
  split <;> exact raise_lessens ..

theorem moveTo_lessens (slot : SlotId) (badge : Nat) (expected target : Location) (v : RoomId) (s : State) :
    Lessens s (moveTo slot badge expected target v s) :=
  (takeOut_lessens ..).trans ((location_lessens ..).trans (reportCorrection_lessens ..))

/-- The vestibule has a place free, and neither of its doors a grant that moves. -/
structure Vacant (v : RoomId) (s : State) : Prop where
  place : (s.vests.get v).occupants.length ≤ 1
  still : ∀ d, s.role d = .strongroom v ∨ s.role d = .vestibuleOuter v → s.grantMoving d = false

theorem Vacant.lessens {v : RoomId} {t : State} (h : Vacant v s) (k : Lessens s t) : Vacant v t :=
  ⟨Nat.le_trans (k.vests v) h.place, fun d role => k.still (h.still d (k.roles d ▸ role))⟩

theorem vestAppend_ordered {v : RoomId} (slot : SlotId) (badge : Nat) (dir : Direction) (o : Ordered s) (h : Vacant v s) :
    Ordered (vestAppend v slot badge dir s) := by
  have others (w : RoomId) (other : w ≠ v) : (vestAppend v slot badge dir s).vests.get w = s.vests.get w := by
    simp [vestAppend, other]
  have full : ((vestAppend v slot badge dir s).vests.get v).occupants.length ≤ 2 := by
    simpa [vestAppend] using h.place
  refine ⟨o.guided, fun d g grant => ?_, fun w => ?_, o.inner, o.outer⟩
  · obtain ⟨held, waiting, outer, moves⟩ := o.fits d g grant
    refine ⟨held, waiting, outer, fun goes => ?_⟩
    have away : s.role d ≠ .strongroom v ∧ s.role d ≠ .vestibuleOuter v := by
      rw [← not_or]
      intro role
      rw [grantMoving_eq_false.1 (h.still d role) g grant] at goes
      cases goes
    obtain ⟨inbound, outbound, interlock⟩ := moves goes
    refine ⟨fun w role => ?_, fun w role => ?_, interlock⟩
    · rw [others w fun same => away.2 (same ▸ role)]
      exact inbound w role
    · rw [others w fun same => away.1 (same ▸ role)]
      exact outbound w role
  · by_cases same : w = v
    · exact same ▸ full
    · rw [others w same]
      exact o.capacity w

theorem joinOne_moves {v : RoomId} (slot : SlotId) (badge : Nat) (expected target : Location) {dir : Direction} (hdir : dir ≠ .none)
    (h : Ordered s → Vacant v s) : Moves K s (vestAppend v slot badge dir (moveTo slot badge expected target v s)) := by
  have moved := moveTo_lessens slot badge expected target v s
  exact ((moveTo_moves ..).steps.trans (vestAppend_steps _ _ _ hdir _)).ordering fun o =>
    vestAppend_ordered _ _ _ (moved.ordered o) ((h o).lessens moved)

theorem exitOne_moves (v : RoomId) (h : Holder) {s : State} (vacant : Ordered s → s.hasVestibule v = true → Vacant v s) :
    Moves K s (exitOne v h s) :=
  Moves.trans (.ite (fun has => joinOne_moves _ _ _ _ (by decide) fun o => vacant o has) (fun _ => moveTo_moves ..)) (raise_moves ..)

theorem joinRing_length (x : AssumedOut) {ring : List AssumedOut} (h : ring.length ≤ 8) : (joinRing x ring).length ≤ 8 := by
  unfold joinRing Config.maxAssumedOut
  split <;> simp <;> omega

theorem egressStrongroom_moves (v : RoomId) (s : State) : Moves K s (egressStrongroom v s) := by
  unfold egressStrongroom
  dsimp only
  split
  · exact .refl s
  · rename_i e rest hl
    refine (raise_moves ..).after <| (Moves.location ..).after <| .room v _ s (fun h => ?_) (fun h => joinRing_length _ h)
    rw [hl, List.length_cons] at h
    exact Nat.le_of_succ_le h

theorem inboundOne_moves (v : RoomId) (h : Holder) {s : State} (vacant : Ordered s → Vacant v s) : Moves K s (inboundOne v h s) :=
  (joinOne_moves _ _ _ _ (by decide) vacant).trans (raise_moves ..)

theorem outbound_moves (v : RoomId) (holders : List Holder) (s : State) : Moves K s (outbound v holders s) :=
  (emptyVestibule_moves ..).trans (Moves.foldl (fun t (h : Holder) => moveTo_moves h.slot h.badge .outside .outside v t) _ _)

theorem egressOuter_moves (v : RoomId) (s : State) : Moves K s (egressOuter v s) := by
  unfold egressOuter
  split
  · exact .refl s
  · exact ((Moves.location ..).trans (vestRemove_moves ..)).trans (raise_moves ..)

/-- A grant has moved at the door: what let it move, with the grant itself gone. -/
structure Moved (d : DoorId) (g : Grant) (s : State) : Prop where
  may  : MayMove s d g.purpose g.holders
  gone : s.grants.get d = none

theorem Moved.vacant_inner {d : DoorId} {g : Grant} {v : RoomId} (h : Moved d g s) (o : Ordered s) (role : s.role d = .strongroom v)
    (exit : g.purpose = .exit) (has : s.hasVestibule v = true) : Vacant v s := by
  refine ⟨(h.may.outbound v role exit).2 has, fun e at_ => ?_⟩
  rcases at_ with inner | outer
  · rw [o.inner v e d inner role]
    exact grantMoving_of_none h.gone
  · exact h.may.interlock e ⟨v, .inl ⟨role, outer⟩⟩

theorem Moved.vacant_outer {d : DoorId} {g : Grant} {v : RoomId} (h : Moved d g s) (o : Ordered s) (role : s.role d = .vestibuleOuter v)
    (entry : g.purpose = .entry) : Vacant v s := by
  refine ⟨(h.may.inbound v role entry).2, fun e at_ => ?_⟩
  rcases at_ with inner | outer
  · exact h.may.interlock e ⟨v, .inr ⟨role, inner⟩⟩
  · rw [o.outer v e d outer role]
    exact grantMoving_of_none h.gone

/-- One holder alone passes. -/
theorem foldl_one_moves {α : Type} {f : State → α → State} {l : List α} (one : l.length = 1) (h : ∀ a, Moves K s (f s a)) :
    Moves K s (l.foldl f s) := by
  obtain ⟨a, rfl⟩ := List.length_eq_one_iff.1 one
  exact h a

theorem movePassage_steps (d : DoorId) (g : Grant) (s : State) : Steps K s (movePassage d g s) := by
  have joined (v : RoomId) (h : Holder) (x : Location) {dir : Direction} (hdir : dir ≠ .none) (t : State) :
      Steps K t (vestAppend v h.slot h.badge dir (moveTo h.slot h.badge x (.inVestibule v) v t)) :=
    (moveTo_moves ..).steps.trans (vestAppend_steps _ _ _ hdir _)
  unfold movePassage
  split
  · exact .ite (fun _ => (transfer_moves ..).steps)
      (fun _ => Steps.foldl (fun t (h : Holder) => (listOne_moves _ h.slot h.badge .outside false t).steps) _ _)
  · exact Steps.foldl (fun t (h : Holder) =>
      (Steps.ite (fun _ => joined _ h _ (by decide) t) (fun _ => (moveTo_moves ..).steps)).trans (raise_steps ..)) _ _
  · exact Steps.foldl (fun t (h : Holder) => (joined _ h _ (by decide) t).trans (raise_steps ..)) _ _
  · exact (outbound_moves ..).steps
  · exact .refl s
  · exact .refl s

theorem movePassage_ordered {d : DoorId} {g : Grant} (h : Moved d g s) (o : Ordered s) : Ordered (movePassage d g s) := by
  have keeps {t : State} (m : Moves .plain s t) : Ordered t := m.ordered id o
  unfold movePassage
  split
  · exact keeps (.ite (fun _ => transfer_moves ..)
      (fun _ => Moves.foldl (fun t (h : Holder) => listOne_moves _ h.slot h.badge .outside false t) _ _))
  next v role exit =>
    exact keeps (foldl_one_moves (h.may.outbound v role exit).1 fun a => exitOne_moves v a fun o => h.vacant_inner o role exit)
  next v role entry =>
    exact keeps (foldl_one_moves (h.may.inbound v role entry).1 fun a => inboundOne_moves v a fun o => h.vacant_outer o role entry)
  · exact keeps (outbound_moves ..)
  · exact o
  · exact o

theorem passage_steps (d : DoorId) (s : State) : Steps K s (passage d s) := by
  unfold passage
  split
  · exact (setGrant_steps ..).trans ((movePassage_steps ..).trans (settle_moves ..).steps)
  · exact .refl s

/-- The passage of a grant whose door has let it move: the door opens with it (R147). -/
theorem passage_enterOpen_ordered {d : DoorId} (o : Ordered s) (held : (s.doors.get d).held) : Ordered (passage d (enterOpen d s)) := by
  unfold passage
  split
  next g grant =>
    replace grant : s.grants.get d = some g := grant
    obtain ⟨hheld, -, -, moves⟩ := o.fits d g grant
    have may : MayMove ((enterOpen d s).setGrant d none) d g.purpose g.holders :=
      MayMove.mono (s := s) (moves (hheld.2 held)) (fun _ => rfl) (fun _ => Nat.le_refl _) fun e _ still =>
        (endGrant_lessens d (enterOpen d s)).still (show (enterOpen d s).grantMoving e = false from still)
    have moved := movePassage_ordered ⟨may, put_get_same ..⟩ (opened_ordered (d := d) o)
    exact (settle_moves (K := .plain) _ _).ordered id moved
  next gone => exact enterOpen_ordered o (grantMoving_of_none gone)

theorem egressPassage_moves (d : DoorId) (s : State) : Moves K s (egressPassage d s) := by
  unfold egressPassage
  split
  · exact settled_moves (egressStrongroom_moves ..)
  · exact egressOuter_moves ..
  · exact .refl s
  · exact .refl s

theorem clearSlot_moves (v : RoomId) (slot : SlotId) (s : State) : Moves K s (clearSlot v slot s) :=
  settled_moves <| (raise_moves ..).after <| (Moves.location ..).after <|
    setRoom_moves v (Nat.le_trans (Room.without_length ..) (Nat.le_max_right ..)) rfl

theorem clearEvidence_moves (v : RoomId) (s : State) : Moves K s (clearEvidence v s) :=
  .when (settled_moves ((raise_moves ..).after (setRoom_moves v (Nat.le_max_right ..) rfl)))

theorem clearUnknown_moves (v : RoomId) (s : State) : Moves K s (clearUnknown v s) :=
  .when (settled_moves ((raise_moves ..).after (setRoom_moves v (Nat.le_max_right ..) rfl)))

end Sys2Proof.Machine


/-! Proofs of the shapes that every step keeps: the events and requests as moves. -/

namespace Sys2Proof.Machine

variable {K : Scope} {s : State}

/-! ## Doors (R140 to R159) -/

/-- A door in another state is neither RELEASING nor RELEASED. -/
theorem Door.away_of {x : Door} {st : DoorState} (h : x.state = st) (away : st ≠ .releasing ∧ st ≠ .released := by decide) :
    ¬ x.held :=
  not_held_of_state (h ▸ away.1) (h ▸ away.2)

theorem openPassage_moves {d : DoorId} {s : State} (held : (s.doors.get d).held) : Moves K s (openPassage d s) :=
  ((enterOpen_steps ..).trans (passage_steps ..)).ordering fun o => passage_enterOpen_ordered o held

theorem passIfOpen_moves (d : DoorId) (s : State) : Moves K s (passIfOpen d s) := by
  refine .ite (fun open_ => openPassage_moves (.inr ?_)) (fun _ => .refl s)
  rw [Bool.and_eq_true] at open_
  exact of_decide_eq_true open_.1

theorem completeRelease_moves {d : DoorId} {s : State} (releasing : (s.doors.get d).state = .releasing) :
    Moves K s (completeRelease d s) :=
  (passIfOpen_moves ..).after <| ((stopAtTarget_steps ..).trans (enterReleased_steps ..)).ordering fun o =>
    enterReleased_ordered (o.rest rfl rfl) (by simp [stopAtTarget, releasing])

theorem releaseDoor_steps (d : DoorId) (g : Grant) (s : State) : Steps K s (releaseDoor d g s) :=
  (passIfOpen_moves ..).steps.after <| (startRelease_steps ..).after (setGrant_steps ..)

theorem releaseDoor_moves {d : DoorId} {g : Grant} {s : State} (may : Ordered s → MayMove s d g.purpose g.holders) :
    Moves K s (releaseDoor d g s) :=
  (passIfOpen_moves ..).after <| ((setGrant_steps ..).trans (startRelease_steps ..)).ordering fun o => startRelease_ordered o rfl (may o)

theorem takeEgress_moves (d : DoorId) (s : State) : Moves K s (takeEgress d s) :=
  (egressPassage_moves ..).after <| (raiseDoor_moves ..).after (modDoor_moves d s)

theorem takeForced_moves (d : DoorId) (before : DoorState) (s : State) : Moves K s (takeForced d before s) :=
  (setAlarm_moves ..).after (raiseDoor_moves ..)

theorem openUngranted_moves {d : DoorId} {s : State} (away : ¬ (s.doors.get d).held) : Moves K s (openUngranted d s) := by
  unfold openUngranted
  exact .after (.ite (fun _ => takeEgress_moves ..) (fun _ => takeForced_moves ..)) (enterOpen_moves fun o => o.still away)

theorem openOverlay_moves (d : DoorId) (s : State) : Moves K s (openOverlay d s) :=
  .ite (fun _ => takeEgress_moves ..) (fun _ => .ite (fun _ => takeForced_moves ..) (fun _ => raiseDoor_moves ..))

theorem throwDone_moves {d : DoorId} {s : State} (away : ¬ (s.doors.get d).held) : Moves K s (throwDone d s) := by
  refine .ite (fun _ => enterSecure_moves _ fun o => o.still away)
    (fun _ => (enterSecure_moves _ fun o => o.still ?_).after (stopAtTarget_moves ..))
  simpa [stopAtTarget, Door.held] using away

theorem setEgress_moves (d : DoorId) (b : Bool) (s : State) : Moves K s (modDoor d (fun x => { x with egress := b }) s) :=
  modDoor_moves d s

theorem bandSecure_moves (b : Band) {d : DoorId} {s : State} (away : ¬ (s.doors.get d).held) : Moves K s (bandSecure d b s) := by
  unfold bandSecure
  split
  · exact setEgress_moves ..
  · exact setEgress_moves ..
  · refine .ite (fun _ => throwInto_moves fun o => o.still away)
      (fun _ => (throwInto_moves fun o => o.still ?_).after <| (setAlarm_moves ..).after (raiseDoor_moves ..))
    simpa [setAlarm, modDoor, Door.held, (raiseDoor_lessens ..).doors] using away
  · exact openUngranted_moves away
  · exact .refl s

theorem boltReturned_moves (d : DoorId) (s : State) : Moves K s (boltReturned d s) := by
  unfold boltReturned
  exact (enterSecure_moves _ fun _ => grantMoving_failGrant ..).after <| (failGrant_moves ..).after <|
    (setAlarm_moves ..).after (raiseDoor_moves ..)

theorem bandReleased_moves (b : Band) {d : DoorId} {s : State} (held : (s.doors.get d).held) : Moves K s (bandReleased d b s) := by
  unfold bandReleased
  split
  · exact openPassage_moves held
  · exact boltReturned_moves ..
  · exact .refl s

theorem bandOpen_moves (b : Band) {d : DoorId} {s : State} (away : ¬ (s.doors.get d).held) : Moves K s (bandOpen d b s) := by
  unfold bandOpen
  split
  · exact throwInto_moves fun o => o.still away
  · exact enterSecure_moves _ fun o => o.still away
  · exact .refl s

theorem bandThrowing_moves (b : Band) {d : DoorId} {s : State} (away : ¬ (s.doors.get d).held) : Moves K s (bandThrowing d b s) := by
  unfold bandThrowing
  split
  · exact throwDone_moves away
  · exact .when (beginThrow_moves away)
  · exact (setEgress_moves ..).after (stopMotion_moves ..)
  · refine (openUngranted_moves ?_).after (stopMotion_moves ..)
    simpa [stopMotion, modDoor, Door.held] using away
  · exact .refl s

theorem manualDone_moves (d : DoorId) (b : Band) (s : State) : Moves K s (manualDone d b s) := by
  unfold manualDone
  dsimp only
  split
  · exact .when ((raiseDoor_moves ..).after (stopAtTarget_moves ..))
  · exact .refl s

theorem bandOverlay_moves (d : DoorId) (b : Band) (s : State) : Moves K s (bandOverlay d b s) := by
  unfold bandOverlay
  refine .trans (manualDone_moves d b s) ?_
  dsimp only
  split
  · exact .unless (setEgress_moves ..)
  · exact setEgress_moves ..
  · exact .unless (openOverlay_moves ..)
  · exact .refl _

theorem lineFaulted_moves (d : DoorId) (s : State) : Moves K s (lineFaulted d s) :=
  (enterOverlay_moves _ _ _).after (setEgress_moves ..)

theorem bandUnused_moves (d : DoorId) (b : Band) (s : State) : Moves K s (bandUnused d b s) := by
  unfold bandUnused
  split
  · exact setEgress_moves ..
  · exact .refl s
  · exact setEgress_moves ..

theorem bandActs_moves (d : DoorId) (b previous : Band) (s : State) : Moves K s (bandActs d b previous s) := by
  unfold bandActs
  refine .ite (fun _ => bandUnused_moves ..) (fun _ => .ite (fun _ => lineFaulted_moves ..)
    (fun _ => .ite (fun _ => (rederive_moves fun _ => grantMoving_failGrant ..).after (failGrant_moves ..)) (fun _ => ?_)))
  split
  next h => exact rederive_moves fun o => o.still (Door.away_of h)
  next h => exact bandSecure_moves _ (Door.away_of h)
  next h => exact .when (completeRelease_moves h)
  next h => exact bandReleased_moves _ (.inr h)
  next h => exact bandOpen_moves _ (Door.away_of h)
  next h => exact bandThrowing_moves _ (Door.away_of h)
  next h => exact bandThrowing_moves _ (Door.away_of h)
  · exact bandOverlay_moves ..
  · exact bandOverlay_moves ..

theorem doorChange_moves (d : DoorId) (b previous : Band) (s : State) : Moves K s (doorChange d b previous s) :=
  (modDoor_moves d _).after (bandActs_moves ..)

theorem takeTrip_moves (d : DoorId) (s : State) : Moves K s (takeTrip d s) := by
  unfold takeTrip
  dsimp only
  split
  · rename_i t dl hm
    have cooled : Moves K s (s.setDoor d { s.doors.get d with
        trips := (s.doors.get d).trips + 1, motion := .cooling t (s.now + Config.coolDownMs) }) := by
      refine Steps.ordering (.door d _ s fun h => drive_cooling t _ rfl (h.1 t dl hm)) fun o =>
        o.door ((o.guided d).same rfl ?_) Iff.rfl
      simp only [Door.target, hm]
    have latched (t : State) : Moves K t (modDoor d (fun x => { x with latch := true, alarm := true, motion := .idle }) t) :=
      (setDoor_idle_steps d rfl t).ordering fun o => o.rest rfl rfl
    refine .ite (fun _ => cooled) (fun _ => .after ?_ cooled)
    unfold latchDrive
    exact (enterOverlay_moves _ _ _).after <| (raiseDoor_moves ..).after (latched _)
  · exact .refl s

/-- A door that throws its bolt is neither RELEASING nor RELEASED. -/
theorem Guided.away {x : Door} (h : Guided x) (thrown : x.target = some .thrown) : ¬ x.held := by
  rintro (state | state)
  · exact h.releasing state thrown
  · rw [h.released state] at thrown
    cases thrown

theorem retryMotion_moves {d : DoorId} {target : Bolt} {s : State} (cools : (s.doors.get d).target = some target) :
    Moves K s (retryMotion d target s) := by
  unfold retryMotion
  split
  next manual => exact manualMotion_moves _ manual
  next => exact (beginThrow_steps ..).ordering fun o => beginThrow_ordered o ((o.guided d).away cools)
  next automatic =>
    refine (passIfOpen_moves ..).after ((beginWithdraw_steps ..).ordering fun o => beginWithdraw_ordered o ?_)
    exact ((o.guided d).withdrawing cools).resolve_right automatic

theorem takeTimeout_moves {d : DoorId} {target : Bolt} {s : State} (moving : (s.doors.get d).target = some target) :
    Moves K s (takeTimeout d target s) := by
  unfold takeTimeout
  dsimp only
  have faulted {K : Scope} (det : Option Detail) : Moves K s (setAlarm d (raiseDoor .doorFault d det (stopMotion d s))) :=
    (setAlarm_moves ..).after <| (raiseDoor_moves ..).after (stopMotion_moves d s)
  split
  · exact faulted _
  · exact (throwInto_moves fun _ => grantMoving_failGrant ..).after <| (failGrant_moves ..).after (faulted _)
  · refine ⟨(faulted _).steps.trans (.door d _ _ (drive_same rfl rfl)), fun _ o => ?_⟩
    refine ((faulted (K := .plain) _).ordered id o).door_still (.idle ?_) ?_ (not_held_of_state nofun nofun)
    · simp [setAlarm, modDoor, stopMotion, (raiseDoor_lessens ..).doors]
    · refine ((raiseDoor_lessens ..).still (s := stopMotion d s) ?_)
      exact o.still ((o.guided d).away moving)

theorem expireRelease_moves (d : DoorId) (s : State) : Moves K s (expireRelease d s) := by
  unfold expireRelease
  dsimp only
  split
  · exact (throwInto_moves fun _ => grantMoving_of_none (by rw [raiseDoor_grants]; simp)).after <|
      (raiseDoor_moves ..).after (endGrant_moves ..)
  next gone => exact throwInto_moves fun _ => grantMoving_of_none gone

theorem takeHeldOpen_moves (d : DoorId) (s : State) : Moves K s (takeHeldOpen d s) :=
  (setAlarm_moves ..).after <| (raiseDoor_moves ..).after (modDoor_moves d s)

theorem setManual_moves (d : DoorId) (s : State) : Moves K s (setManual d s) := by
  unfold setManual
  exact .after (.unless (enterOverlay_moves _ _ _)) (modDoor_moves d s)

theorem setAutomatic_steps (d : DoorId) (s : State) : Steps K s (setAutomatic d s) := (modDoor_steps d s).trans (rederive_steps ..)

theorem serviceDoor_moves {d : DoorId} {s : State} (still : s.grantMoving d = false) : Moves K s (serviceDoor d s) :=
  (rederive_moves fun _ => by exact still).after (modDoor_moves d s)

theorem resetVestibule_lessens (r : Role) (s : State) : Lessens s (resetVestibule r s) := by
  unfold resetVestibule
  split
  · exact (emptied_lessens _ s).trans (Lessens.foldl (fun t (o : Occupant) => location_lessens o.slot .outside t) _ _)
  · exact .refl s

theorem resetVestibule_steps (r : Role) (s : State) : Steps K s (resetVestibule r s) := by
  unfold resetVestibule
  split
  · exact (emptied_moves _ s).steps.trans (Steps.foldl (fun t (o : Occupant) => Steps.location o.slot .outside t) _ _)
  · exact .refl s

theorem resetVestibule_moves (r : Role) (s : State) : Moves K s (resetVestibule r s) :=
  (resetVestibule_steps r s).lessened (resetVestibule_lessens r s)

theorem nvDoors_steps (h : K.roles) (d : DoorId) (p : DoorSettings) (s : State) :
    Steps K s { s with nv := s.nv.writeSettings (.door d p) } :=
  .nv _ s ⟨rfl, rfl, .inl rfl, .inr h⟩

theorem applyDoor_steps (h : K.roles) (d : DoorId) (p : DoorSettings) (s : State) : Steps K s (applyDoor d p s) := by
  unfold applyDoor
  refine .ite (fun _ => nvDoors_steps h ..) (fun _ => ?_)
  have changed := (resetVestibule_steps (K := K) p.role _).after <| (nvDoors_steps h d p _).after <|
    (resetVestibule_steps (s.role d) _).after (cancelGrant_steps d .doorUnavailable s)
  exact .ite (fun _ => (setDoor_idle_steps d rfl _).after changed) (fun _ => (rederive_steps ..).after changed)

/-! ## Loops (R22 to R36) -/

theorem setLoop_moves (k : LoopId) (x : Loop) (s : State) : Moves K s (s.setLoop k x) := .free rfl

theorem entryFreeze_moves (k : LoopId) (st : StationNo) (s : State) : Moves K s (entryFreeze k st s) :=
  .unless ((raise_moves ..).after (setFreeze_moves s))

theorem stationEvidence_moves (place : Option RoomId) (s : State) : Moves K s (stationEvidence place s) := by
  unfold stationEvidence
  split
  · exact .when (setEvidence_moves ..)
  · exact .refl s

theorem pressTimer_moves (place : Option RoomId) (s : State) : Moves K s (pressTimer place s) := by
  unfold pressTimer
  split
  · exact shortPress_moves ..
  · exact .refl s

theorem endPress_moves (k : LoopId) (t : Nat) (s : State) : Moves K s (endPress k t s) := by
  unfold endPress shortMeaning
  dsimp only
  split
  · exact .ite (fun _ => raise_moves ..)
      (fun _ => (stationEvidence_moves ..).after <| (pressTimer_moves ..).after (raise_moves ..))
  · exact .ite (fun _ => raise_moves ..)
      (fun _ => (stationEvidence_moves ..).after <| (pressTimer_moves ..).after (raise_moves ..))
  · exact raise_moves ..
  · exact raise_moves ..
  all_goals exact .refl s

theorem takeDuress_moves (k : LoopId) (s : State) : Moves K s (takeDuress k s) := by
  unfold takeDuress
  dsimp only
  refine .when ?_
  have taken : Moves K s _ := (stationEvidence_moves ((s.loopSettings k).place (s.loops.get k).heldStation) _).after <|
    (raise_moves .duress (.loop k) (some (.station (s.loops.get k).heldStation)) _).after <|
    setLoop_moves k { s.loops.get k with
      state := if (s.loops.get k).state = .pressed then .duress else .unresolvedDuress, duressDl := none } s
  exact .ite (fun _ => (entryFreeze_moves ..).after taken) (fun _ => taken)

theorem takeStuck_moves (k : LoopId) (s : State) : Moves K s (takeStuck k s) :=
  .when ((raise_moves ..).after (setLoop_moves ..))

theorem takeBy_moves (t : Nat) (deadline : Option Nat) {f : State → State} (h : ∀ s, Moves K s (f s)) (s : State) :
    Moves K s (takeBy t deadline f s) := by
  unfold takeBy
  split
  · exact .when (.asOf _ (h _))
  · exact .refl s

theorem deadlinesFirst_moves (k : LoopId) (t : Nat) (s : State) : Moves K s (deadlinesFirst k t s) :=
  (takeBy_moves _ _ (takeStuck_moves k) _).after (takeBy_moves _ _ (takeDuress_moves k) s)

theorem loopTakes_moves (k : LoopId) (sig : LoopSignal) (t : Nat) (s : State) : Moves K s (loopTakes k sig t s) := by
  unfold loopTakes
  dsimp only
  split
  · exact setLoop_moves ..
  · exact setLoop_moves ..
  · exact .refl s
  · exact (raise_moves ..).after (setLoop_moves ..)
  · exact .refl s
  · exact setLoop_moves ..
  · exact .refl s
  · exact (setLoop_moves ..).after (endPress_moves ..)
  · exact setLoop_moves ..
  · exact .unless ((setLoop_moves ..).after (endPress_moves ..))
  · exact .refl s

theorem applyLoop_moves (k : LoopId) (p : LoopSettings) (s : State) : Moves K s (applyLoop k p s) := by
  unfold applyLoop
  refine .trans (.nv (s.nv.writeSettings (.loop k p)) s ⟨rfl, rfl, .inl rfl, .inl rfl⟩ rfl) ?_
  dsimp only
  exact .when <| .after (.when (takeStuck_moves ..)) <| .after (.when (takeDuress_moves ..)) (setLoop_moves ..)

/-! ## Lines (R3 to R19) -/

theorem handOwner_moves (l : LineId) (b previous : Band) (time : Nat) (s : State) :
    Moves K s (handOwner l b previous time s) := by
  unfold handOwner
  split
  · exact detectorChange_moves ..
  · exact doorChange_moves ..
  · exact (loopTakes_moves ..).after (deadlinesFirst_moves ..)
  · exact stationChange_moves ..

theorem bandChange_moves (l : LineId) (b previous : Band) (time : Nat) (s : State) :
    Moves K s (bandChange l b previous time s) := by
  unfold bandChange raiseLine
  exact .after (.unless (.ite (fun _ => raise_moves ..) (fun _ => .when (raise_moves ..)))) (handOwner_moves ..)

theorem becomeReady_moves (s : State) : Moves K s (becomeReady s) := by
  refine .trans (t := { s with sup := { s.sup with ready := true } }) (.free rfl) (Moves.forEach (fun l t => ?_) _)
  dsimp only
  split
  · exact (bandChange_moves ..).after (.free rfl)
  · exact .refl t

theorem endScan_moves (s : State) : Moves K s (endScan s) :=
  .unless <| .trans (t := { s with sup := { s.sup with fullScans := s.sup.fullScans + 1 } }) (.free rfl) (.when (becomeReady_moves _))

/-- The line record and the fast-follow set change, and then the owner takes a confirmed band. -/
theorem takeCode_moves (l : LineId) (code : Nat) (s : State) : Moves K s (takeCode l code s) := by
  unfold takeCode
  dsimp only
  refine .after (.when (bandChange_moves ..)) ?_
  split
  · exact .free rfl
  · exact .free rfl

/-- One ms less leaves the shape of a countdown, and its bound (R64). -/
theorem tick_zoneMove (z : ZoneId) (s : State) : ZoneMove K s z (s.zones.get z).tick := by
  unfold Zone.tick
  split
  · rename_i hs
    refine ⟨fun h => ⟨by simpa using h.present, ?_, ?_, h.clear⟩, ?_, .inl⟩
    · rintro c' - less
      obtain ⟨c, hc, rfl⟩ := Option.map_eq_some_iff.1 less
      exact h.running c hs hc
    · rintro - held
      simp [hs] at held
    · rintro - h c' less
      obtain ⟨c, hc, rfl⟩ := Option.map_eq_some_iff.1 less
      exact Nat.le_trans (Nat.sub_le ..) (h c hc)
  · exact .refl z s

theorem tick_moves (h : K.clock) (s : State) : Moves K s s.tick := by
  unfold State.tick
  refine .trans (t := { s with quarters := s.quarters + 1 }) (.free rfl) ?_
  dsimp only
  refine .when ?_
  exact .trans (.zones (s.zones.map Zone.tick) _ fun z => by rw [map_get]; exact tick_zoneMove z _) (.clock h s.clock.tick _)

theorem answerMeasure_moves (cv : Conversion) (code : Nat) (s : State) : Moves K s (answerMeasure cv code s) := by
  unfold answerMeasure
  split
  · exact answerOwed_moves ..
  · exact .refl s
  · exact .refl s

/-- The conversion's end after its time has passed. -/
theorem endConversion_tick_moves (ohms : Option Nat) (s : State) : Moves K s.tick (endConversion ohms s) := by
  unfold endConversion
  have answered := (answerMeasure_moves (K := K) s.sup.converting (codeOf ohms) _).after
    (takeCode_moves s.sup.converting.line (codeOf ohms) s.tick)
  exact .trans (.after (.free rfl) answered) (.trans (.when (endScan_moves _)) (.free rfl))

theorem endConversion_moves (h : K.clock) (ohms : Option Nat) (s : State) : Moves K s (endConversion ohms s) :=
  (tick_moves h s).trans (endConversion_tick_moves ohms s)

theorem applyClass_moves (c : LineClass) (p : ClassParams) (s : State) : Moves K s (applyClass c p s) :=
  .trans (.nv (s.nv.writeSettings (.cls c p)) s ⟨rfl, rfl, .inl rfl, .inl rfl⟩ rfl)
    (Moves.forEach (fun _ _ => .when (.free rfl)) _)

/-! ## Access (R123 to R137) -/

theorem entryKind_congr {t : State} (roles : ∀ d, t.role d = s.role d) (d : DoorId) : t.entryKind d = s.entryKind d := by
  unfold State.entryKind
  simp only [roles, hasVestibule_congr roles]

theorem hasVestibule_of_outer {v : RoomId} {e : DoorId} (role : s.role e = .vestibuleOuter v) : s.hasVestibule v = true := by
  rw [State.hasVestibule, State.outerDoor, List.find?_isSome]
  exact ⟨e, List.mem_finRange e, by simp [role]⟩

/-- A door that the interlock finds SECURE has no grant that moves (R164). -/
theorem inner_still {v : RoomId} {e : DoorId} (o : Ordered s) (secure : s.isSecure (s.strongroomDoor v) = true)
    (role : s.role e = .strongroom v) : s.grantMoving e = false := by
  unfold State.isSecure at secure
  split at secure
  next i inner =>
    rw [o.inner v e i role (strongroomDoor_role inner)]
    exact o.still (Door.away_of (of_decide_eq_true secure))
  next => cases secure

theorem outer_still {v : RoomId} {e : DoorId} (o : Ordered s) (secure : s.isSecure (s.outerDoor v) = true)
    (role : s.role e = .vestibuleOuter v) : s.grantMoving e = false := by
  unfold State.isSecure at secure
  split at secure
  next i outer =>
    rw [o.outer v e i role (outerDoor_role outer)]
    exact o.still (Door.away_of (of_decide_eq_true secure))
  next => cases secure

/-- A chain of refusals that refuses nothing passes its first check and the rest. -/
theorem passes_ite {α : Type} {c : Prop} [Decidable c] {r : α} {x : Option α} (h : (if c then some r else x) = none) : ¬c ∧ x = none := by
  split at h
  · cases h
  · exact ⟨‹_›, h⟩

/-- The vestibule checks of an entry let its grant move (R165, R167). -/
theorem MayMove.entry {d : DoorId} {k : EntryKind} {hs : List Holder} (o : Ordered s) (kind : s.entryKind d = some k)
    (passes : s.vestibuleFails k = none) (one : ∀ v, s.role d = .vestibuleOuter v → hs.length = 1) : MayMove s d .entry hs := by
  refine ⟨fun v role _ => ⟨one v role, ?_⟩, fun _ _ => nofun, fun e pair => ?_⟩
  · simp only [State.entryKind, role, Option.some.injEq] at kind
    subst kind
    have full := (passes_ite (passes_ite passes).2).1
    simp only [Config.maxOccupants] at full
    omega
  · obtain ⟨v, ⟨inner, outer⟩ | ⟨outer, inner⟩⟩ := pair
    · simp only [State.entryKind, inner, hasVestibule_of_outer outer, if_true, Option.some.injEq] at kind
      subst kind
      have secure := (passes_ite (passes_ite passes).2).1
      exact outer_still o (by simpa using secure) outer
    · simp only [State.entryKind, outer, Option.some.injEq] at kind
      subst kind
      have secure := (passes_ite (passes_ite (passes_ite passes).2).2).1
      exact inner_still o (by simpa using secure) inner

/-- An entry grant of these holders may begin at the door, to wait or to be released. -/
structure EntryFits (s : State) (d : DoorId) (hs : List Holder) : Prop where
  away    : ¬ (s.doors.get d).held
  present : hs ≠ []
  may     : MayMove s d .entry hs

/-- A grant begins to wait at a door that is not held (R126, R128). -/
theorem waitGrant_ordered {d : DoorId} {g : Grant} (o : Ordered s) (away : ¬ (s.doors.get d).held) (waits : g.stage.waits = true)
    (entry : g.purpose = .entry) (present : g.holders ≠ [])
    (outer : ∀ v, s.role d = .vestibuleOuter v → g.holders.length = 1 ∧ g.stage ≠ .awaitPartner) :
    Ordered (s.setGrant d (some g)) := by
  refine o.change (d := d) (x := s.doors.get d) (g := some g) (fun e => by split <;> simp [*]) (fun _ => put_get ..) (fun _ => Nat.le_refl _)
    (fun _ => rfl) (o.guided d) ?_
  rintro _ ⟨⟩
  exact ⟨⟨fun h => (by rw [waits] at h; cases h), fun h => absurd h away⟩, fun _ => ⟨entry, present⟩,
    fun v role _ => outer v role, fun h => (by rw [waits] at h; cases h)⟩

theorem grantMode_moves {d : DoorId} {holders : List Holder} (reader : Reader) (slot : SlotId) (owed : Bool) {s : State}
    (fits : Ordered s → EntryFits s d holders) : Moves K s (grantMode d holders reader slot owed s) := by
  have waiting (st : GrantStage) (dl : Option Nat) (waits : st.waits = true) (alone : st ≠ .awaitPartner) :
      Moves K s (s.setGrant d (some ⟨holders, .entry, reader, st, dl, none⟩)) := by
    refine (setGrant_steps ..).ordering fun o => ?_
    obtain ⟨away, present, may⟩ := fits o
    exact waitGrant_ordered (g := ⟨holders, .entry, reader, st, dl, none⟩) o away waits rfl present fun v role =>
      ⟨(may.inbound v role rfl).1, alone⟩
  unfold grantMode
  dsimp only
  split
  · exact (answerOwed_moves ..).after (releaseDoor_moves fun o => (fits o).may)
  · exact (answerOwed_moves ..).after (releaseDoor_moves fun o => (fits o).may)
  · exact (answerOwed_moves ..).after (waiting _ _ rfl nofun)
  · exact (answerOwed_moves ..).after (waiting _ _ rfl nofun)
  · exact (answerOwed_moves ..).after (cancelGrant_moves ..)

theorem deferPresent_moves (w : WaitingPresent) (s : State) : Moves K s (deferPresent w s) := .free rfl

/-- A vestibule's outer door never waits for a partner (R165). -/
theorem outer_alone {d : DoorId} {k : EntryKind} {c : Credential} {v : RoomId} (kind : s.entryKind d = some k)
    (role : s.role d = .vestibuleOuter v) : s.needsPartner k c = false := by
  simp only [State.entryKind, role, Option.some.injEq] at kind
  subst kind
  rfl

theorem step12_moves {d : DoorId} {k : EntryKind} (reader : Reader) (h : Holder) (c : Credential) (owed : Bool) {s : State}
    (away : ¬ (s.doors.get d).held) (kind : s.entryKind d = some k) : Moves K s (step12 d k reader h c owed s) := by
  unfold step12
  split
  · exact answerOwed_moves ..
  next passes =>
    refine .ite (fun partner => (answerOwed_moves ..).after ?_)
      (fun _ => grantMode_moves _ _ _ fun o => ⟨away, by simp, .entry o kind passes fun _ _ => rfl⟩)
    refine (setGrant_steps ..).ordering fun o => ?_
    refine waitGrant_ordered (g := ⟨[h], .entry, .outside, .awaitPartner, _, none⟩) o away rfl rfl nofun fun v role => ?_
    rw [outer_alone kind role] at partner
    cases partner

theorem presenterPassed_moves {w : WaitingPresent} {k : EntryKind} (slot : SlotId) (c : Credential) {s : State}
    (away : ¬ (s.doors.get w.door).held) (kind : s.entryKind w.door = some k) : Moves K s (presenterPassed w k slot c s) := by
  unfold presenterPassed completePair
  dsimp only
  split
  · exact answerOwed_moves ..
  next first passes pair =>
    refine .ite (fun _ => answerOwed_moves ..) (fun _ => ?_)
    obtain ⟨g, grant, stage⟩ : ∃ g, s.grants.get w.door = some g ∧ g.stage = .awaitPartner := by
      unfold State.pendingPair Grant.pair at pair
      split at pair
      next g grant =>
        split at pair
        next stage => exact ⟨g, grant, stage⟩
        next => cases pair
      next => cases pair
    split
    · exact deferPresent_moves ..
    · have waits : s.grantMoving w.door = false :=
        grantMoving_eq_false.2 fun y is => by rw [grant] at is; cases is; rw [stage]; rfl
      have dropped : ∀ r, cancelGrant w.door r s = dropGrant w.door r s := fun r => by
        rw [cancelGrant, waits, if_neg Bool.false_ne_true]
      refine (step12_moves _ _ _ _ ?_ ?_).after (cancelGrant_moves ..)
      · rwa [dropped, (dropGrant_lessens ..).doors]
      · rw [dropped, entryKind_congr (dropGrant_lessens ..).roles, kind]
    · have fits (o : Ordered s) : MayMove s w.door .entry [first, ⟨slot, w.badge⟩] := by
        refine .entry o kind passes fun v role => ?_
        obtain ⟨-, waiting, outer, -⟩ := o.fits _ _ grant
        exact absurd stage (outer v role (waiting (by rw [stage]; rfl)).1).2
      refine .trans (raise_moves .grantOutcome (.door w.door) (some (.badge first.badge)) s) (grantMode_moves _ _ _ fun o => ?_)
      have before : Ordered s := Lessens.ordered (s := raise .grantOutcome (.door w.door) (some (.badge first.badge)) s)
        (.frame rfl rfl rfl rfl) o
      exact ⟨away, nofun, (fits before).lessens (raise_lessens ..)⟩
  next passes _ => exact step12_moves _ _ _ _ away kind

/-- A badge that passes steps 2 to 11 finds the door SECURE (R124). -/
theorem judge_passed_away {d : DoorId} {k : EntryKind} {own : Bool} {n badge : Nat} {slot : SlotId} {c : Credential}
    (h : s.judge d k own n badge = .passed slot c) : ¬ (s.doors.get d).held := by
  unfold State.judge at h
  split at h
  · cases h
  · split at h
    · cases h
    · split at h
      · cases h
      next passes =>
        unfold State.failingStep at passes
        iterate 9 replace passes := (passes_ite passes).2
        have free := (passes_ite passes).1
        simp only [State.doorFree, Bool.not_eq_true', Bool.not_eq_false, Bool.and_eq_true, decide_eq_true_eq] at free
        exact Door.away_of free.1

theorem entryChain_moves {w : WaitingPresent} {k : EntryKind} {s : State} (kind : s.entryKind w.door = some k) :
    Moves K s (entryChain w k s) := by
  unfold entryChain
  split
  · exact deferPresent_moves ..
  · exact answerOwed_moves ..
  next passed => exact presenterPassed_moves _ _ (judge_passed_away passed) kind

theorem passExit_moves {w : WaitingPresent} {h : Holder} (listed : Bool) {s : State} (free : s.exitBusy w.door = false)
    (may : Ordered s → MayMove s w.door .exit [h]) : Moves K s (passExit w h listed s) := by
  have waits : s.grantMoving w.door = false := grantMoving_eq_false.2 fun y is => by
    simp only [State.exitBusy, is, Bool.or_eq_false_iff, Bool.not_eq_false'] at free
    exact free.2
  have dropped : cancelGrant w.door .doorBusy s = dropGrant w.door .doorBusy s := by
    rw [cancelGrant, waits, if_neg Bool.false_ne_true]
  unfold passExit
  dsimp only
  rw [dropped]
  have less : Lessens s (if listed then dropGrant w.door .doorBusy s
      else raise .exitUnlisted (.door w.door) (some (.badge w.badge)) (dropGrant w.door .doorBusy s)) :=
    .ite (fun _ => dropGrant_lessens ..) (fun _ => (dropGrant_lessens ..).trans (raise_lessens ..))
  have dropping : Moves K s (dropGrant w.door .doorBusy s) := dropGrant_moves ..
  have lead : Moves K s _ := Moves.ite (c := listed = true) (fun _ => dropping)
    (fun _ => (raise_moves .exitUnlisted (.door w.door) (some (.badge w.badge)) _).after dropping)
  refine Moves.ite (fun _ => (answerOwed_moves ..).after ?_) (fun _ => (answerOwed_moves ..).after lead)
  exact ⟨lead.steps.trans (releaseDoor_steps ..), fun here o =>
    (releaseDoor_moves fun _ => (may o).lessens less).ordered here (less.ordered o)⟩

theorem exitChain_moves {w : WaitingPresent} {v : RoomId} {s : State} (role : s.role w.door = .strongroom v) :
    Moves K s (exitChain w v s) := by
  unfold exitChain
  refine .ite (fun _ => deferPresent_moves ..) (fun _ => ?_)
  split
  · exact answerOwed_moves ..
  · split
    · exact answerOwed_moves ..
    next fit =>
      have busy : s.exitBusy w.door ≠ true := fun busy => by simp [State.exitFails, busy] at fit
      cases passes : s.exitVestibuleFails v
      case some =>
        unfold State.exitFails at fit
        rw [passes, if_neg busy] at fit
        cases fit
      case none =>
        have checks (has : s.hasVestibule v = true) : (s.vests.get v).occupants.length ≤ 1 ∧ s.isSecure (s.outerDoor v) = true := by
          simp only [State.exitVestibuleFails, has, Bool.not_true, Bool.false_eq_true, if_false] at passes
          obtain ⟨full, rest⟩ := passes_ite (passes_ite passes).2
          have secure := (passes_ite rest).1
          exact ⟨by simp only [Config.maxOccupants] at full; omega, by simpa using secure⟩
        refine passExit_moves _ (by simpa using busy) fun o => ⟨fun _ _ => nofun, fun u inner _ => ⟨rfl, fun has => ?_⟩,
          fun e pair => ?_⟩
        · rw [role] at inner
          cases inner
          exact (checks has).1
        · obtain ⟨u, ⟨inner, outer⟩ | ⟨outer, -⟩⟩ := pair <;> rw [role] at *
          · rename_i inner
            cases inner
            exact outer_still o (checks (hasVestibule_of_outer outer)).2 outer
          · rename_i outer
            cases outer

theorem outerExitChain_moves {w : WaitingPresent} {v : RoomId} {s : State} (role : s.role w.door = .vestibuleOuter v) :
    Moves K s (outerExitChain w v s) := by
  unfold outerExitChain
  refine .ite (fun _ => deferPresent_moves ..) (fun _ => ?_)
  split
  · exact answerOwed_moves ..
  · split
    · exact answerOwed_moves ..
    next fit =>
      unfold State.outerExitFails at fit
      obtain ⟨busy, rest⟩ := passes_ite fit
      have secure := (passes_ite rest).1
      refine passExit_moves _ (by simpa using busy) fun o => ⟨fun _ _ => nofun, fun u inner => ?_, fun e pair => ?_⟩
      · rw [role] at inner
        cases inner
      · obtain ⟨u, ⟨inner, -⟩ | ⟨outer, inner⟩⟩ := pair
        · rw [role] at inner
          cases inner
        · rw [role] at outer
          cases outer
          exact inner_still o (by simpa using secure) inner

theorem presentChain_moves (w : WaitingPresent) (s : State) : Moves K s (presentChain w s) := by
  unfold presentChain
  refine .ite (fun _ => answerOwed_moves ..) (fun _ => ?_)
  split
  next role _ => exact exitChain_moves role
  next role _ => exact outerExitChain_moves role
  next kind _ _ => exact entryChain_moves kind
  · exact answerOwed_moves ..

theorem makeRecheck_moves (d : DoorId) (s : State) : Moves K s (makeRecheck d s) := by
  unfold makeRecheck
  split
  · exact .refl s
  next g grant =>
    split
    · exact .refl s
    · split
      · exact .refl s
      · exact cancelGrant_moves ..
      · exact .refl s
      next passes =>
        refine (answerOwed_moves ..).after <| (raise_moves ..).after (releaseDoor_moves fun o => ?_)
        obtain ⟨-, waiting, outer, moves⟩ := o.fits d g grant
        cases waits : g.stage.waits
        case false => exact moves waits
        case true =>
          obtain ⟨entry, -⟩ := waiting waits
          unfold State.recheckVerdict at passes
          split at passes
          · cases passes
          next k kind =>
            split at passes
            · cases passes
            · rw [entry]
              exact .entry o kind (Option.map_eq_none_iff.1 passes) fun v role => (outer v role entry).1

theorem startRecheck_moves (d : DoorId) (owed : Bool) (s : State) : Moves K s (startRecheck d owed s) := by
  unfold startRecheck
  split
  next grant => exact (makeRecheck_moves ..).after ((setGrant_steps ..).lessened (regrant_lessens grant rfl rfl rfl))
  · exact .refl s

theorem lapsePair_moves (d : DoorId) (s : State) : Moves K s (lapsePair d s) := by
  unfold lapsePair
  split
  · exact (raise_moves ..).after (endGrant_moves ..)
  · exact .refl s

/-- A link that differs in its receiver, its outstanding request or its presence deadline alone. -/
theorem link_moves (r : Receiver) (o : Option Request) (dl : Option Nat) (s : State) :
    Moves K s { s with link := { s.link with receiver := r, outstanding := o, presenceDl := dl } } :=
  .link _ s fun b => ⟨b.total, b.nonLife, b.repeats, b.lost, b.masks, b.busy⟩

theorem hostAbsent_moves (s : State) : Moves K s (hostAbsent s) := by
  refine .trans (t := { s with hostPresent := false, link := { s.link with presenceDl := none } })
    (.trans (link_moves s.link.receiver s.link.outstanding none s) (.free rfl)) (Moves.forEach (fun d t => ?_) _)
  unfold absenceActs
  split
  · exact .ite (fun _ => cancelGrant_moves ..) (fun _ => .when (startRecheck_moves ..))
  · exact .refl t

/-! ## The week clock (R179 to R185) -/

theorem evalWindow_moves (h : K.clock) (w : WindowId) (s : State) : Moves K s (evalWindow w s) := by
  unfold evalWindow
  exact .trans (.clock h { s.clock with windows := put s.clock.windows w (s.windowNow w) } s) (.when (raise_moves ..))

theorem deriveMode_moves (h : K.clock) (s : State) : Moves K s (deriveMode s) := by
  unfold deriveMode
  dsimp only
  refine .unless (.after (Moves.forEach (fun v t => evalLone_moves v t) _) ?_)
  have changed := (raise_moves (K := K) .modeChange .none (some (.named (.mode s.clock.derivedMode))) _).after
    (.clock h { s.clock with mode := s.clock.derivedMode } s)
  exact .ite (fun _ => (cancelOutOfHours_moves _).after changed) (fun _ => changed)

theorem evalWindows_moves (h : K.clock) (s : State) : Moves K s (evalWindows s) :=
  Moves.forEach (fun w t => evalWindow_moves h w t) s

theorem takeBoundary_moves (h : K.clock) (s : State) : Moves K s (takeBoundary s) := by
  unfold takeBoundary
  exact .trans (.clock h { s.clock with boundaryDue := false } s)
    (.when ((deriveMode_moves h _).after (evalWindows_moves h _)))

theorem setTime_moves (h : K.clock) (minute second : Nat) (s : State) : Moves K s (setTime minute second s) := by
  unfold setTime
  exact (deriveMode_moves h _).after <| (evalWindows_moves h _).after (.clock h _ s)

theorem applyWindow_moves (h : K.clock) (w : WindowId) (p : WindowSettings) (s : State) : Moves K s (applyWindow w p s) := by
  unfold applyWindow
  exact .trans (.trans (.nv (s.nv.writeSettings (.window w p)) s ⟨rfl, rfl, .inl rfl, .inl rfl⟩ rfl) (evalWindow_moves h w _))
    (.when (deriveMode_moves h _))

end Sys2Proof.Machine


/-! Proofs of the shapes that every step keeps: requests, link and store as moves, and every command as moves and at most one start. -/

namespace Sys2Proof.Machine

variable {K : Scope} {s : State}

/-! ## What each request may touch -/

/-- What a request may do besides the moves that every command may make. -/
def Scope.ofRequest : Instr → Scope
  | .zoneDeisolate _ n => { Scope.plain with leaves := fun z => n = number z }
  | .modeSet _ _ | .timeSet _ _ _ => { Scope.plain with clock := True }
  | .rowOpen _ _ | .slotStage _ _ _ _ _ _ _ | .rowCommit _ | .rowDiscard _ => { Scope.plain with rows := True }
  | .setDoor _ _ _ _ _ _ _ _ _ _ _ _ => { Scope.plain with roles := True }
  | .doorMode _ _ _ | .doorDrive _ _ _ => { Scope.plain with apart := True }
  | _ => Scope.plain

/-- A scope that allows no more than another. -/
structure Scope.Within (J K : Scope) : Prop where
  leaves : ∀ z, J.leaves z → K.leaves z
  clock  : J.clock → K.clock
  rows   : J.rows → K.rows
  roles  : J.roles → K.roles
  apart  : J.apart → K.apart

theorem Scope.Within.refl (K : Scope) : K.Within K := ⟨fun _ => id, id, id, id, id⟩

/-! ## Requests -/

theorem number_of_fromOne {n x : Nat} {i : Fin n} (h : fromOne n x = some i) : x = number i := by
  unfold fromOne at h
  split at h
  · cases h
    simp [number]
    omega
  · cases h

theorem withObject_moves {α : Type} {x : Option α} {f : α → State → State} (h : ∀ a, x = some a → Moves K s (f a s)) :
    Moves K s (withObject x f s) := by
  unfold withObject
  split
  · exact h _ rfl
  · exact answer_moves ..

theorem performed_moves {f : State → State} (h : Moves K s (f s)) : Moves K s (performed f s) := h.trans (answer_moves ..)

theorem readObject_moves {α : Type} (x : Option α) (f : State → α → ReplyData) (s : State) : Moves K s (readObject x f s) :=
  withObject_moves fun _ _ => answerData_moves ..

theorem performFetchNotice_moves (s : State) : Moves K s (performFetchNotice s) := by
  have marked (c : NoticeClass) (q : List Notice) : (markInTx c q).length = q.length ∧
      ((markInTx c q).filter Notice.nonLife).length = (q.filter Notice.nonLife).length ∧
      ∀ e ∈ markInTx c q, ∃ e' ∈ q, e.repeats = e'.repeats := by
    induction q with
    | nil => simp [markInTx]
    | cons e rest ih =>
      obtain ⟨hlen, hnon, hrep⟩ := ih
      unfold markInTx
      split
      · have same : Notice.nonLife { e with inTx := true } = Notice.nonLife e := rfl
        refine ⟨rfl, by simp [List.filter_cons, same, apply_ite List.length], fun x hx => ?_⟩
        rcases List.mem_cons.1 hx with rfl | hx
        · exact ⟨e, by simp, rfl⟩
        · exact ⟨x, by simp [hx], rfl⟩
      · refine ⟨by simp [hlen], by simp [List.filter_cons, apply_ite List.length, hnon], fun x hx => ?_⟩
        rcases List.mem_cons.1 hx with rfl | hx
        · exact ⟨x, by simp, rfl⟩
        · obtain ⟨e', he', hr⟩ := hrep x hx
          exact ⟨e', by simp [he'], hr⟩
  unfold performFetchNotice
  dsimp only
  split
  · rename_i n hn
    refine .after (reply_moves _ _ (by simp) _) (.link _ s fun b => ?_)
    obtain ⟨hlen, hnon, hrep⟩ := marked n.kind.cls s.link.notices
    refine ⟨hlen ▸ b.total, hnon ▸ b.nonLife, fun e he => ?_, b.lost, b.masks, b.busy⟩
    obtain ⟨e', he', hr⟩ := hrep e he
    rw [hr]
    exact b.repeats e' he'
  · exact reply_moves _ _ (by simp) _

theorem writeUnless_moves {blocked : Bool} {item : SettingsItem} (h : blocked = false → RequestFits K s item) :
    Moves K s (writeUnless blocked item s) := by
  unfold writeUnless
  split
  · exact answer_moves ..
  · rename_i free
    exact .request item s (h (Bool.eq_false_iff.2 free))

/-- A settings record of no zone, actuator or door asks for nothing that a shape speaks of. -/
theorem requestFits_cls (c : LineClass) (p : ClassParams) : RequestFits K s (.cls c p) := ⟨nofun, nofun, nofun⟩
theorem requestFits_loop (k : LoopId) (p : LoopSettings) : RequestFits K s (.loop k p) := ⟨nofun, nofun, nofun⟩
theorem requestFits_window (w : WindowId) (p : WindowSettings) : RequestFits K s (.window w p) := ⟨nofun, nofun, nofun⟩

theorem requestFits_zone {z : ZoneId} {p : ZoneSettings} (h : p.ok = true) : RequestFits K s (.zone z p) :=
  ⟨by rintro z p ⟨⟩; exact h, nofun, nofun⟩

theorem requestFits_actuator {a : ActId} {z : Option ZoneId} (h : s.assignmentFull a z = false) : RequestFits K s (.actuator a z) :=
  ⟨nofun, by rintro a z ⟨⟩; exact h, nofun⟩

theorem requestFits_door (h : K.roles) (d : DoorId) (p : DoorSettings) : RequestFits K s (.door d p) :=
  ⟨nofun, nofun, fun _ _ _ => h⟩

/-- A zone record that a SET_ZONE names is in range (R61). -/
theorem checkZone_ok {zone base ext tMax tMan tResume hold limit soak vent : Nat} {z : ZoneId} {p : ZoneSettings}
    (h : checkZone zone base ext tMax tMan tResume hold limit soak vent = some (z, p)) : p.ok = true := by
  unfold checkZone at h
  split at h
  · dsimp only at h
    split at h
    · cases h; assumption
    · cases h
  · cases h

theorem performSetZone_moves (zone base ext tMax tMan tResume hold limit soak vent : Nat) (s : State) :
    Moves K s (performSetZone zone base ext tMax tMan tResume hold limit soak vent s) :=
  withObject_moves fun _ h => writeUnless_moves fun _ => requestFits_zone (checkZone_ok h)

theorem performSetActuator_moves (actuator zone : Nat) (s : State) : Moves K s (performSetActuator actuator zone s) :=
  withObject_moves fun _ _ => .ite (fun _ => answer_moves ..)
    (fun full => writeUnless_moves fun _ => requestFits_actuator (by simpa using full))

theorem performSetNoticeMask_moves (pairs : List (Nat × Nat)) (s : State) : Moves K s (performSetNoticeMask pairs s) := by
  have nonLife (ps : List (Nat × Nat)) (xs : List (NoticeKind × Bool)) (h : maskPairs ps = some xs) :
      ∀ x ∈ xs, x.1.cls ≠ .life := by
    induction ps generalizing xs with
    | nil => cases h; simp
    | cons p rest ih =>
      unfold maskPairs at h
      split at h
      · rename_i x ys hx hys
        cases h
        unfold maskPair at hx
        simp only [List.mem_cons, forall_eq_or_imp]
        refine ⟨?_, ih ys hys⟩
        split at hx
        · split at hx
          · cases hx
          · cases hx; assumption
        · cases hx
      · cases h
  refine withObject_moves fun ps hps => performed_moves (.link _ s fun b => ⟨b.total, b.nonLife, b.repeats, b.lost, fun k hk => ?_, b.busy⟩)
  unfold checkMask at hps
  split at hps
  · replace hk := (List.mem_filter.1 hk).2
    unfold maskAfter at hk
    split at hk
    · rename_i x hx
      have hmem := List.mem_reverse.1 (List.mem_of_find?_eq_some hx)
      have hkind : x.1 = k := by simpa using List.find?_some hx
      exact hkind ▸ nonLife _ _ hps x hmem
    · exact b.masks k (by simpa using hk)
  · cases hps

theorem performMeasureLine_moves (line : Nat) (s : State) : Moves K s (performMeasureLine line s) :=
  withObject_moves fun _ _ => .free rfl

theorem performGetCredential_moves (slot : Nat) (s : State) : Moves K s (performGetCredential slot s) :=
  withObject_moves fun _ _ => .ite (fun _ => .free rfl) (fun _ => answerData_moves ..)

theorem performPresent_moves (door reader badge : Nat) (s : State) : Moves K s (performPresent door reader badge s) :=
  .ite (fun _ => answer_moves ..) (fun _ => withObject_moves fun _ _ => presentChain_moves ..)

theorem performConfirm_moves (door : Nat) (s : State) : Moves K s (performConfirm door s) :=
  withObject_moves fun _ _ => .ite (fun _ => startRecheck_moves ..) (fun _ => answer_moves ..)

theorem performDeny_moves (door : Nat) (s : State) : Moves K s (performDeny door s) :=
  withObject_moves fun _ _ => .ite (fun _ => performed_moves (cancelGrant_moves ..)) (fun _ => answer_moves ..)

theorem performVestibuleFlush_moves (room : Nat) (s : State) : Moves K s (performVestibuleFlush room s) :=
  withObject_moves fun _ _ => .ite (fun _ => answer_moves ..) (fun _ => (answerData_moves ..).after (emptyVestibule_moves ..))

theorem performOccupantClear_moves (room target slot : Nat) (s : State) : Moves K s (performOccupantClear room target slot s) :=
  withObject_moves fun x _ => by
    split
    · exact .ite (fun _ => performed_moves (clearSlot_moves ..)) (fun _ => answer_moves ..)
    · exact performed_moves (clearEvidence_moves ..)
    · exact performed_moves (clearUnknown_moves ..)

/-- That a door in MANUAL mode is neither RELEASING nor RELEASED is no part of the order of doors and grants: what DOOR_MODE and
DOOR_DRIVE do to that order is looked at apart. -/
theorem performDoorMode_moves (h : K.apart) (door mode : Nat) (s : State) : Moves K s (performDoorMode door mode s) :=
  withObject_moves fun x _ => .ite (fun _ => answer_moves ..) (fun _ => performed_moves (.unless (by
    split
    · exact setManual_moves ..
    · exact (setAutomatic_steps ..).apart h)))

theorem performDoorDrive_moves (h : K.apart) (door direction : Nat) (s : State) : Moves K s (performDoorDrive door direction s) :=
  withObject_moves fun _ _ => .ite (fun _ => answer_moves ..) fun _ => .ite (fun _ => answer_moves ..) fun _ =>
    .ite (fun _ => answer_moves ..) fun _ => performed_moves ((manualMotion_steps ..).apart h)

theorem performDoorService_moves (door : Nat) (s : State) : Moves K s (performDoorService door s) :=
  withObject_moves fun _ _ => .ite (fun _ => answer_moves ..) fun free => performed_moves (serviceDoor_moves (by
    rw [Bool.or_eq_true, not_or] at free
    simpa using free.2))

theorem performZoneIsolate_moves (zone : Nat) (s : State) : Moves K s (performZoneIsolate zone s) :=
  withObject_moves fun z _ => by
    split
    · exact performed_moves (isolate_moves (.inl ‹_›))
    · exact performed_moves (isolate_moves (.inr ‹_›))
    · exact answer_moves ..

theorem performZoneDeisolate_moves {zone : Nat} (h : ∀ z : ZoneId, zone = number z → K.leaves z) (s : State) :
    Moves K s (performZoneDeisolate zone s) :=
  withObject_moves fun z hz => by
    split
    · rename_i isolated
      have before : (s.zones.get z).state ≠ .predischarge ∧ (s.zones.get z).state ≠ .held := by simp [isolated]
      exact performed_moves (.after (enterQuiet_moves before rfl fun _ => h z (number_of_fromOne hz)) (requestMark_moves (.isolate z) false s))
    · exact answer_moves ..

theorem performZoneReset_moves (zone : Nat) (s : State) : Moves K s (performZoneReset zone s) :=
  withObject_moves fun z _ => by
    have discharged (h : (s.zones.get z).state = .discharged ∨ (s.zones.get z).state = .releaseFailed) :
        Moves K s (resetDischarged z s) := by
      have before : ((s.zones.get z).state ≠ .predischarge ∧ (s.zones.get z).state ≠ .held) ∧ (s.zones.get z).state ≠ .isolated := by
        rcases h with h | h <;> simp [h]
      exact .after (enterQuiet_moves before.1 rfl fun k => absurd k before.2) (requestMark_moves (.discharge z) false s)
    split
    · rename_i alert
      exact performed_moves (enterQuiet_moves (by simp [alert]) rfl (by simp [alert]))
    · exact performed_moves (discharged (.inl ‹_›))
    · exact performed_moves (discharged (.inr ‹_›))
    · exact answer_moves ..

theorem performReleaseZone_moves (zone : Nat) (s : State) : Moves K s (performReleaseZone zone s) :=
  withObject_moves fun z _ => by
    have taken : Moves K s (performed (manualRelease z) s) := performed_moves (manualRelease_moves ..)
    have refused : Moves K s (answer .badState s) := answer_moves ..
    split
    case h_6 => exact (answer_moves ..).after (manualRelease_moves ..)
    all_goals assumption

theorem performActuatorRearm_moves (actuator : Nat) (s : State) : Moves K s (performActuatorRearm actuator s) :=
  withObject_moves fun _ _ => .ite (fun _ => answer_moves ..) (fun _ => performed_moves (rearm_moves ..))

end Sys2Proof.Machine


/-! Proofs of the shapes that every step keeps: the rows of the credential store, the store controller, the link, and every command. -/

namespace Sys2Proof.Machine

variable {K : Scope} {s : State}

/-! ## Row programming and the clock -/

theorem requestHost_commit_moves (row : RowId) (s : State) : Moves K s (requestHost (.commit row) s) := by
  refine .store _ s (Store.within_startNext _ fun item owed h => ?_)
  rw [Store.mem_accepted] at h
  simp only [List.mem_append, List.mem_singleton, reduceCtorEq, or_false] at h
  exact ⟨owed, (Store.mem_accepted ..).2 h⟩

theorem performRowOpen_moves (h : K.rows) (row : Nat) (s : State) : Moves K s (performRowOpen row s) :=
  withObject_moves fun r _ => by
    split
    · exact performed_moves (.stage h _ s)
    · exact answer_moves ..

theorem performSlotStage_moves (h : K.rows) (slot badge state privileges windows flags : Nat) (s : State) :
    Moves K s (performSlotStage slot badge state privileges windows flags s) :=
  withObject_moves fun x _ => by
    split
    · exact .ite (fun _ => performed_moves (.stage h _ s)) (fun _ => answer_moves ..)
    · exact answer_moves ..

theorem performRowCommit_moves (h : K.rows) (s : State) : Moves K s (performRowCommit s) := by
  unfold performRowCommit
  split
  · exact .ite (fun _ => answer_moves ..) fun _ => .ite (fun _ => answer_moves ..) fun _ =>
      (requestHost_commit_moves ..).after <| (answer_moves ..).after (.stage h _ s)
  · exact answer_moves ..

theorem performRowDiscard_moves (h : K.rows) (s : State) : Moves K s (performRowDiscard s) := by
  unfold performRowDiscard
  split
  · exact performed_moves (.stage h _ s)
  · exact answer_moves ..

theorem performModeSet_moves (h : K.clock) (value : Nat) (s : State) : Moves K s (performModeSet value s) :=
  withObject_moves fun o _ => performed_moves ((deriveMode_moves h _).after (.clock h { s.clock with override := o } s))

theorem performTimeSet_moves (h : K.clock) (minute second : Nat) (s : State) : Moves K s (performTimeSet minute second s) :=
  withObject_moves fun _ _ => performed_moves (setTime_moves h ..)

theorem performRestart_moves (s : State) : Moves K s (performRestart s) :=
  .ite (fun _ => reply_moves _ _ (by decide) s) (fun _ => answer_moves ..)

theorem performFreezeClear_moves (s : State) : Moves K s (performFreezeClear s) :=
  performed_moves (f := fun s => { s with freeze := false }) (.free rfl)

theorem performStatus_moves (n : Nat) (s : State) : Moves K s (performStatus n s) := readObject_moves ..
theorem performGetLine_moves (n : Nat) (s : State) : Moves K s (performGetLine n s) := readObject_moves ..
theorem performGetZone_moves (n : Nat) (s : State) : Moves K s (performGetZone n s) := readObject_moves ..
theorem performGetActuator_moves (n : Nat) (s : State) : Moves K s (performGetActuator n s) := readObject_moves ..
theorem performGetDoor_moves (n : Nat) (s : State) : Moves K s (performGetDoor n s) := readObject_moves ..
theorem performGetVestibule_moves (n : Nat) (s : State) : Moves K s (performGetVestibule n s) := readObject_moves ..
theorem performGetOccupancy_moves (n : Nat) (s : State) : Moves K s (performGetOccupancy n s) := readObject_moves ..

/-- A request is made of the moves of its scope. -/
theorem performRequest_moves {i : Instr} (h : (Scope.ofRequest i).Within K) (s : State) : Moves K s (performRequest i s) := by
  cases i with
  | status => exact performStatus_moves ..
  | getLine => exact performGetLine_moves ..
  | getZone => exact performGetZone_moves ..
  | getActuator => exact performGetActuator_moves ..
  | getDoor => exact performGetDoor_moves ..
  | getVestibule => exact performGetVestibule_moves ..
  | getOccupancy => exact performGetOccupancy_moves ..
  | measureLine => exact performMeasureLine_moves ..
  | getCredential => exact performGetCredential_moves ..
  | getClock => exact answerData_moves ..
  | fetchNotice => exact performFetchNotice_moves ..
  | setClass => exact withObject_moves fun _ _ => writeUnless_moves fun _ => requestFits_cls ..
  | setLoop => exact withObject_moves fun _ _ => writeUnless_moves fun _ => requestFits_loop ..
  | setZone => exact performSetZone_moves ..
  | setActuator => exact performSetActuator_moves ..
  | setDoor => exact withObject_moves fun _ _ => writeUnless_moves fun _ => requestFits_door (h.roles trivial) ..
  | setWindow => exact withObject_moves fun _ _ => writeUnless_moves fun _ => requestFits_window ..
  | setNoticeMask => exact performSetNoticeMask_moves ..
  | rowOpen => exact performRowOpen_moves (h.rows trivial) ..
  | slotStage => exact performSlotStage_moves (h.rows trivial) ..
  | rowCommit => exact performRowCommit_moves (h.rows trivial) ..
  | rowDiscard => exact performRowDiscard_moves (h.rows trivial) ..
  | present => exact performPresent_moves ..
  | confirm => exact performConfirm_moves ..
  | deny => exact performDeny_moves ..
  | freezeSet => exact performed_moves (setFreeze_moves ..)
  | freezeClear => exact performFreezeClear_moves ..
  | modeSet => exact performModeSet_moves (h.clock trivial) ..
  | vestibuleFlush => exact performVestibuleFlush_moves ..
  | occupantClear => exact performOccupantClear_moves ..
  | zoneIsolate => exact performZoneIsolate_moves ..
  | zoneDeisolate => exact performZoneDeisolate_moves (fun z e => h.leaves z e) _
  | zoneReset => exact performZoneReset_moves ..
  | releaseZone => exact performReleaseZone_moves ..
  | actuatorRearm => exact performActuatorRearm_moves ..
  | doorMode => exact performDoorMode_moves (h.apart trivial) ..
  | doorDrive => exact performDoorDrive_moves (h.apart trivial) ..
  | doorService => exact performDoorService_moves ..
  | timeSet => exact performTimeSet_moves (h.clock trivial) ..
  | restart => exact performRestart_moves ..
  | _ => exact .refl s

/-! ## The link -/

theorem answerBusy_moves (kind tag : Nat) (s : State) : Moves K s (answerBusy kind tag s) := by
  unfold answerBusy
  split
  · rename_i few
    refine .link _ s fun b => ⟨b.total, b.nonLife, b.repeats, b.lost, b.masks, ?_⟩
    simp only [List.filter_append, List.length_append, List.filter_cons, decide_true, if_true, List.filter_nil, List.length_singleton]
    exact few
  · exact .refl s

theorem hostHeard_moves (s : State) : Moves K s (hostHeard s) :=
  .trans (link_moves s.link.receiver s.link.outstanding (some (s.now + Config.presenceMs)) s) (.free rfl)

theorem takeRequest_moves (kind tag : Nat) {f : State → State} (h : ∀ t, Moves K t (f t)) (s : State) :
    Moves K s (takeRequest kind tag f s) := by
  unfold takeRequest
  dsimp only
  split
  · exact (answerBusy_moves ..).after (hostHeard_moves s)
  · exact .trans (hostHeard_moves s) (.trans (link_moves s.link.receiver (some ⟨kind, tag⟩) (some (s.now + Config.presenceMs)) _) (h _))

theorem setReceiver_moves (r : Receiver) (s : State) : Moves K s (setReceiver r s) :=
  link_moves r s.link.outstanding s.link.presenceDl s

/-- A frame whose CRC agrees is complete: two bytes follow those it covers. -/
theorem crcAgrees_length {len : Nat} {got : List Byte} {b : Byte} (h : crcAgrees len (got ++ [b]) = true) :
    got.length + 1 = len + 2 := by
  have h := congrArg List.length (of_decide_eq_true h)
  simp [crcBytes] at h
  omega

/-- A valid frame that the byte completes is taken as its request. -/
theorem takeByte_moves (b : Byte) (s : State)
    (h : ∀ len got kind tag body i, s.link.receiver = .body len got → got.length + 1 = len + 2 → crcAgrees len (got ++ [b]) = true →
      (got ++ [b]).take len = kind :: tag :: body → decodeRequest kind.toNat tag.toNat body = .request i →
      (Scope.ofRequest i).Within K) : Moves K s (takeByte b s) := by
  unfold takeByte
  split
  · exact .when (setReceiver_moves ..)
  · exact .ite (fun _ => setReceiver_moves ..) (fun _ => setReceiver_moves ..)
  · rename_i len got hr
    refine .ite (fun _ => setReceiver_moves ..) (fun full => ?_)
    refine .trans (setReceiver_moves .hunt s) ?_
    unfold completeFrame
    refine Moves.ite (fun agrees => ?_) (fun _ => .refl _)
    split
    · rename_i kind tag body split
      refine takeRequest_moves _ _ (fun t => ?_) _
      unfold performFrame
      cases decoded : decodeRequest kind.toNat tag.toNat body with
      | unknownKind => exact answer_moves ..
      | frameLength => exact answer_moves ..
      | request i => exact performRequest_moves (h len got kind tag body i hr (crcAgrees_length agrees) agrees split decoded) t
    · exact .refl _

theorem unowed_within (st : Store) : st.unowed.Within st := by
  intro item owed h
  rw [Store.mem_accepted] at h
  simp only [Store.mem_accepted]
  have back (op : StoreOp) (e : op.unowed = .settings item owed) : ∃ owed', op = .settings item owed' := by
    cases op <;> simp_all [StoreOp.unowed]
  rcases h with ⟨dl, hr⟩ | hm
  · simp only [Store.unowed, Option.map_eq_some_iff] at hr
    obtain ⟨⟨op, dl'⟩, hr, e⟩ := hr
    obtain ⟨owed', rfl⟩ := back op (by simpa using congrArg Running.op e)
    exact ⟨owed', .inl ⟨dl', hr⟩⟩
  · simp only [Store.unowed, List.mem_map] at hm
    obtain ⟨op, hm, e⟩ := hm
    obtain ⟨owed', rfl⟩ := back op e
    exact ⟨owed', .inr hm⟩

theorem clearLink_moves (s : State) : Moves K s (clearLink s) := by
  have cleared : Moves K s { s with link := { s.link with
      receiver := .hunt, outstanding := none, tx := [], notices := s.link.notices.map (fun e => { e with inTx := false }) } } := by
    refine .link _ s fun b => ⟨by simpa using b.total, ?_, ?_, b.lost, b.masks, by simp⟩
    · have same : (Notice.nonLife ∘ fun e : Notice => { e with inTx := false }) = Notice.nonLife := rfl
      simpa [List.filter_map, same] using b.nonLife
    · simpa using b.repeats
  refine ((cleared.trans (.store s.store.unowed _ (unowed_within _))).steps.trans (.free rfl)).lessened
    ⟨rfl, fun _ => rfl, fun d y grant => ?_, fun _ => Nat.le_refl _⟩
  simp only [clearLink, map_get] at grant
  obtain ⟨g, old, rfl⟩ := Option.map_eq_some_iff.1 grant
  exact ⟨g, old, rfl, rfl, rfl⟩

theorem filter_busy_tail {r : Reply} {rest : List Reply} (h : ((r :: rest).filter (fun x => x.role = .busy)).length ≤ 3) :
    (rest.filter (fun x => x.role = .busy)).length ≤ 3 := by
  rw [List.filter_cons] at h
  split at h
  · exact Nat.le_trans (Nat.le_succ _) h
  · exact h

/-- The end of a reply takes it from the transmit queue; that of a RESTART may start the part again. -/
theorem finishReply_moves {r : Reply} {rest : List Reply} (h : s.link.tx = r :: rest) :
    ∃ u, Moves K s u ∧ (finishReply r rest s = u ∨ r.role = .restart ∧ finishReply r rest s = startAgain u) := by
  have sent (o : Option Request) : Moves K s { s with link := { s.link with tx := rest, outstanding := o } } :=
    .link _ s fun b => ⟨b.total, b.nonLife, b.repeats, b.lost, b.masks, filter_busy_tail (h ▸ b.busy)⟩
  unfold finishReply
  dsimp only
  split
  · exact ⟨_, sent s.link.outstanding, .inl rfl⟩
  · exact ⟨_, sent none, .inl rfl⟩
  · rename_i carried _
    refine ⟨_, .trans (sent none) (.link ({ s.link with tx := rest, outstanding := none }.fetched carried) _ fun b => ?_), .inl rfl⟩
    refine ⟨Nat.le_trans (List.length_filter_le ..) b.total, ?_, fun e he => b.repeats e (List.mem_filter.1 he).1, Nat.le_trans (Nat.sub_le ..) b.lost,
      b.masks, b.busy⟩
    refine Nat.le_trans ?_ b.nonLife
    simpa [Link.fetched] using (List.filter_sublist.filter _).length_le
  · refine ⟨_, sent none, ?_⟩
    unfold testRestart
    split
    · exact .inr ⟨‹_›, rfl⟩
    · exact .inl rfl

/-! ## The store controller (R118, R200) -/

theorem startStore_moves (s : State) : Moves K s (startStore s) := .store _ s (Store.within_startNext _ (.refl _))

theorem endRunning_moves (s : State) : Moves K s (endRunning s) :=
  .store _ s fun item owed h => ⟨owed, by rw [Store.mem_accepted] at h ⊢; exact .inr (by simpa using h)⟩

theorem writeMark_nvMove (m : Nv) (item : MarkItem) (value : Bool) : NvMove K m (m.writeMark item value) := by
  cases item <;> exact ⟨rfl, rfl, .inl rfl, .inl rfl⟩

theorem finishMark_moves (item : MarkItem) (value : Bool) (s : State) : Moves K s (finishMark item value s) := by
  unfold finishMark
  exact (startStore_moves _).after <| .trans (endRunning_moves s) (.nv _ (endRunning s) (writeMark_nvMove ..) (by cases item <;> rfl))

/-- A settings write completes; only a window record touches the clock, and only a door record the roles, whose order is looked at
apart. -/
theorem finishSettings_moves {item : SettingsItem} {owed : Bool} {dl : Nat} (clock : ∀ w p, item = .window w p → K.clock)
    (roles : ∀ d p, item = .door d p → K.roles ∧ K.apart) (h : s.store.running = some ⟨.settings item owed, dl⟩) :
    Moves K s (finishSettings item owed s) := by
  unfold finishSettings
  refine (startStore_moves _).after <| (answerOwed_moves ..).after ?_
  cases item with
  | cls c p => exact (applyClass_moves ..).after (endRunning_moves s)
  | loop k p => exact (applyLoop_moves ..).after (endRunning_moves s)
  | zone z p => exact .writeZone z p owed dl s h
  | actuator a z => exact (assign_moves a (by simp [Nv.writeSettings])).after (.writeActuator a z owed dl s h)
  | door d p =>
    obtain ⟨touches, apart⟩ := roles d p rfl
    exact ((applyDoor_steps touches ..).apart apart).after (endRunning_moves s)
  | window w p => exact (applyWindow_moves (clock w p rfl) ..).after (endRunning_moves s)

theorem writeRow_sparseOk (nv : Nv) (row : RowId) (staged : Vector Credential 8) (touched : Vector Bool 8)
    (h : sparseOk Credential.empty nv.credentials = true) : sparseOk Credential.empty (nv.writeRow row staged touched).credentials = true := by
  unfold Nv.writeRow
  induction every 8 generalizing nv with
  | nil => exact h
  | cons j rest ih =>
    refine ih _ ?_
    dsimp only
    split
    · exact sparsePut_ok _ _ h
    · exact h

theorem writeRow_other (nv : Nv) (row : RowId) (staged : Vector Credential 8) (touched : Vector Bool 8) :
    nv.writeRow row staged touched = { nv with credentials := (nv.writeRow row staged touched).credentials } := by
  unfold Nv.writeRow
  induction every 8 generalizing nv with
  | nil => rfl
  | cons j rest ih =>
    rw [List.foldl_cons, ih]
    split <;> rfl

theorem writeOp_commit_doors (m : Nv) (st : Stage) (row : RowId) : (m.writeOp st (.commit row)).doors = m.doors := by
  cases st with
  | committing r staged touched =>
    have doors := congrArg Nv.doors (writeRow_other m r staged touched)
    exact doors
  | _ => rfl

theorem writeOp_commit_nvMove (h : K.rows) (m : Nv) (st : Stage) (row : RowId) : NvMove K m (m.writeOp st (.commit row)) := by
  have doors := writeOp_commit_doors m st row
  cases st with
  | committing r staged touched =>
    have other := writeRow_other m r staged touched
    have zones := congrArg Nv.zones other
    have assignments := congrArg Nv.assignments other
    exact ⟨zones, assignments, .inr ⟨h, writeRow_sparseOk m r staged touched⟩, .inl doors⟩
  | _ => exact ⟨rfl, rfl, .inl rfl, .inl doors⟩

theorem finishCommit_moves (h : K.rows) (row : RowId) (s : State) : Moves K s (finishCommit row s) := by
  unfold finishCommit
  exact (startStore_moves _).after <| (raise_moves ..).after <| .after (.stage h .idle _) <|
    .after (.nv _ (endRunning s) (writeOp_commit_nvMove h s.nv s.stage row) (writeOp_commit_doors ..)) (endRunning_moves s)

end Sys2Proof.Machine


/-! Proofs of the shapes that every step keeps: every command as moves of its scope and at most one start. -/

namespace Sys2Proof.Machine

variable {K : Scope} {s : State}

/-! ## Commands -/

/-- What a command may do in a state besides the moves that every command may make. -/
def Scope.ofCommand (s : State) : Instr → Scope
  | .conversionEnd _ | .minuteBoundary => { Scope.plain with clock := True }
  | .settingsWriteDone => { Scope.plain with clock := True, roles := True, apart := True }
  | .commitDone => { Scope.plain with rows := True }
  | .byteReceived b true => ⟨fun z => CompletesDeisolate b z s, True, True, True, True⟩
  | c => Scope.ofRequest c

/-- A request on the link is performed by its own rule. -/
theorem exec_request {c : Instr} {f : RequestFrame} (h : encodeRequest c = some f) (s : State) :
    exec c s = onRequest f.kind f.tag (performRequest c) s := by
  cases c <;> cases h <;> rfl

theorem ofCommand_request {c : Instr} {f : RequestFrame} (h : encodeRequest c = some f) (s : State) :
    Scope.ofCommand s c = Scope.ofRequest c := by
  cases c <;> first | rfl | cases h

/-- A command that changes state alone, and with main power off nothing, is made of moves where its change is. -/
theorem powered_moves {f : State → State} {s t : State} (h : powered f s = .next t) (hf : Moves K s (f s)) : Moves K s t := by
  unfold powered whilePowered at h
  cases h
  exact .when hf

theorem whenDue_moves {f : State → State} {s : State} (dl : Option Nat) (h : Moves K s (f s)) : Moves K s (whenDue dl f s) := .when h

theorem onRequest_moves {kind tag : Nat} {i : Instr} {s t : State} (h : onRequest kind tag (performRequest i) s = .next t)
    (hi : (Scope.ofRequest i).Within K) : Moves K s t :=
  powered_moves h (takeRequest_moves _ _ (fun _ => performRequest_moves hi _) _)

theorem decodeRequest_deisolate {kind tag t n : Nat} {body : List Byte}
    (h : decodeRequest kind tag body = .request (.zoneDeisolate t n)) : t = tag := by
  simp only [decodeRequest, body0, body1, body2, decodeSetClass, decodeSetLoop, decodeSetZone, decodeSetDoor, decodeSetWindow,
    decodeSetNoticeMask, decodeSlotStage, decodePresent, decodeOccupantClear, decodeGetCredential, decodeTimeSet] at h
  repeat' split at h
  all_goals cases h
  rfl

/-- The byte that completes a frame has the scope of the frame's request. -/
theorem within_byteReceived {b : Byte} {s : State} {len : Nat} {got : List Byte} {kind tag : Byte} {body : List Byte} {i : Instr}
    (hr : s.link.receiver = .body len got) (full : got.length + 1 = len + 2) (agrees : crcAgrees len (got ++ [b]) = true)
    (hs : (got ++ [b]).take len = kind :: tag :: body) (decoded : decodeRequest kind.toNat tag.toNat body = .request i) :
    (Scope.ofRequest i).Within (Scope.ofCommand s (.byteReceived b true)) := by
  refine ⟨fun z hz => ?_, fun _ => trivial, fun _ => trivial, fun _ => trivial, fun _ => trivial⟩
  cases i with
  | zoneDeisolate t n =>
    obtain rfl := decodeRequest_deisolate decoded
    exact ⟨len, got, kind, tag, body, hr, full, agrees, hs, by rw [decoded, show n = number z from hz]⟩
  | _ => exact absurd hz (by simp [Scope.ofRequest, Scope.plain])

/-- The state of a command's next state: moves of the command's scope, a start, moves and a restart, or the loss of power. -/
inductive Course : Instr → State → State → Prop
  | moves {c : Instr} {s t : State} (h : Moves (Scope.ofCommand s c) s t) : Course c s t
  | restarts {c : Instr} {s u : State} (h : Moves (Scope.ofCommand s c) s u) (owed : s.owesRestart = true)
      (hc : c = .replySent ∨ c = .linkBreak) : Course c s (startAgain u)
  | cold (s : State) : Course .coldStart s (startCold s)
  | warm (off : Nat) (s : State) : Course (.warmStart off) s (startWarm off s)
  | loss (written : Bool) (s : State) : Course (.powerLoss written) s (losePower written s)

theorem powerLoss_course {written : Bool} {s t : State} (h : exec (.powerLoss written) s = .next t) : Course (.powerLoss written) s t := by
  unfold exec execPowerLoss powered whilePowered at h
  cases h
  split
  · exact .loss written s
  · exact .moves (.refl s)

theorem replySent_course {s t : State} (h : exec .replySent s = .next t) : Course .replySent s t := by
  unfold exec execReplySent powered whilePowered at h
  cases h
  split
  · dsimp only
    split
    · rename_i r rest tx
      obtain ⟨u, hu, e | ⟨role, e⟩⟩ := finishReply_moves (K := Scope.ofCommand s .replySent) tx <;> rw [e]
      · exact .moves hu
      · exact .restarts hu (by simp [State.owesRestart, tx, role]) (.inl rfl)
    · exact .moves (.refl s)
  · exact .moves (.refl s)

theorem linkBreak_course {s t : State} (h : exec .linkBreak s = .next t) : Course .linkBreak s t := by
  unfold exec execLinkBreak powered whilePowered at h
  cases h
  split
  · dsimp only
    split
    · unfold testRestart
      split
      · exact .restarts (clearLink_moves s) ‹_› (.inr rfl)
      · exact .moves (clearLink_moves s)
    · exact .moves (clearLink_moves s)
  · exact .moves (.refl s)

/-- The operation that is due is the one that runs. -/
theorem runningDue_some {s : State} {op : StoreOp} (h : runningDue s = some op) : ∃ dl, s.store.running = some ⟨op, dl⟩ := by
  unfold runningDue at h
  split at h
  · rename_i r hr
    split at h
    · cases h
      exact ⟨_, hr⟩
    · cases h
  · cases h

theorem Zone.expired_state {x : Zone} (h : x.expired = true) : x.state = .predischarge := by
  unfold Zone.expired at h
  rw [Bool.and_eq_true] at h
  exact of_decide_eq_true h.1

/-- Every command that answers a next state takes one of these courses. -/
theorem exec_course {c : Instr} {s t : State} (h : exec c s = .next t) : Course c s t := by
  cases request : encodeRequest c with
  | some f =>
    rw [exec_request request] at h
    exact .moves (onRequest_moves h (ofCommand_request request s ▸ .refl _))
  | none =>
  cases c with
  | coldStart => cases h; exact .cold s
  | warmStart off => cases h; exact .warm off s
  | powerLoss written => exact powerLoss_course h
  | replySent => exact replySent_course h
  | linkBreak => exact linkBreak_course h
  | conversionEnd ohms => exact .moves (powered_moves h (endConversion_moves trivial ohms s))
  | duressDeadline k => exact .moves (powered_moves h (takeBy_moves _ _ (takeDuress_moves k) s))
  | stuckDeadline k => exact .moves (powered_moves h (whenDue_moves _ (deadlinesFirst_moves ..)))
  | countdownExpiry z => exact .moves (powered_moves h (Moves.ite (fun x => takeExpiry_moves (Zone.expired_state x)) (fun _ => .refl s)))
  | holdDeadline z =>
    exact .moves (powered_moves h (Moves.ite (fun x => whenDue_moves _ (enterRelease_moves (by simp [x]))) (fun _ => .refl s)))
  | pulseEnd a current coils => exact .moves (powered_moves h (.when (whenDue_moves _ (endPulse_moves ..))))
  | rechargePauseEnd => exact .moves (powered_moves h (whenDue_moves _ (endPause_moves s)))
  | continuityTest a result => exact .moves (powered_moves h (.when (testActuator_moves ..)))
  | soakExpiry z => exact .moves (powered_moves h (Moves.ite (fun x => whenDue_moves _ (enterVent_moves x)) (fun _ => .refl s)))
  | ventExpiry z => exact .moves (powered_moves h (Moves.ite (fun x => whenDue_moves _ (enterDischarged_moves x)) (fun _ => .refl s)))
  | intervalDeadline v =>
    refine .moves (powered_moves h ?_)
    split
    · exact whenDue_moves _ (startPrompt_moves ..)
    all_goals exact .refl s
  | responseWindowDeadline v =>
    refine .moves (powered_moves h ?_)
    split
    · exact whenDue_moves _ (takeOverdue_moves ..)
    all_goals exact .refl s
  | overcurrentTrip d => exact .moves (powered_moves h (takeTrip_moves d s))
  | coolDownEnd d =>
    refine .moves (powered_moves h ?_)
    split
    · exact whenDue_moves _ (retryMotion_moves (by simp only [Door.target, *]))
    all_goals exact .refl s
  | motionTimeout d =>
    refine .moves (powered_moves h ?_)
    split
    · exact whenDue_moves _ (takeTimeout_moves (by simp only [Door.target, *]))
    all_goals exact .refl s
  | releaseDeadline d => exact .moves (powered_moves h (.when (whenDue_moves _ (expireRelease_moves ..))))
  | heldOpenDeadline d => exact .moves (powered_moves h (.when (whenDue_moves _ (takeHeldOpen_moves ..))))
  | pairWindowLapse d => exact .moves (powered_moves h (whenDue_moves _ (lapsePair_moves ..)))
  | delayHoldEnd d => exact .moves (powered_moves h (whenDue_moves _ (startRecheck_moves ..)))
  | confirmTimeout d => exact .moves (powered_moves h (whenDue_moves _ (cancelGrant_moves ..)))
  | minuteBoundary => exact .moves (powered_moves h (.when (takeBoundary_moves trivial s)))
  | byteReceived b stop =>
    cases stop with
    | true => exact .moves (powered_moves h (takeByte_moves b s fun _ _ _ _ _ _ => within_byteReceived))
    | false => exact .moves (powered_moves h (setReceiver_moves ..))
  | byteGapTimeout => exact .moves (powered_moves h (setReceiver_moves ..))
  | hostPresenceTimeout => exact .moves (powered_moves h (whenDue_moves _ (hostAbsent_moves s)))
  | markWriteDone =>
    refine .moves (powered_moves h ?_)
    split
    · exact finishMark_moves ..
    all_goals exact .refl s
  | settingsWriteDone =>
    refine .moves (powered_moves h ?_)
    split
    · exact finishSettings_moves (fun _ _ _ => trivial) (fun _ _ _ => ⟨trivial, trivial⟩) (runningDue_some ‹_›).choose_spec
    all_goals exact .refl s
  | commitDone =>
    refine .moves (powered_moves h ?_)
    split
    · exact finishCommit_moves trivial ..
    all_goals exact .refl s
  | deferredPresent n =>
    refine .moves (powered_moves h (Moves.unless ?_))
    split
    · exact .trans (t := { s with waitPresents := s.waitPresents.eraseIdx n }) (.free rfl) (presentChain_moves ..)
    · exact .refl s
  | deferredRecheck d => exact .moves (powered_moves h (.unless (makeRecheck_moves ..)))
  | deferredGetCredential n =>
    refine .moves (powered_moves h (Moves.unless ?_))
    split
    · exact .trans (t := { s with waitGets := s.waitGets.eraseIdx n }) (.free rfl) (answerOwed_moves ..)
    · exact .refl s
  | _ => cases request

end Sys2Proof.Machine


/-! Proofs of the shapes that every step keeps: the shapes that every move and every start keeps. -/

namespace Sys2Proof.Machine

/-! ## What every step keeps -/

/-- A property of states that the front of the queue does not touch, and that every move, every start and the loss of power keep. -/
structure Kept (P : State → Prop) : Prop where
  front : ∀ (s : State) (rest : List Instr), P s → P { s with pending := rest }
  steps : ∀ (K : Scope) (s t : State), Steps K s t → P s → P t
  start : ∀ (k : StartKind) (s : State), P s → P (s.start k)
  cold  : ∀ s : State, P s → P s.coldRetention
  clock : ∀ (off : Nat) (s : State), P s → P { s with clock := s.clock.advance off }
  loss  : ∀ (written : Bool) (s : State), P s → P (losePower written s)

theorem Kept.exec {P : State → Prop} (h : Kept P) {c : Instr} {s t : State} (hs : P s) (e : exec c s = .next t) : P t := by
  cases exec_course e with
  | moves m => exact h.steps _ _ _ m.steps hs
  | restarts m => exact h.start _ _ (h.steps _ _ _ m.steps hs)
  | cold => exact h.start _ _ (h.cold _ hs)
  | warm off => exact h.start _ _ (h.clock off _ hs)
  | loss w => exact h.loss w _ hs

/-- A step takes the front command, or leaves the state. -/
theorem step_cases {s t : State} (e : step s = .next t) :
    t = s ∨ ∃ c rest, s.pending = c :: rest ∧ exec c { s with pending := rest } = .next t := by
  unfold step at e
  split at e
  · cases e
    exact .inl rfl
  · exact .inr ⟨_, _, ‹_›, e⟩

theorem Kept.step {P : State → Prop} (h : Kept P) {s t : State} (hs : P s) (e : step s = .next t) : P t := by
  obtain rfl | ⟨c, rest, -, e⟩ := step_cases e
  · exact hs
  · exact h.exec (h.front s rest hs) e

/-- A command that only changes state keeps what its change keeps. -/
theorem powered_keeps {P : State → Prop} {f : State → State} {s t : State} (e : powered f s = .next t) (h : P s) (hf : P (f s)) : P t := by
  unfold powered whilePowered at e
  cases e
  split <;> assumption

/-- A frame that is taken reaches what its request reaches, and else what follows from what the link keeps. -/
theorem takeRequest_reaches {P Q : State → Prop} (weak : ∀ t : State, P t → Q t)
    (links : ∀ (t : State) (lk : Link) (h : Bool), P t → P { t with link := lk, hostPresent := h })
    {kind tag : Nat} {f : State → State} (hf : ∀ t : State, P t → Q (f t)) {s : State} (h : P s) : Q (takeRequest kind tag f s) := by
  unfold takeRequest
  dsimp only
  split
  · unfold answerBusy
    split
    · exact weak _ (links s _ true h)
    · exact weak _ (links s _ true h)
  · exact hf _ (links s _ true h)

/-- A byte reaches what a refusal and every request reach, and else what follows from what the link keeps. -/
theorem takeByte_reaches {P Q : State → Prop} (weak : ∀ t : State, P t → Q t)
    (links : ∀ (t : State) (lk : Link) (h : Bool), P t → P { t with link := lk, hostPresent := h })
    (answers : ∀ (t : State) (st : Status), P t → Q (answer st t)) (requests : ∀ (t : State) (i : Instr), P t → Q (performRequest i t))
    (b : Byte) {s : State} (h : P s) : Q (takeByte b s) := by
  have set (r : Receiver) : P (setReceiver r s) := links s _ s.hostPresent h
  unfold takeByte
  split
  · split
    · exact weak _ (set _)
    · exact weak _ h
  · split <;> exact weak _ (set _)
  · split
    · exact weak _ (set _)
    · unfold completeFrame
      dsimp only
      split
      · split
        · refine takeRequest_reaches weak links (fun t ht => ?_) (set _)
          unfold performFrame
          split
          · exact answers t _ ht
          · exact answers t _ ht
          · exact requests t _ ht
        · exact weak _ (set _)
      · exact weak _ (set _)

/-- A frame that is taken keeps what the link and its request keep. -/
theorem takeRequest_keeps {P : State → Prop} (links : ∀ (t : State) (lk : Link) (h : Bool), P t → P { t with link := lk, hostPresent := h })
    {kind tag : Nat} {f : State → State} (hf : ∀ t : State, P t → P (f t)) {s : State} (h : P s) : P (takeRequest kind tag f s) :=
  takeRequest_reaches (fun _ => id) links hf h

/-- A byte keeps what the link, a refusal and every request keep. -/
theorem takeByte_keeps {P : State → Prop} (links : ∀ (t : State) (lk : Link) (h : Bool), P t → P { t with link := lk, hostPresent := h })
    (answers : ∀ (t : State) (st : Status), P t → P (answer st t)) (requests : ∀ (t : State) (i : Instr), P t → P (performRequest i t))
    (b : Byte) {s : State} (h : P s) : P (takeByte b s) := takeByte_reaches (fun _ => id) links answers requests b h

/-! ## The bounds of the queue (R190, R193 to R197) -/

theorem QueueBounds.of_link {s t : State} (h : t.link = s.link) (b : QueueBounds s) : QueueBounds t := by
  obtain ⟨total, nonLife, repeats, lost, masks, busy⟩ := b
  constructor <;> rw [h] <;> assumption

theorem asAt_other (t : Nat) (s : State) : s.asAt t = { s with quarters := (s.asAt t).quarters, clock := (s.asAt t).clock } := by
  unfold State.asAt
  split <;> rfl

theorem Steps.queueBounds {K : Scope} {s t : State} (h : Steps K s t) : QueueBounds s → QueueBounds t := by
  induction h with
  | refl => exact id
  | trans _ _ ih ik => exact ik ∘ ih
  | free h => exact .of_link (by rw [h])
  | @asOf s u t _ ih => exact fun b => .of_link (s := u) rfl (ih (b.of_link (by rw [asAt_other])))
  | link lk s h => exact h
  | _ => exact .of_link rfl

theorem start_queueBounds {s : State} (h : s.link = Link.start) : QueueBounds s := by
  constructor <;> simp [h, Link.start]

theorem queueBounds_kept : Kept QueueBounds where
  front _ _ := .of_link rfl
  steps _ _ _ h := h.queueBounds
  start _ _ _ := take_bounds _ rfl (start_queueBounds rfl)
  cold _ := .of_link rfl
  clock _ _ := .of_link rfl
  loss _ _ _ := start_queueBounds rfl

/-- Settles O51: every move and every start keeps the bounds. -/
theorem queueBoundsAreKept : Obligations.QueueBoundsAreKept := fun _ _ h e => queueBounds_kept.step h e

/-! ## Countdowns (R39, R61, R64, R71) -/

/-- A countdown that changes its time alone keeps its shape. -/
theorem CountdownShape.retimed {x : Zone} (f : Nat → Nat) (h : CountdownShape x) :
    CountdownShape { x with countdown := x.countdown.map fun c => { c with remaining := f c.remaining } } where
  present := by simpa using h.present
  running c' hs less := by
    obtain ⟨c, hc, rfl⟩ := Option.map_eq_some_iff.1 less
    exact h.running c hs hc
  held c' hs less := by
    obtain ⟨c, hc, rfl⟩ := Option.map_eq_some_iff.1 less
    exact h.held c hs hc
  clear := h.clear

theorem Steps.countdownShape {K : Scope} {s t : State} (h : Steps K s t) :
    (∀ z, CountdownShape (s.zones.get z)) → ∀ z, CountdownShape (t.zones.get z) := by
  induction h with
  | refl => exact id
  | trans _ _ ih ik => exact ik ∘ ih
  | free h => rw [h]; exact id
  | asOf t _ ih => rw [asAt_other] at ih; exact ih
  | zones zs s h => exact fun k z => (h z).shape (k z)
  | writeZone z p owed dl s h =>
    refine fun k y => ?_
    rw [clampCountdown, State.setZone_zones, put_get]
    split
    · exact (k z).retimed (min · _)
    · exact k y
  | _ => exact id

theorem Zone.atStart_shape (discharge isolate : Bool) : CountdownShape (Zone.atStart discharge isolate) := by
  cases discharge <;> cases isolate <;> constructor <;> simp [Zone.atStart, Zone.start]

theorem countdownShape_kept : Kept fun s => ∀ z, CountdownShape (s.zones.get z) where
  front _ _ h := h
  steps _ _ _ h := h.countdownShape
  start _ _ _ z := by
    simp only [State.start, raise_zones, State.mainStart, ofFn_get]
    exact Zone.atStart_shape ..
  cold _ h := h
  clock _ _ h := h
  loss _ _ _ z := by
    simp only [losePower, State.mainStart, ofFn_get]
    exact Zone.atStart_shape ..

/-- Settles O53: a zone takes only records of its shape, and starts without a countdown. -/
theorem countdownShapeIsKept : Obligations.CountdownShapeIsKept := fun _ _ h e => countdownShape_kept.step h e

theorem ZoneSettings.default_ok : ZoneSettings.default.ok = true := by decide

theorem CountdownBounds.accepted {s : State} (h : CountdownBounds s) {z : ZoneId} {p : ZoneSettings} {owed : Bool}
    (k : .settings (.zone z p) owed ∈ s.store.accepted) : p.ok = true := by
  rcases (Store.mem_accepted ..).1 k with ⟨dl, hr⟩ | hw
  · exact h.running z p owed dl hr
  · exact h.waiting z p owed hw

theorem CountdownBounds.settings_ok {s : State} (h : CountdownBounds s) (z : ZoneId) : (s.zoneSettings z).ok = true := by
  unfold State.zoneSettings
  cases hz : s.nv.zones.get z with
  | none => exact ZoneSettings.default_ok
  | some p => exact h.stored z p hz

/-- The bounds by what the store has accepted, whatever runs and whatever waits. -/
theorem CountdownBounds.of_accepted {s : State} (stored : ∀ z p, s.nv.zones.get z = some p → p.ok = true)
    (accepted : ∀ z p owed, .settings (.zone z p) owed ∈ s.store.accepted → p.ok = true)
    (bound : ∀ z c, (s.zones.get z).countdown = some c → c.remaining ≤ (s.zoneSettings z).tMax * 1000) : CountdownBounds s where
  stored := stored
  waiting z p owed h := accepted z p owed ((Store.mem_accepted ..).2 (.inr h))
  running z p owed dl h := accepted z p owed ((Store.mem_accepted ..).2 (.inl ⟨dl, h⟩))
  bound := bound

/-- The bounds of a state that stores the same zone settings, has accepted no others and counts no zone longer. -/
theorem CountdownBounds.of_within {s t : State} (h : CountdownBounds s) (nv : t.nv.zones = s.nv.zones) (st : t.store.Within s.store)
    (zones : ∀ z c, (t.zones.get z).countdown = some c → c.remaining ≤ (s.zoneSettings z).tMax * 1000) : CountdownBounds t := by
  refine .of_accepted (fun z p => by rw [nv]; exact h.stored z p) (fun z p owed k => ?_) (fun z c k => ?_)
  · obtain ⟨owed', k⟩ := st _ _ k
    exact h.accepted k
  · have same : t.zoneSettings z = s.zoneSettings z := by simp [State.zoneSettings, nv]
    exact same ▸ zones z c k

theorem CountdownBounds.same {s t : State} (nv : t.nv.zones = s.nv.zones) (st : t.store = s.store) (zones : t.zones = s.zones)
    (h : CountdownBounds s) : CountdownBounds t :=
  h.of_within nv (st ▸ .refl _) (zones ▸ h.bound)

/-- An accepted request is one more in the store. -/
theorem mem_accepted_requestSettings {s : State} {item item' : SettingsItem} {owed : Bool}
    (h : .settings item' owed ∈ (requestSettings item s).store.accepted) :
    item' = item ∨ .settings item' owed ∈ s.store.accepted := by
  replace h := (Store.mem_accepted_startNext ..).1 h
  rw [Store.mem_accepted] at h ⊢
  simp only [List.mem_append, List.mem_singleton, StoreOp.settings.injEq] at h
  grind

/-- A zone record takes effect: its own countdown is clamped at the new T_max (R71). -/
theorem CountdownBounds.written {s : State} {z : ZoneId} {p : ZoneSettings} {owed : Bool} {dl : Nat} (h : CountdownBounds s)
    (running : s.store.running = some ⟨.settings (.zone z p) owed, dl⟩) :
    CountdownBounds (clampCountdown z { endRunning s with nv := s.nv.writeSettings (.zone z p) }) := by
  refine .of_accepted (fun y q => ?_) (fun y q owed' k => ?_) (fun y c => ?_)
  · simp only [clampCountdown, State.setZone_nv, Nv.writeSettings, put_get]
    split
    · rintro ⟨⟩
      exact h.running z p owed dl running
    · exact h.stored y q
  · rw [Store.mem_accepted] at k
    exact h.waiting y q owed' (by simpa [clampCountdown, endRunning] using k)
  · simp only [clampCountdown, State.setZone_zones, State.zoneSettings, State.setZone_nv, Nv.writeSettings, put_get]
    split
    · subst_vars
      intro less
      obtain ⟨c', -, rfl⟩ := Option.map_eq_some_iff.1 less
      exact Nat.min_le_right ..
    · exact h.bound y c

theorem Steps.countdownBounds {K : Scope} {s t : State} (h : Steps K s t) : CountdownBounds s → CountdownBounds t := by
  induction h with
  | refl => exact id
  | trans _ _ ih ik => exact ik ∘ ih
  | free h => rw [h]; exact .same rfl rfl rfl
  | @asOf s u t _ ih =>
    refine fun b => .same (s := u) rfl rfl rfl (ih (b.same ?_ ?_ ?_)) <;> rw [asAt_other]
  | zones zs s h => exact fun b => b.of_within rfl (.refl _) fun z => (h z).bound (b.settings_ok z) (b.bound z)
  | store st s h => exact fun b => b.of_within rfl h b.bound
  | request item s h =>
    refine fun b => .of_accepted b.stored (fun z p owed k => ?_) b.bound
    rcases mem_accepted_requestSettings k with rfl | k
    · exact h.zone z p rfl
    · exact b.accepted k
  | nv n s h => exact .same h.zones rfl rfl
  | writeZone z p owed dl s h => exact fun b => b.written h
  | writeActuator a z owed dl s h =>
    exact fun b => b.of_within rfl (fun item owed k => ⟨owed, by rw [Store.mem_accepted] at k ⊢; exact .inr (by simpa [endRunning] using k)⟩) b.bound
  | _ => exact .same rfl rfl rfl

theorem countdownBounds_start {s : State} (stored : ∀ z p, s.nv.zones.get z = some p → p.ok = true) (st : s.store = Store.start)
    (zones : ∀ z, (s.zones.get z).countdown = none) : CountdownBounds s :=
  .of_accepted stored (by simp [st, Store.start, Store.accepted]) (by simp [zones])

/-- At a loss of main power the running operation is written whole, or not at all (R201). -/
theorem nvAtLoss_cases (written : Bool) (s : State) :
    s.nvAtLoss written = s.nv ∨ ∃ r, s.store.running = some r ∧ s.nvAtLoss written = s.nv.writeOp s.stage r.op := by
  unfold State.nvAtLoss
  split
  · rename_i r hr
    split
    · exact .inr ⟨r, hr, rfl⟩
    · exact .inl rfl
  · exact .inl rfl

theorem writeSettings_zones {nv : Nv} {item : SettingsItem} {z : ZoneId} {p : ZoneSettings}
    (h : (nv.writeSettings item).zones.get z = some p) : item = .zone z p ∨ nv.zones.get z = some p := by
  cases item with
  | zone y q =>
    simp only [Nv.writeSettings, put_get] at h
    split at h
    · cases h
      subst_vars
      exact .inl rfl
    · exact .inr h
  | _ => exact .inr h

/-- The operations other than settings writes move the nonvolatile memory within the scope of a commit. -/
theorem writeOp_nvMove {op : StoreOp} (h : ∀ item owed, op ≠ .settings item owed) (nv : Nv) (st : Stage) :
    NvMove { Scope.plain with rows := True } nv (nv.writeOp st op) := by
  cases op with
  | settings item owed => exact absurd rfl (h item owed)
  | mark item value => exact writeMark_nvMove ..
  | commit row => exact writeOp_commit_nvMove trivial ..

/-- A zone record that an operation has written is the one stored before, or its own. -/
theorem writeOp_zones {nv : Nv} {st : Stage} {op : StoreOp} {z : ZoneId} {p : ZoneSettings}
    (h : (nv.writeOp st op).zones.get z = some p) : (∃ owed, op = .settings (.zone z p) owed) ∨ nv.zones.get z = some p := by
  cases op with
  | settings item owed => exact (writeSettings_zones h).imp_left fun e => ⟨owed, by rw [e]⟩
  | mark item value => exact .inr ((writeOp_nvMove (op := .mark item value) (by simp) nv st).zones ▸ h)
  | commit row => exact .inr ((writeOp_nvMove (op := .commit row) (by simp) nv st).zones ▸ h)

theorem Zone.atStart_countdown (discharge isolate : Bool) : (Zone.atStart discharge isolate).countdown = none := rfl

theorem countdownBounds_kept : Kept CountdownBounds where
  front _ _ := .same rfl rfl rfl
  steps _ _ _ h := h.countdownBounds
  start k s h := countdownBounds_start h.stored rfl (by simp [State.start, State.mainStart, Zone.atStart_countdown])
  cold _ := .same rfl rfl rfl
  clock _ _ := .same rfl rfl rfl
  loss w s h := by
    refine countdownBounds_start (fun z p => ?_) rfl (by simp [losePower, State.mainStart, Zone.atStart_countdown])
    change (s.nvAtLoss w).zones.get z = some p → _
    rcases nvAtLoss_cases w s with e | ⟨⟨op, dl⟩, running, e⟩ <;> rw [e]
    · exact h.stored z p
    · intro k
      rcases writeOp_zones k with ⟨owed, rfl⟩ | k
      · exact h.running z p owed dl running
      · exact h.stored z p k

/-- Settles O52: a zone takes only records within its T_max, and a new T_max clamps its countdown. -/
theorem countdownNeverExceedsTMax : Obligations.CountdownNeverExceedsTMax := fun _ _ h e => countdownBounds_kept.step h e

end Sys2Proof.Machine


/-! Proofs of the shapes that every step keeps: the tables, the bolts, and ISOLATED. -/

namespace Sys2Proof.Machine

/-! ## The tables (R79, R85, R86, R94, R162) -/

/-- The actuators that a zone holds are within those of another state's zone. -/
theorem assigned_le {s t : State} {z : ZoneId} (h : ∀ b, t.heldFor z b = true → s.heldFor z b = true) :
    ((every 32).filter (t.heldFor z)).length ≤ ((every 32).filter (s.heldFor z)).length := by
  rw [← List.countP_eq_length_filter, ← List.countP_eq_length_filter]
  exact List.countP_mono_left fun b _ => h b

/-- No actuator is held for a zone that was not held for it before. -/
theorem heldFor_of {s t : State} {z : ZoneId} {b : ActId} (h : t.heldFor z b = true)
    (acts : (t.acts.get b).zone = some z → (s.acts.get b).zone = some z ∨ s.nv.assignments.get b = some z)
    (nv : t.nv.assignments.get b = some z → s.heldFor z b = true) (st : t.store.Within s.store) : s.heldFor z b = true := by
  rcases (State.heldFor_eq_true ..).1 h with h | h | ⟨owed, h⟩
  · rw [State.heldFor_eq_true]
    grind
  · exact nv h
  · exact (State.heldFor_eq_true ..).2 (.inr (.inr (st _ _ h)))

theorem heldFor_stored {s : State} {z : ZoneId} {b : ActId} (h : s.nv.assignments.get b = some z) : s.heldFor z b = true :=
  (State.heldFor_eq_true ..).2 (.inr (.inl h))

/-- The tables of a state that differs in none of them. -/
theorem TablesShape.same {s t : State} (h : TablesShape s) (locations : t.locations = s.locations) (nv : t.nv = s.nv) (rooms : t.rooms = s.rooms)
    (vests : t.vests = s.vests) (bank : t.bank = s.bank) (acts : t.acts = s.acts) (store : t.store = s.store) : TablesShape t where
  locations := locations ▸ h.locations
  credentials := nv ▸ h.credentials
  listed := rooms ▸ h.listed
  assumedOut := rooms ▸ h.assumedOut
  direction := vests ▸ h.direction
  inFlight := bank ▸ h.inFlight
  pulseCount := bank ▸ h.pulseCount
  assigned z := Nat.le_trans (assigned_le fun b => by rw [State.heldFor_congr acts nv store]; exact id) (h.assigned z)

/-- The tables of a state that differs in actuators, assignments, credentials and store, and holds no more actuators for any zone. -/
theorem TablesShape.held {s t : State} (h : TablesShape s) (locations : t.locations = s.locations) (rooms : t.rooms = s.rooms) (vests : t.vests = s.vests)
    (bank : t.bank = s.bank)
    (credentials : sparseOk Credential.empty s.nv.credentials = true → sparseOk Credential.empty t.nv.credentials = true)
    (held : ∀ z b, t.heldFor z b = true → s.heldFor z b = true) : TablesShape t where
  locations := locations ▸ h.locations
  credentials := credentials h.credentials
  listed := rooms ▸ h.listed
  assumedOut := rooms ▸ h.assumedOut
  direction := vests ▸ h.direction
  inFlight := bank ▸ h.inFlight
  pulseCount := bank ▸ h.pulseCount
  assigned z := Nat.le_trans (assigned_le (held z)) (h.assigned z)

/-- One actuator more than those a zone holds, where it is not full (R80). -/
theorem assigned_request {s t : State} {z : ZoneId} {a : ActId} (free : s.zoneFull z a = false)
    (h : ∀ b, t.heldFor z b = true → b = a ∨ s.heldFor z b = true) : ((every 32).filter (t.heldFor z)).length ≤ 4 := by
  have few : ((every 32).filter (fun b => b ≠ a && s.heldFor z b)).length < 4 := by simpa [State.zoneFull, Config.actuatorsPerZone] using free
  have split : (every 32).filter (t.heldFor z) ⊆ a :: (every 32).filter (fun b => b ≠ a && s.heldFor z b) := by
    intro b hb
    rw [List.mem_filter] at hb
    by_cases e : b = a
    · exact e ▸ List.mem_cons_self
    · exact List.mem_cons_of_mem _ (List.mem_filter.2 ⟨hb.1, by simpa [e] using (h b hb.2).resolve_left e⟩)
  have nodup : ((every 32).filter (t.heldFor z)).Nodup := (List.nodup_finRange 32).filter _
  have := nodup.length_le_of_subset split
  simp only [List.length_cons] at this
  omega

theorem TablesShape.requested {K : Scope} {s : State} {item : SettingsItem} (fits : RequestFits K s item) (h : TablesShape s) :
    TablesShape (requestSettings item s) where
  locations := h.locations
  credentials := h.credentials
  listed := h.listed
  assumedOut := h.assumedOut
  direction := h.direction
  inFlight := h.inFlight
  pulseCount := h.pulseCount
  assigned z := by
    have held (b : ActId) (k : (requestSettings item s).heldFor z b = true) : item = .actuator b (some z) ∨ s.heldFor z b = true := by
      simp only [State.heldFor_eq_true] at k ⊢
      rcases k with k | k | ⟨owed, k⟩
      · exact .inr (.inl k)
      · exact .inr (.inr (.inl k))
      · rcases mem_accepted_requestSettings k with e | k
        · exact .inl e.symm
        · exact .inr (.inr (.inr ⟨owed, k⟩))
    by_cases e : ∃ a, item = .actuator a (some z)
    · obtain ⟨a, rfl⟩ := e
      refine assigned_request (fits.actuator a z rfl) fun b k => (held b k).imp_left fun e => ?_
      cases e
      rfl
    · exact Nat.le_trans (assigned_le fun b k => (held b k).resolve_left fun e' => e ⟨b, e'⟩) (h.assigned z)

theorem put_forall {n : Nat} {α : Type} {p : Fin n → α → Prop} {v : Vector α n} {i : Fin n} {x : α} (h : ∀ j, p j (v.get j)) (hx : p i x) :
    ∀ j, p j ((put v i x).get j) := by
  intro j
  rw [put_get]
  split
  · exact ‹j = i› ▸ hx
  · exact h j

theorem endRunning_within (s : State) : (endRunning s).store.Within s.store :=
  fun item owed h => ⟨owed, by rw [Store.mem_accepted] at h ⊢; exact .inr (by simpa [endRunning] using h)⟩

theorem Steps.tablesShape {K : Scope} {s t : State} (h : Steps K s t) : TablesShape s → TablesShape t := by
  induction h with
  | refl => exact id
  | trans _ _ ih ik => exact ik ∘ ih
  | free h => rw [h]; exact fun k => k.same rfl rfl rfl rfl rfl rfl rfl
  | asOf t _ ih =>
    refine fun b => (ih (b.same ?_ ?_ ?_ ?_ ?_ ?_ ?_)).same rfl rfl rfl rfl rfl rfl rfl <;> rw [asAt_other]
  | act a x s h =>
    refine fun k => k.held rfl rfl rfl rfl id fun z b k => heldFor_of k (fun e => ?_) (fun e => heldFor_stored e) (.refl _)
    rw [State.setAct_acts, put_get] at e
    split at e
    · subst_vars
      exact h z e
    · exact .inl e
  | bank b s h => exact fun k => { k with inFlight := (h k.inFlight k.pulseCount).1, pulseCount := (h k.inFlight k.pulseCount).2 }
  | room v x s h k =>
    refine fun b => { b with
      listed := put_forall (p := fun _ (r : Room) => r.listed.length ≤ 16) b.listed (h (b.listed v))
      assumedOut := put_forall (p := fun _ (r : Room) => r.assumedOut.length ≤ 8) b.assumedOut (k (b.assumedOut v))
      assigned := b.assigned }
  | location slot p s => exact fun b => { b with locations := sparsePut_ok _ _ b.locations }
  | vest v x s h =>
    exact fun b => { b with
      direction := put_forall (p := fun _ (y : Vestibule) => y.direction = .none ↔ y.occupants = []) b.direction (h (b.direction v))
      assigned := b.assigned }
  | store st s h => exact fun k => k.held rfl rfl rfl rfl id fun z b k => heldFor_of k .inl (fun e => heldFor_stored e) h
  | request item s h => exact .requested h
  | nv n s h =>
    refine fun k => k.held rfl rfl rfl rfl (fun ok => ?_) fun z b k => heldFor_of k .inl (fun e => heldFor_stored (h.assignments ▸ e)) (.refl _)
    rcases h.credentials with e | ⟨-, e⟩
    · exact e ▸ ok
    · exact e ok
  | writeZone z p owed dl s h =>
    exact fun k => k.held rfl rfl rfl rfl id fun z b k => heldFor_of k .inl (fun e => heldFor_stored e) (endRunning_within s)
  | writeActuator a x owed dl s h =>
    refine fun k => k.held rfl rfl rfl rfl id fun z b k => heldFor_of k .inl (fun e => ?_) (endRunning_within s)
    rw [Nv.writeSettings, put_get] at e
    split at e
    · subst_vars
      exact (State.heldFor_eq_true ..).2 (.inr (.inr ⟨owed, (Store.mem_accepted ..).2 (.inl ⟨dl, h⟩)⟩))
    · exact heldFor_stored e
  | _ => exact fun k => k.same rfl rfl rfl rfl rfl rfl rfl

theorem Actuator.atStart_zone {zone : Option ZoneId} {spent : Bool} {z : ZoneId} (h : (Actuator.atStart zone spent).zone = some z) :
    zone = some z := by
  unfold Actuator.atStart at h
  split at h
  · exact h
  · split at h
    · exact h
    · cases h

/-- The main domain at its start values holds no actuator that was not held before, and the retained tables stand. -/
theorem TablesShape.mainStart {s : State} (h : TablesShape s) : TablesShape s.mainStart where
  locations := h.locations
  credentials := h.credentials
  listed v := by simpa [State.mainStart, State.loneAtStart] using h.listed v
  assumedOut v := by simpa [State.mainStart, State.loneAtStart] using h.assumedOut v
  direction := h.direction
  inFlight := by simp [State.mainStart, Bank.start]
  pulseCount := by simp [State.mainStart, Bank.start]
  assigned z := by
    refine Nat.le_trans (assigned_le (s := s) fun b k => heldFor_of k (fun e => .inr ?_) (fun e => heldFor_stored ?_) ?_) (h.assigned z)
    · simp only [State.mainStart, ofFn_get] at e
      exact Actuator.atStart_zone e
    · exact e
    · simp [Store.Within, State.mainStart, Store.start, Store.accepted]

/-- An assignment that a settings record has written is the one stored before, or its own. -/
theorem writeSettings_assignments {nv : Nv} {item : SettingsItem} {a : ActId} {z : ZoneId}
    (h : (nv.writeSettings item).assignments.get a = some z) : item = .actuator a (some z) ∨ nv.assignments.get a = some z := by
  cases item with
  | actuator b x =>
    simp only [Nv.writeSettings, put_get] at h
    split at h
    · subst_vars
      exact .inl rfl
    · exact .inr h
  | _ => exact .inr h

/-- The running operation written whole. -/
theorem TablesShape.written {s : State} {op : StoreOp} {dl : Nat} (running : s.store.running = some ⟨op, dl⟩) (h : TablesShape s) :
    TablesShape { s with nv := s.nv.writeOp s.stage op } := by
  by_cases other : ∃ item owed, op = .settings item owed
  · obtain ⟨item, owed, rfl⟩ := other
    refine h.held rfl rfl rfl rfl ?_ fun z b k => heldFor_of k .inl (fun e => ?_) (.refl _)
    · cases item <;> exact id
    · refine (writeSettings_assignments e).elim ?_ heldFor_stored
      rintro rfl
      exact (State.heldFor_eq_true ..).2 (.inr (.inr ⟨owed, (Store.mem_accepted ..).2 (.inl ⟨dl, running⟩)⟩))
  · have move := writeOp_nvMove (fun item owed e => other ⟨item, owed, e⟩) s.nv s.stage
    refine h.held rfl rfl rfl rfl (fun ok => ?_) fun z b k => heldFor_of k .inl (fun e => heldFor_stored (move.assignments ▸ e)) (.refl _)
    rcases move.credentials with e | ⟨-, e⟩
    · exact e ▸ ok
    · exact e ok

theorem tablesShape_kept : Kept TablesShape where
  front _ _ h := h.same rfl rfl rfl rfl rfl rfl rfl
  steps _ _ _ h := h.tablesShape
  start _ s h := h.mainStart.same rfl rfl rfl rfl rfl rfl rfl
  cold s h := { h with
    locations := rfl
    listed := by simp [State.coldRetention, Room.empty]
    assumedOut := by simp [State.coldRetention, Room.empty]
    direction := by simp [State.coldRetention, Vestibule.empty]
    assigned := h.assigned }
  clock _ _ h := h.same rfl rfl rfl rfl rfl rfl rfl
  loss w s h := by
    have written : TablesShape { s with nv := s.nvAtLoss w } := by
      rcases nvAtLoss_cases w s with e | ⟨⟨op, dl⟩, running, e⟩ <;> rw [e]
      · exact h.same rfl rfl rfl rfl rfl rfl rfl
      · exact h.written running
    exact written.mainStart.same rfl rfl rfl rfl rfl rfl rfl

/-- Settles O55: every move and every start keeps the tables in their forms and capacities. -/
theorem tablesShapeIsKept : Obligations.TablesShapeIsKept := fun _ _ h e => tablesShape_kept.step h e

/-! ## The bolts (R138, R142) -/

theorem Steps.drives {K : Scope} {s t : State} (h : Steps K s t) :
    (∀ d, DriveFollowsBolt (s.doors.get d)) → ∀ d, DriveFollowsBolt (t.doors.get d) := by
  induction h with
  | refl => exact id
  | trans _ _ ih ik => exact ik ∘ ih
  | free h => rw [h]; exact id
  | asOf t _ ih => rw [asAt_other] at ih; exact ih
  | door d x s h => exact fun k => put_forall k (h (k d))
  | _ => exact id

theorem Door.atStart_motion (r : Role) : (Door.atStart r).motion = .idle := by
  unfold Door.atStart
  split <;> rfl

theorem drives_kept : Kept fun s => ∀ d, DriveFollowsBolt (s.doors.get d) where
  front _ _ h := h
  steps _ _ _ h := h.drives
  start _ _ _ d := drive_idle (by simp [State.start, State.mainStart, Door.atStart_motion])
  cold _ h := h
  clock _ _ h := h
  loss _ _ _ d := drive_idle (by simp [losePower, State.mainStart, Door.atStart_motion])

/-! ## ISOLATED (R56, R57, R62) -/

theorem Steps.isolated {K : Scope} {s t : State} {z : ZoneId} (h : Steps K s t) (stays : ¬K.leaves z) :
    (s.zones.get z).state = .isolated → (t.zones.get z).state = .isolated := by
  induction h with
  | refl => exact id
  | trans _ _ ih ik => exact ik ∘ ih
  | free h => rw [h]; exact id
  | asOf t _ ih => rw [asAt_other] at ih; exact ih
  | zones zs s h => exact fun k => ((h z).isolated k).resolve_right stays
  | writeZone y p owed dl s h =>
    rw [clampCountdown, State.setZone_zones, put_get]
    split
    · subst_vars
      exact id
    · exact id
  | _ => exact id

/-- The commands whose scope lets a zone leave ISOLATED. -/
theorem leaves_ofCommand {c : Instr} {s : State} {z : ZoneId} (h : (Scope.ofCommand s c).leaves z) :
    (∃ tag, c = .zoneDeisolate tag (number z)) ∨ ∃ b, c = .byteReceived b true ∧ CompletesDeisolate b z s := by
  cases c with
  | zoneDeisolate tag n => exact .inl ⟨tag, by rw [show n = number z from h]⟩
  | byteReceived b stop =>
    cases stop with
    | true => exact .inr ⟨b, rfl, h⟩
    | false => exact h.elim
  | _ => exact h.elim

/-- Settles O59: only moves of a scope that lets the zone leave, a start or the loss of power take it out of ISOLATED. -/
theorem isolatedZoneLeavesByDeisolateOnly : Obligations.IsolatedZoneLeavesByDeisolateOnly := by
  intro c s t z e isolated
  cases exec_course e with
  | moves m =>
    by_cases leaves : (Scope.ofCommand s c).leaves z
    · rcases leaves_ofCommand leaves with h | h
      · exact .inr (.inl h)
      · exact .inr (.inr (.inl h))
    · exact .inl (m.steps.isolated leaves isolated)
  | restarts m owed hc => simp [owed, hc]
  | cold => simp
  | warm off => simp
  | loss w => simp

end Sys2Proof.Machine


/-! Proofs of the shapes that every step keeps: the week clock. -/

namespace Sys2Proof.Machine

variable {s t : State}

/-! ## The week clock and its mode (R178, R179, R181 to R185) -/

/-- The time of the week clock is in its ranges (R178). -/
structure WeekClock.InRange (c : WeekClock) : Prop where
  minute : c.minute < 10080
  second : c.second < 60
  ms     : c.ms < 1000

theorem ClockShape.inRange {c : WeekClock} (h : ClockShape c) : c.InRange := ⟨h.minute, h.second, h.ms⟩

theorem WeekClock.InRange.shape {c : WeekClock} (h : c.InRange) (m : c.mode = modeGiven c) : ClockShape c := ⟨h.minute, h.second, h.ms, m⟩

theorem modeGiven_eq (c : WeekClock) : modeGiven c = c.derivedMode := by
  unfold modeGiven WeekClock.derivedMode
  cases c.override with
  | auto => exact ite_congr (propext (Bool.and_eq_true_iff).symm) (fun _ => rfl) (fun _ => rfl)
  | _ => rfl

theorem ClockShape.tick {c : WeekClock} (h : ClockShape c) : ClockShape c.tick := by
  obtain ⟨minute, second, ms, mode⟩ := h
  unfold WeekClock.tick
  split
  · exact ⟨minute, second, by simpa using by omega, mode⟩
  · split
    · exact ⟨minute, by simpa using by omega, by simp, mode⟩
    · refine ⟨?_, by simp, by simp, mode⟩
      dsimp only
      split
      · assumption
      · exact Nat.zero_lt_succ _

theorem WeekClock.InRange.advance (c : WeekClock) (ms : Nat) : (c.advance ms).InRange := by
  have := Nat.mod_lt (c.minute * 60000 + c.second * 1000 + c.ms + ms) (y := 10080 * 60000) (by decide)
  constructor <;> simp only [WeekClock.advance, Config.minutesPerWeek] <;> omega

/-- Evaluating windows changes the windows of the clock alone. -/
theorem evalWindow_clock (w : WindowId) (s : State) :
    (evalWindow w s).clock = { s.clock with windows := put s.clock.windows w (s.windowNow w) } := by
  unfold evalWindow
  dsimp only
  split <;> rfl

theorem evalWindows_clock (s : State) : ∃ ws, (evalWindows s).clock = { s.clock with windows := ws } := by
  unfold evalWindows forEach
  induction every 16 generalizing s with
  | nil => exact ⟨s.clock.windows, rfl⟩
  | cons w rest ih =>
    obtain ⟨ws, e⟩ := ih (evalWindow w s)
    exact ⟨ws, by rw [List.foldl_cons, e, evalWindow_clock]⟩

/-- A derived mode is the one the table gives, and nothing else of the clock changes. -/
theorem deriveMode_clock (s : State) : (deriveMode s).clock = { s.clock with mode := s.clock.derivedMode } := by
  unfold deriveMode
  dsimp only
  split
  · rename_i same
    rw [same]
  · have loose := (Moves.forEach (fun v t => evalLone_moves (K := .plain) v t)
      (if s.clock.derivedMode = .afterHours then cancelOutOfHours (raise .modeChange .none (some (.named (.mode s.clock.derivedMode)))
        { s with clock := { s.clock with mode := s.clock.derivedMode } })
      else raise .modeChange .none (some (.named (.mode s.clock.derivedMode)))
        { s with clock := { s.clock with mode := s.clock.derivedMode } })).steps.clock_eq id
    rw [loose]
    split
    · rw [(cancelOutOfHours_moves (K := .plain) _).steps.clock_eq id]
      rfl
    · rfl

theorem deriveMode_shape (h : s.clock.InRange) : ClockShape (deriveMode s).clock := by
  rw [deriveMode_clock]
  exact ⟨h.minute, h.second, h.ms, by rw [modeGiven_eq]; rfl⟩

theorem evalWindows_inRange (h : s.clock.InRange) : (evalWindows s).clock.InRange := by
  obtain ⟨ws, e⟩ := evalWindows_clock s
  rw [e]
  exact ⟨h.minute, h.second, h.ms⟩

theorem takeBoundary_clockShape (h : ClockShape s.clock) : ClockShape (takeBoundary s).clock := by
  unfold takeBoundary
  dsimp only
  split
  · exact deriveMode_shape (evalWindows_inRange ⟨h.minute, h.second, h.ms⟩)
  · exact ⟨h.minute, h.second, h.ms, h.mode⟩

theorem setTime_clockShape {minute second : Nat} (hm : minute < 10080) (hs : second < 60) (s : State) :
    ClockShape (setTime minute second s).clock := by
  unfold setTime
  exact deriveMode_shape (evalWindows_inRange ⟨hm, hs, by simp⟩)

theorem applyWindow_clockShape (w : WindowId) (p : WindowSettings) (h : ClockShape s.clock) : ClockShape (applyWindow w p s).clock := by
  unfold applyWindow
  dsimp only
  split
  · refine deriveMode_shape ?_
    rw [evalWindow_clock]
    exact ⟨h.minute, h.second, h.ms⟩
  · rename_i other
    rw [evalWindow_clock]
    refine ⟨h.minute, h.second, h.ms, ?_⟩
    have same : (put s.clock.windows w (State.windowNow { s with nv := s.nv.writeSettings (.window w p) } w)).get 0 = s.clock.windows.get 0 :=
      put_get_other _ _ (by grind)
    simpa [modeGiven, same] using h.mode

/-! ## Every step keeps the clock's shape -/

/-- Steps of a scope without the clock keep its shape. -/
theorem Steps.clockShape {K : Scope} (h : Steps K s t) (quiet : ¬K.clock) : ClockShape s.clock → ClockShape t.clock := by
  rw [h.clock_eq quiet]
  exact id

theorem answer_clock (st : Status) (s : State) : (answer st s).clock = s.clock := (answer_moves (K := .plain) st s).steps.clock_eq id

theorem performRequest_clockShape (i : Instr) (h : ClockShape s.clock) : ClockShape (performRequest i s).clock := by
  by_cases quiet : (Scope.ofRequest i).clock
  · cases i with
    | modeSet tag value =>
      simp only [performRequest, performModeSet, withObject, performed]
      split
      · rw [answer_clock]
        exact deriveMode_shape ⟨h.minute, h.second, h.ms⟩
      · rwa [answer_clock]
    | timeSet tag minute second =>
      simp only [performRequest, performTimeSet, withObject, performed]
      split
      · rename_i x hx
        rw [answer_clock]
        unfold checkTime at hx
        split at hx
        · rename_i range
          cases hx
          rw [Bool.and_eq_true, decide_eq_true_iff, decide_eq_true_iff] at range
          exact setTime_clockShape range.1 (Nat.lt_succ_of_le range.2) s
        · cases hx
      · rwa [answer_clock]
    | _ => exact quiet.elim
  · exact (performRequest_moves (.refl _) s).steps.clockShape quiet h

theorem endConversion_clockShape (ohms : Option Nat) (h : ClockShape s.clock) : ClockShape (endConversion ohms s).clock := by
  refine (endConversion_tick_moves (K := .plain) ohms s).steps.clockShape id ?_
  unfold State.tick
  dsimp only
  split
  · exact h.tick
  · exact h

theorem settingsWriteDone_clockShape (e : exec .settingsWriteDone s = .next t) (h : ClockShape s.clock) : ClockShape t.clock := by
  refine powered_keeps (P := fun t => ClockShape t.clock) e h ?_
  split
  · rename_i item owed due
    obtain ⟨dl, running⟩ := runningDue_some due
    by_cases window : ∃ w p, item = .window w p
    · obtain ⟨w, p, rfl⟩ := window
      unfold finishSettings applySettings
      exact ((startStore_moves (K := .plain) _).after (answerOwed_moves owed ..)).steps.clockShape id (applyWindow_clockShape w p h)
    · exact (finishSettings_moves (K := { Scope.plain with roles := True, apart := True }) (fun w p e => window ⟨w, p, e⟩) (fun _ _ _ => ⟨trivial, trivial⟩)
        running).steps.clockShape id h
  all_goals exact h

/-- At a start the windows are evaluated and the mode is derived, without a change of the time (R186). -/
theorem clockAtStart_shape (h : s.clock.InRange) : ClockShape s.clockAtStart :=
  ⟨h.minute, h.second, h.ms, (modeGiven_eq _).symm⟩

theorem start_clock (k : StartKind) (s : State) : (s.start k).clock = s.clockAtStart := rfl

theorem losePower_clock (written : Bool) (s : State) :
    (losePower written s).clock = State.clockAtStart { s with nv := s.nvAtLoss written } := rfl

theorem exec_clockShape {c : Instr} (e : exec c s = .next t) (h : ClockShape s.clock) : ClockShape t.clock := by
  have started (k : StartKind) {u : State} (hu : u.clock.InRange) : ClockShape (u.start k).clock := clockAtStart_shape hu
  by_cases touches : (Scope.ofCommand s c).clock
  · cases request : encodeRequest c with
    | some f =>
      rw [exec_request request] at e
      exact powered_keeps (P := fun t => ClockShape t.clock) e h
        (takeRequest_keeps (P := fun t => ClockShape t.clock) (fun _ _ _ h => h) (fun _ => performRequest_clockShape c) h)
    | none =>
    cases c with
    | conversionEnd ohms => exact powered_keeps (P := fun t => ClockShape t.clock) e h (endConversion_clockShape ohms h)
    | minuteBoundary =>
      refine powered_keeps (P := fun t => ClockShape t.clock) e h ?_
      split
      · exact takeBoundary_clockShape h
      · exact h
    | settingsWriteDone => exact settingsWriteDone_clockShape e h
    | byteReceived b stop =>
      cases stop with
      | true =>
        exact powered_keeps (P := fun t => ClockShape t.clock) e h
          (takeByte_keeps (P := fun t => ClockShape t.clock) (fun _ _ _ h => h) (fun t st ht => by rwa [answer_clock])
            (fun _ i => performRequest_clockShape i) b h)
      | false => exact touches.elim
    | modeSet | timeSet => cases request
    | _ => exact touches.elim
  · cases exec_course e with
    | moves m => exact m.steps.clockShape touches h
    | restarts m => exact started _ (m.steps.clockShape touches h).inRange
    | cold => exact started .cold ⟨by simp [State.coldRetention, WeekClock.cold], by simp [State.coldRetention, WeekClock.cold],
        by simp [State.coldRetention, WeekClock.cold]⟩
    | warm off => exact started .warm (.advance ..)
    | loss w =>
      rw [losePower_clock]
      exact clockAtStart_shape h.inRange

/-- Settles O54: the mode is derived wherever override, validity or window 0 change. -/
theorem clockShapeIsKept : Obligations.ClockShapeIsKept := by
  intro s t h e
  obtain rfl | ⟨c, rest, -, e⟩ := step_cases e
  · exact h
  · exact exec_clockShape e h

end Sys2Proof.Machine


/-! Proofs of the shapes that every step keeps: the badges. -/

namespace Sys2Proof.Machine

variable {s t : State}

/-! ## The credential store by its records (R112) -/

theorem mem_of_sparseGet {n : Nat} {α : Type} {dflt : α} {l : List (Fin n × α)} {i : Fin n} (h : sparseGet dflt l i ≠ dflt) :
    (i, sparseGet dflt l i) ∈ l := by
  induction l with
  | nil => exact absurd rfl h
  | cons e rest ih =>
    obtain ⟨k, x⟩ := e
    unfold sparseGet at h ⊢
    split at h
    · subst_vars
      simp
    · simp [*]

theorem ne_dflt_of_mem {n : Nat} {α : Type} [DecidableEq α] {dflt : α} {l : List (Fin n × α)} {e : Fin n × α}
    (h : sparseOk dflt l = true) (k : e ∈ l) : e.2 ≠ dflt := by
  induction l with
  | nil => cases k
  | cons f rest ih =>
    obtain ⟨hf, -, hrest⟩ := sparseOk_cons.1 h
    rcases List.mem_cons.1 k with rfl | k
    · exact hf
    · exact ih hrest k

/-- The store by slot: an entry is a record that is not empty. -/
theorem Nv.mem_credentials {nv : Nv} (ok : sparseOk Credential.empty nv.credentials = true) {i : SlotId} {c : Credential} :
    (i, c) ∈ nv.credentials ↔ c ≠ Credential.empty ∧ nv.credential i = c := by
  constructor
  · exact fun h => ⟨ne_dflt_of_mem ok h, sparseGet_of_mem ok h⟩
  · rintro ⟨h, rfl⟩
    exact mem_of_sparseGet h

/-- The credential store holds each badge once, and no record but the empty one has badge 0. -/
structure Nv.BadgesDistinct (nv : Nv) : Prop where
  canonical : sparseOk Credential.empty nv.credentials = true
  blank     : ∀ i, (nv.credential i).badge = 0 → nv.credential i = Credential.empty
  once      : ∀ i j, (nv.credential i).badge ≠ 0 → (nv.credential i).badge = (nv.credential j).badge → i = j

theorem BadgesUnique.distinct' (h : BadgesUnique s) : s.nv.BadgesDistinct where
  canonical := h.canonical
  blank i zero := by
    refine Classical.byContradiction fun filled => ?_
    exact h.nonzero _ ((Nv.mem_credentials h.canonical).2 ⟨filled, rfl⟩) zero
  once i j filled same := by
    have mem (k : SlotId) (hk : (s.nv.credential k).badge ≠ 0) : (k, s.nv.credential k) ∈ s.nv.credentials :=
      (Nv.mem_credentials h.canonical).2 ⟨fun e => hk (by rw [e]; rfl), rfl⟩
    exact congrArg Prod.fst (h.distinct _ (mem i filled) _ (mem j (same ▸ filled)) same)

/-- The badges of a state from its store and its stage. -/
theorem Nv.BadgesDistinct.unique (h : s.nv.BadgesDistinct)
    (untouched : ∀ row staged touched j, (s.stage = .opened row staged touched ∨ s.stage = .committing row staged touched) →
      touched.get j = false → staged.get j = s.nv.credential (rowSlot row j))
    (committing : ∀ row staged touched, s.stage = .committing row staged touched → s.duplicates row staged = false) : BadgesUnique s where
  canonical := h.canonical
  nonzero e he := by
    obtain ⟨filled, rec⟩ := (Nv.mem_credentials h.canonical).1 he
    exact fun zero => filled (rec ▸ h.blank e.1 (rec ▸ zero))
  distinct e he f hf same := by
    obtain ⟨filled, rec⟩ := (Nv.mem_credentials h.canonical).1 he
    obtain ⟨-, rec'⟩ := (Nv.mem_credentials h.canonical).1 hf
    have slots : e.1 = f.1 := by
      refine h.once e.1 f.1 (fun zero => filled ?_) (by rw [rec, rec', same])
      rw [← rec]
      exact h.blank e.1 zero
    exact Prod.ext slots (by rw [← rec, ← rec', slots])
  untouched := untouched
  committing := committing

theorem Nv.BadgesDistinct.idle (h : s.nv.BadgesDistinct) (idle : s.stage = .idle) : BadgesUnique s :=
  h.unique (by simp [idle]) (by simp [idle])

theorem Nv.BadgesDistinct.same {m n : Nv} (h : m.BadgesDistinct) (e : n.credentials = m.credentials) : n.BadgesDistinct := by
  obtain ⟨canonical, blank, once⟩ := h
  have records (i : SlotId) : n.credential i = m.credential i := by rw [Nv.credential, e]; rfl
  exact ⟨e ▸ canonical, fun i => by rw [records]; exact blank i, fun i j => by rw [records, records]; exact once i j⟩

theorem BadgesUnique.same (h : BadgesUnique s) (stage : t.stage = s.stage) (e : t.nv.credentials = s.nv.credentials) : BadgesUnique t := by
  have records (i : SlotId) : t.nv.credential i = s.nv.credential i := by rw [Nv.credential, e]; rfl
  refine (h.distinct'.same e).unique ?_ ?_
  · rw [stage]
    intro row staged touched j k
    rw [records]
    exact h.untouched row staged touched j k
  · rw [stage]
    intro row staged touched k
    rw [State.duplicates, e]
    exact h.committing row staged touched k

/-! ## The write of a row (R118) -/

theorem slotPlace_rowSlot (row : RowId) (j : Fin 8) : slotPlace (rowSlot row j) = j := by
  ext
  simp [slotPlace, rowSlot]

theorem slotRow_rowSlot (row : RowId) (j : Fin 8) : slotRow (rowSlot row j) = row := by
  ext
  simp [slotRow, rowSlot]
  omega

theorem rowSlot_slotPlace (i : SlotId) : rowSlot (slotRow i) (slotPlace i) = i := by
  ext
  simp [slotPlace, rowSlot, slotRow]
  omega

/-- A slot of the row is the one at its place. -/
theorem eq_rowSlot_iff {i : SlotId} {row : RowId} {j : Fin 8} : i = rowSlot row j ↔ slotRow i = row ∧ slotPlace i = j := by
  constructor
  · rintro rfl
    exact ⟨slotRow_rowSlot .., slotPlace_rowSlot ..⟩
  · rintro ⟨rfl, rfl⟩
    exact (rowSlot_slotPlace i).symm

/-- Of a row that is written each touched slot takes its staged record, and every other slot keeps its own. -/
theorem writeRow_credential {nv : Nv} (ok : sparseOk Credential.empty nv.credentials = true) (row : RowId) (staged : Vector Credential 8)
    (touched : Vector Bool 8) (i : SlotId) :
    (nv.writeRow row staged touched).credential i =
      if slotRow i = row ∧ touched.get (slotPlace i) = true then (staged.get (slotPlace i)).stored else nv.credential i := by
  have written (l : List (Fin 8)) (m : Nv) (okm : sparseOk Credential.empty m.credentials = true) :
      (l.foldl (fun nv j => if touched.get j then nv.putCredential (rowSlot row j) (staged.get j) else nv) m).credential i =
        if slotRow i = row ∧ touched.get (slotPlace i) = true ∧ slotPlace i ∈ l then (staged.get (slotPlace i)).stored
        else m.credential i := by
    induction l generalizing m with
    | nil => simp
    | cons j rest ih =>
      rw [List.foldl_cons, ih _ (by split; exact sparsePut_ok _ _ okm; exact okm)]
      by_cases later : slotRow i = row ∧ touched.get (slotPlace i) = true ∧ slotPlace i ∈ rest
      · rw [if_pos later, if_pos ⟨later.1, later.2.1, List.mem_cons_of_mem _ later.2.2⟩]
      · rw [if_neg later]
        by_cases here : i = rowSlot row j
        · obtain ⟨hrow, hplace⟩ := eq_rowSlot_iff.1 here
          split
          · rename_i touch
            rw [if_pos ⟨hrow, hplace ▸ touch, hplace ▸ List.mem_cons_self⟩, here, Nv.credential_put_same _ _ okm, slotPlace_rowSlot]
          · rename_i touch
            rw [if_neg (by rw [hplace]; grind)]
        · rw [if_neg (c := _ ∧ _)]
          · split
            · exact Nv.credential_put_other _ here
            · rfl
          · rintro ⟨hrow, touch, place⟩
            rcases List.mem_cons.1 place with place | place
            · exact here (eq_rowSlot_iff.2 ⟨hrow, place⟩)
            · exact later ⟨hrow, touch, place⟩
  simpa [Nv.writeRow, every] using written (every 8) nv ok

/-- Of a stage without a duplicate no badge is staged twice, nor held outside the row (R117). -/
theorem duplicates_eq_false {row : RowId} {staged : Vector Credential 8} (h : s.duplicates row staged = false) {j : Fin 8}
    (filled : (staged.get j).badge ≠ 0) :
    (∀ e ∈ s.nv.credentials, e.2.badge = (staged.get j).badge → slotRow e.1 = row) ∧
      ∀ k, (staged.get k).badge = (staged.get j).badge → k = j := by
  simp only [State.duplicates, List.any_eq_false, every, List.mem_finRange, forall_const, Bool.and_eq_true, decide_eq_true_eq,
    Bool.or_eq_true, List.any_eq_true, not_and, not_or, not_exists] at h
  obtain ⟨outside, inside⟩ := h j filled
  refine ⟨fun e he same => ?_, fun k same => ?_⟩
  · refine Classical.byContradiction fun other => ?_
    exact outside e he other same
  · refine Classical.byContradiction fun other => ?_
    exact inside k other same

theorem Credential.stored_badge (c : Credential) : c.stored.badge = c.badge := by
  unfold Credential.stored
  split
  · simp [Credential.empty, *]
  · rfl

theorem Credential.stored_blank {c : Credential} (h : c.badge = 0) : c.stored = Credential.empty := if_pos h

/-- The write of the row under commit keeps the badges distinct. -/
theorem BadgesUnique.committed (h : BadgesUnique s) {row : RowId} {staged : Vector Credential 8} {touched : Vector Bool 8}
    (stage : s.stage = .committing row staged touched) : (s.nv.writeRow row staged touched).BadgesDistinct := by
  have before := h.distinct'
  have inRow (i : SlotId) (hi : slotRow i = row) :
      (s.nv.writeRow row staged touched).credential i = (staged.get (slotPlace i)).stored := by
    rw [writeRow_credential h.canonical]
    by_cases touch : touched.get (slotPlace i) = true
    · rw [if_pos ⟨hi, touch⟩]
    · rw [if_neg (by grind), h.untouched row staged touched _ (.inr stage) (by simpa using touch), ← hi, rowSlot_slotPlace]
      unfold Credential.stored
      split
      · exact before.blank i ‹_›
      · rfl
  have outRow (i : SlotId) (hi : slotRow i ≠ row) : (s.nv.writeRow row staged touched).credential i = s.nv.credential i := by
    rw [writeRow_credential h.canonical, if_neg (by grind)]
  have apart {i j : SlotId} (hi : slotRow i = row) (hj : slotRow j ≠ row) (filled : (staged.get (slotPlace i)).badge ≠ 0)
      (same : (staged.get (slotPlace i)).badge = (s.nv.credential j).badge) : False := by
    refine hj ((duplicates_eq_false (h.committing _ _ _ stage) filled).1 (j, s.nv.credential j)
      ((Nv.mem_credentials h.canonical).2 ⟨fun e => ?_, rfl⟩) same.symm)
    rw [same, e] at filled
    exact filled rfl
  refine ⟨writeRow_sparseOk _ _ _ _ h.canonical, fun i zero => ?_, fun i j filled same => ?_⟩
  · by_cases hi : slotRow i = row
    · rw [inRow i hi] at zero ⊢
      exact Credential.stored_blank (Credential.stored_badge _ ▸ zero)
    · rw [outRow i hi] at zero ⊢
      exact before.blank i zero
  · by_cases hi : slotRow i = row <;> by_cases hj : slotRow j = row
    · rw [inRow i hi, Credential.stored_badge] at filled same
      rw [inRow j hj, Credential.stored_badge] at same
      have place := (duplicates_eq_false (h.committing _ _ _ stage) filled).2 _ same.symm
      rw [← rowSlot_slotPlace i, ← rowSlot_slotPlace j, hi, hj, place]
    · rw [inRow i hi, Credential.stored_badge] at filled same
      rw [outRow j hj] at same
      exact (apart hi hj filled same).elim
    · rw [outRow i hi] at filled same
      rw [inRow j hj, Credential.stored_badge] at same
      exact (apart hj hi (same ▸ filled) same.symm).elim
    · rw [outRow i hi] at filled same
      rw [outRow j hj] at same
      exact before.once i j filled same

/-! ## Every step keeps the badges unique -/

theorem Steps.badges {K : Scope} (h : Steps K s t) (quiet : ¬K.rows) (b : BadgesUnique s) : BadgesUnique t :=
  b.same (h.stage_eq quiet) (h.credentials_eq quiet)

theorem answer_badges {u : State} (st : Status) (b : BadgesUnique u) : BadgesUnique (answer st u) :=
  (answer_moves (K := .plain) st u).steps.badges id b

theorem performRowOpen_badges (row : Nat) (b : BadgesUnique s) : BadgesUnique (performRowOpen row s) := by
  unfold performRowOpen withObject performed
  split
  · dsimp only
    split
    · refine answer_badges _ (Nv.BadgesDistinct.unique b.distinct' ?_ (by simp))
      simp only [Stage.opened.injEq, reduceCtorEq, or_false]
      rintro _ _ _ j ⟨rfl, rfl, rfl⟩ -
      simp
    · exact answer_badges _ b
  · exact answer_badges _ b

theorem performSlotStage_badges (slot badge state privileges windows flags : Nat) (b : BadgesUnique s) :
    BadgesUnique (performSlotStage slot badge state privileges windows flags s) := by
  unfold performSlotStage withObject performed
  split
  · dsimp only
    split
    · rename_i row staged touched stage
      split
      · refine answer_badges _ (Nv.BadgesDistinct.unique b.distinct' ?_ (by simp))
        simp only [Stage.opened.injEq, reduceCtorEq, or_false]
        rintro _ _ _ j ⟨rfl, rfl, rfl⟩ untouched
        rw [put_get] at untouched ⊢
        split at untouched
        · cases untouched
        · rw [if_neg ‹_›]
          exact b.untouched _ _ _ _ (.inl stage) untouched
      · exact answer_badges _ b
    · exact answer_badges _ b
  · exact answer_badges _ b

theorem performRowCommit_badges (b : BadgesUnique s) : BadgesUnique (performRowCommit s) := by
  unfold performRowCommit
  split
  · rename_i row staged touched stage
    split
    · exact answer_badges _ b
    · split
      · exact answer_badges _ b
      · rename_i distinct _
        refine (requestHost_commit_moves (K := .plain) ..).steps.badges id (answer_badges _ (Nv.BadgesDistinct.unique b.distinct' ?_ ?_))
        · simp only [Stage.committing.injEq, reduceCtorEq, false_or]
          rintro _ _ _ j ⟨rfl, rfl, rfl⟩
          exact b.untouched _ _ _ _ (.inl stage)
        · simp only [Stage.committing.injEq]
          rintro _ _ _ ⟨rfl, rfl, rfl⟩
          exact Bool.eq_false_iff.2 distinct
  · exact answer_badges _ b

theorem performRowDiscard_badges (b : BadgesUnique s) : BadgesUnique (performRowDiscard s) := by
  unfold performRowDiscard performed
  split
  · exact answer_badges _ (Nv.BadgesDistinct.idle b.distinct' rfl)
  · exact answer_badges _ b

theorem performRequest_badges (i : Instr) (b : BadgesUnique s) : BadgesUnique (performRequest i s) := by
  by_cases touches : (Scope.ofRequest i).rows
  · cases i with
    | rowOpen tag row => exact performRowOpen_badges row b
    | slotStage => exact performSlotStage_badges _ _ _ _ _ _ b
    | rowCommit => exact performRowCommit_badges b
    | rowDiscard => exact performRowDiscard_badges b
    | _ => exact touches.elim
  · exact (performRequest_moves (.refl _) s).steps.badges touches b

theorem finishCommit_badges (row : RowId) (b : BadgesUnique s) : BadgesUnique (finishCommit row s) := by
  unfold finishCommit
  refine ((startStore_moves (K := .plain) _).after (raise_moves ..)).steps.badges id (Nv.BadgesDistinct.idle ?_ rfl)
  cases stage : s.stage with
  | committing r staged touched => exact b.committed stage
  | _ => exact b.distinct'

theorem writeOp_badges (op : StoreOp) (b : BadgesUnique s) : (s.nv.writeOp s.stage op).BadgesDistinct := by
  cases op with
  | mark item value => exact b.distinct'.same (by cases item <;> rfl)
  | settings item owed => exact b.distinct'.same (by cases item <;> rfl)
  | commit row =>
    cases stage : s.stage with
    | committing r staged touched => exact b.committed stage
    | _ => exact b.distinct'

theorem start_badges (k : StartKind) (b : BadgesUnique s) : BadgesUnique (s.start k) :=
  Nv.BadgesDistinct.idle b.distinct' rfl

theorem exec_badges {c : Instr} (e : exec c s = .next t) (b : BadgesUnique s) : BadgesUnique t := by
  by_cases touches : (Scope.ofCommand s c).rows
  · cases request : encodeRequest c with
    | some f =>
      rw [exec_request request] at e
      exact powered_keeps e b (takeRequest_keeps (P := BadgesUnique) (fun _ _ _ h => h.same rfl rfl) (fun _ => performRequest_badges c) b)
    | none =>
    cases c with
    | commitDone =>
      refine powered_keeps e b ?_
      split
      · exact finishCommit_badges _ b
      all_goals exact b
    | byteReceived byte stop =>
      cases stop with
      | true =>
        exact powered_keeps e b (takeByte_keeps (fun _ _ _ h => h.same rfl rfl) (fun _ _ => answer_badges _)
          (fun _ _ => performRequest_badges _) byte b)
      | false => exact touches.elim
    | rowOpen | slotStage | rowCommit | rowDiscard => cases request
    | _ => exact touches.elim
  · cases exec_course e with
    | moves m => exact m.steps.badges touches b
    | restarts m => exact start_badges _ (m.steps.badges touches b)
    | cold => exact start_badges .cold (b.same rfl rfl)
    | warm off => exact start_badges .warm (b.same rfl rfl)
    | loss w =>
      refine Nv.BadgesDistinct.idle ?_ rfl
      change (s.nvAtLoss w).BadgesDistinct
      rcases nvAtLoss_cases w s with e | ⟨⟨op, dl⟩, running, e⟩ <;> rw [e]
      · exact b.distinct'
      · exact writeOp_badges op b

/-- Settles O58: the commit test keeps the badges of a row apart, and the write of a row is of the stage that passed it. -/
theorem badgesStayUnique : Obligations.BadgesStayUnique := by
  intro s t b e
  obtain rfl | ⟨c, rest, -, e⟩ := step_cases e
  · exact b
  · exact exec_badges e (b.same rfl rfl)

end Sys2Proof.Machine


/-! Proofs of the shapes that every step keeps: the roles of the doors. -/

namespace Sys2Proof.Machine

variable {s t : State}

/-! ## The roles ahead (R138, R158) -/

/-- Every door has or is about to have in `t` no role but those it has or is about to have in `s`. -/
def State.RolesWithin (t s : State) : Prop := ∀ d r, r ∈ t.rolesAhead d → r ∈ s.rolesAhead d

theorem State.RolesWithin.refl (s : State) : s.RolesWithin s := fun _ _ h => h

theorem rolesWithin_of (doors : t.nv.doors = s.nv.doors) (st : t.store.Within s.store) : t.RolesWithin s := by
  intro d r h
  rw [State.mem_rolesAhead] at h ⊢
  rcases h with h | ⟨p, owed, h, e⟩
  · exact .inl (by rwa [State.role, State.doorSettings, doors] at h)
  · obtain ⟨owed', h⟩ := st _ _ h
    exact .inr ⟨p, owed', h, e⟩

theorem rolesWithin_same (nv : t.nv = s.nv) (st : t.store = s.store) : t.RolesWithin s :=
  rolesWithin_of (by rw [nv]) (by rw [st]; exact .refl _)

theorem RolesUnique.within (h : RolesUnique s) (k : t.RolesWithin s) : RolesUnique t :=
  ⟨fun v d e hd he => h.inner v d e (k d _ hd) (k e _ he), fun v d e hd he => h.outer v d e (k d _ hd) (k e _ he)⟩

theorem requestSettings_rolesAhead {item : SettingsItem} {d : DoorId} {r : Role} (h : r ∈ (requestSettings item s).rolesAhead d) :
    r ∈ s.rolesAhead d ∨ ∃ p, item = .door d p ∧ p.role = r := by
  rw [State.mem_rolesAhead] at h ⊢
  rcases h with h | ⟨p, owed, h, e⟩
  · exact .inl (.inl h)
  · rcases mem_accepted_requestSettings h with rfl | h
    · exact .inr ⟨p, rfl, e⟩
    · exact .inl (.inr ⟨p, owed, h, e⟩)

theorem Steps.rolesWithin {K : Scope} (h : Steps K s t) (quiet : ¬K.roles) : t.RolesWithin s := by
  induction h with
  | refl => exact .refl _
  | trans _ _ ih ik => exact fun d r h => ih d r (ik d r h)
  | free h => rw [h]; exact rolesWithin_same rfl rfl
  | asOf t _ ih => exact fun d r h => rolesWithin_same (by rw [asAt_other]) (by rw [asAt_other]) d r (ih d r h)
  | store st s h => exact rolesWithin_of rfl h
  | request item s h =>
    intro d r k
    rcases requestSettings_rolesAhead k with k | ⟨p, e, -⟩
    · exact k
    · exact absurd (h.door d p e) quiet
  | nv n s h => exact rolesWithin_of (h.doors.resolve_right quiet) (.refl _)
  | writeZone z p owed dl s h => exact rolesWithin_of rfl (endRunning_within s)
  | writeActuator a z owed dl s h => exact rolesWithin_of rfl (endRunning_within s)
  | _ => exact rolesWithin_same rfl rfl

theorem writeSettings_door_role {d : DoorId} {p : DoorSettings} {e : DoorId} {r : Role}
    (h : r ∈ State.rolesAhead { s with nv := s.nv.writeSettings (.door d p) } e) : r ∈ s.rolesAhead e ∨ e = d ∧ p.role = r := by
  rw [State.mem_rolesAhead] at h ⊢
  rcases h with h | h
  · simp only [State.role, State.doorSettings, Nv.writeSettings, put_get] at h
    split at h
    · exact .inr ⟨‹_›, h⟩
    · exact .inl (.inl h)
  · exact .inl (.inr h)

/-- A SET_DOOR that takes effect gives the door its role and no door another. -/
theorem applyDoor_rolesAhead {d : DoorId} {p : DoorSettings} {e : DoorId} {r : Role} (h : r ∈ (applyDoor d p s).rolesAhead e) :
    r ∈ s.rolesAhead e ∨ e = d ∧ p.role = r := by
  unfold applyDoor at h
  by_cases same : s.role d = p.role
  · simp only [same, if_true] at h
    exact writeSettings_door_role h
  · simp only [same, if_false] at h
    have before := ((resetVestibule_moves (K := .plain) (s.role d) _).after (cancelGrant_moves d .doorUnavailable s)).steps.rolesWithin id
    have after : r ∈ State.rolesAhead { resetVestibule (s.role d) (cancelGrant d .doorUnavailable s) with
        nv := (resetVestibule (s.role d) (cancelGrant d .doorUnavailable s)).nv.writeSettings (.door d p) } e := by
      split at h
      · exact ((setDoor_idle_steps (K := .plain) d rfl _).after (resetVestibule_steps p.role _)).rolesWithin id e r h
      · exact ((rederive_steps (K := .plain) d _).after (resetVestibule_steps p.role _)).rolesWithin id e r h
    exact (writeSettings_door_role after).imp_left (before e r)

theorem otherHasRole_eq_false {d e : DoorId} {r : Role} (h : s.otherHasRole d r = false) (k : r ∈ s.rolesAhead e) : e = d := by
  simp only [State.otherHasRole, List.any_eq_false, every, List.mem_finRange, forall_const, Bool.and_eq_true, decide_eq_true_eq,
    List.contains_iff_mem, not_and] at h
  refine Classical.byContradiction fun other => ?_
  exact h e other k

/-- A role that fits is no other door's (R158). -/
theorem RolesUnique.requested {d : DoorId} {p : DoorSettings} (h : RolesUnique s) (fits : s.roleFits d p.role = true) :
    RolesUnique (requestSettings (.door d p) s) := by
  have ahead {e : DoorId} {r : Role} (k : r ∈ (requestSettings (.door d p) s).rolesAhead e) : r ∈ s.rolesAhead e ∨ e = d ∧ p.role = r := by
    rcases requestSettings_rolesAhead k with k | ⟨q, e, k⟩
    · exact .inl k
    · cases e
      exact .inr ⟨rfl, k⟩
  have free (r : Role) (named : ∃ v, r = .strongroom v ∨ r = .vestibuleOuter v) (e : p.role = r) : s.otherHasRole d r = false := by
    unfold State.roleFits at fits
    obtain ⟨v, rfl | rfl⟩ := named <;> simp only [e, Bool.and_eq_true, Bool.not_eq_true'] at fits
    · exact fits.1
    · exact fits.1.1.1
  have unique (r : Role) (named : ∃ v, r = .strongroom v ∨ r = .vestibuleOuter v)
      (old : ∀ d e, r ∈ s.rolesAhead d → r ∈ s.rolesAhead e → d = e) (a b : DoorId) (ha : r ∈ (requestSettings (.door d p) s).rolesAhead a)
      (hb : r ∈ (requestSettings (.door d p) s).rolesAhead b) : a = b := by
    rcases ahead ha with old_a | ⟨rfl, ra⟩ <;> rcases ahead hb with old_b | ⟨rfl, rb⟩
    · exact old a b old_a old_b
    · exact otherHasRole_eq_false (free r named rb) old_a
    · exact (otherHasRole_eq_false (free r named ra) old_b).symm
    · rfl
  exact ⟨fun v => unique _ ⟨v, .inl rfl⟩ (h.inner v), fun v => unique _ ⟨v, .inr rfl⟩ (h.outer v)⟩

theorem checkDoor_fits {door role room gm dh ct pw rt ho li lw : Nat} {d : DoorId} {p : DoorSettings}
    (h : s.checkDoor door role room gm dh ct pw rt ho li lw = some (d, p)) : s.roleFits d p.role = true := by
  unfold State.checkDoor at h
  split at h
  · dsimp only at h
    split at h
    · rename_i ok
      cases h
      exact (Bool.and_eq_true .. ▸ ok).2
    · cases h
  · cases h

theorem performRequest_roles (i : Instr) (h : RolesUnique s) : RolesUnique (performRequest i s) := by
  by_cases touches : (Scope.ofRequest i).roles
  · cases i with
    | setDoor tag door role room gm dh ct pw rt ho li lw =>
      unfold performRequest performSetDoor withObject
      dsimp only
      split
      · rename_i x hx
        unfold writeUnless
        split
        · exact h.within ((answer_moves (K := .plain) ..).steps.rolesWithin id)
        · exact h.requested (checkDoor_fits hx)
      · exact h.within ((answer_moves (K := .plain) ..).steps.rolesWithin id)
    | _ => exact touches.elim
  · exact h.within ((performRequest_moves (.refl _) s).steps.rolesWithin touches)

theorem accepted_role {d : DoorId} {p : DoorSettings} {owed : Bool} {dl : Nat} (h : s.store.running = some ⟨.settings (.door d p) owed, dl⟩) :
    p.role ∈ s.rolesAhead d :=
  (State.mem_rolesAhead ..).2 (.inr ⟨p, owed, (Store.mem_accepted ..).2 (.inl ⟨dl, h⟩), rfl⟩)

theorem settingsWriteDone_roles (e : exec .settingsWriteDone s = .next t) (h : RolesUnique s) : RolesUnique t := by
  refine powered_keeps e h ?_
  split
  · rename_i item owed due
    obtain ⟨dl, running⟩ := runningDue_some due
    by_cases door : ∃ d p, item = .door d p
    · obtain ⟨d, p, rfl⟩ := door
      unfold finishSettings applySettings
      refine h.within fun a r k => ?_
      replace k := ((startStore_moves (K := .plain) _).after (answerOwed_moves owed ..)).steps.rolesWithin id a r k
      rcases applyDoor_rolesAhead k with k | ⟨rfl, rfl⟩
      · exact (endRunning_moves (K := .plain) s).steps.rolesWithin id a r k
      · exact accepted_role running
    · exact h.within ((finishSettings_moves (K := { Scope.plain with clock := True }) (fun _ _ _ => trivial)
        (fun d p e => absurd ⟨d, p, e⟩ door) running).steps.rolesWithin id)
  all_goals exact h

theorem start_rolesWithin (k : StartKind) (s : State) : (s.start k).RolesWithin s :=
  rolesWithin_of rfl fun _ _ h => by cases h

theorem losePower_rolesWithin (written : Bool) (s : State) : (losePower written s).RolesWithin s := by
  intro d r h
  replace h : r ∈ State.rolesAhead { s with nv := s.nvAtLoss written, store := Store.start } d := rolesWithin_same rfl rfl d r h
  have dropped (m : Nv) (h : r ∈ State.rolesAhead { s with nv := m, store := Store.start } d) : r ∈ State.rolesAhead { s with nv := m } d :=
    rolesWithin_of (s := { s with nv := m }) (by rfl) (fun _ _ h => by cases h) d r h
  replace h := dropped _ h
  rcases nvAtLoss_cases written s with e | ⟨⟨op, dl⟩, running, e⟩ <;> rw [e] at h
  · exact h
  · by_cases door : ∃ a p owed, op = .settings (.door a p) owed
    · obtain ⟨a, p, owed, rfl⟩ := door
      rcases writeSettings_door_role h with h | ⟨rfl, rfl⟩
      · exact h
      · exact accepted_role running
    · refine rolesWithin_of (s := s) (t := { s with nv := s.nv.writeOp s.stage op }) ?_ (.refl _) d r h
      cases op with
      | settings item owed =>
        cases item with
        | door a p => exact absurd ⟨a, p, owed, rfl⟩ door
        | _ => rfl
      | mark item value => cases item <;> rfl
      | commit row => exact (writeOp_commit_nvMove (K := { Scope.plain with rows := True }) trivial s.nv s.stage row).doors.resolve_right id

theorem exec_roles {c : Instr} (e : exec c s = .next t) (h : RolesUnique s) : RolesUnique t := by
  by_cases touches : (Scope.ofCommand s c).roles
  · have links (t : State) (lk : Link) (b : Bool) (h : RolesUnique t) : RolesUnique { t with link := lk, hostPresent := b } :=
      h.within (rolesWithin_same rfl rfl)
    cases request : encodeRequest c with
    | some f =>
      rw [exec_request request] at e
      exact powered_keeps e h (takeRequest_keeps links (fun _ => performRequest_roles c) h)
    | none =>
    cases c with
    | settingsWriteDone => exact settingsWriteDone_roles e h
    | byteReceived b stop =>
      cases stop with
      | true =>
        exact powered_keeps e h (takeByte_keeps links (fun t st h => h.within ((answer_moves (K := .plain) ..).steps.rolesWithin id))
          (fun _ => performRequest_roles) b h)
      | false => exact touches.elim
    | setDoor => cases request
    | _ => exact touches.elim
  · cases exec_course e with
    | moves m => exact h.within (m.steps.rolesWithin touches)
    | restarts m => exact (h.within (m.steps.rolesWithin touches)).within (start_rolesWithin _ _)
    | cold => exact (h.within (rolesWithin_same (t := s.coldRetention) rfl rfl)).within (start_rolesWithin _ _)
    | warm off => exact (h.within (rolesWithin_same (t := { s with clock := s.clock.advance off }) rfl rfl)).within (start_rolesWithin _ _)
    | loss w => exact h.within (losePower_rolesWithin w s)

/-- The first half of O57: a role is asked for only where no other door has it or is about to. -/
theorem step_rolesUnique (h : RolesUnique s) (e : step s = .next t) : RolesUnique t := by
  obtain rfl | ⟨c, rest, -, e⟩ := step_cases e
  · exact h
  · exact exec_roles e (h.within (rolesWithin_same rfl rfl))

end Sys2Proof.Machine


/-! Settles O57: the order of doors and grants keeps a vestibule to its two occupants and its doors from moving grants together. -/

namespace Sys2Proof.Machine

variable {s t : State} {d : DoorId}

/-! ## The shapes and the order -/

theorem DoorShape.guided {r : Role} {x : Door} (h : DoorShape r x) : Guided x := by
  have resting (idle : x.motion = .idle) : x.target = none := by rw [Door.target, idle]
  have follows (b : Bolt) (target : x.target = some b) : x.bolt = b := by
    unfold Door.target at target
    split at target
    · cases target
    next moving => cases target; exact h.follows.1 _ _ moving
    next cooling => cases target; exact h.follows.2 _ _ cooling
  refine ⟨fun releasing thrown => ?_, fun released => resting (h.atRest (.inr (.inl released))), fun withdrawn => ?_⟩
  · have bolt := h.withdrawn (.inl releasing)
    rw [follows _ thrown] at bolt
    cases bolt
  · have bolt := follows _ withdrawn
    have moving : ¬ x.motion = .idle := fun idle => by rw [resting idle] at withdrawn; cases withdrawn
    have shut := fun at_ => moving (h.atRest at_)
    have closed := fun at_ => (by simp [bolt] : x.bolt ≠ .thrown) (h.thrown at_)
    cases state : x.state <;> simp [state] at shut closed ⊢

theorem grantStage_of {g : Grant} (grant : s.grants.get d = some g) : s.grantStage d = some g.stage := by
  rw [State.grantStage, grant, Option.map_some]

/-- The shapes say the order of doors and grants. -/
theorem Ordered.of_shapes (doors : DoorsShape s) (vests : VestibuleShape s) (roles : RolesUnique s) : Ordered s := by
  refine ⟨fun d => (doors.doors d).guided, fun d g grant => ?_, vests.capacity,
    fun v d e rd re => roles.inner v d e (rd ▸ List.mem_cons_self) (re ▸ List.mem_cons_self),
    fun v d e rd re => roles.outer v d e (rd ▸ List.mem_cons_self) (re ▸ List.mem_cons_self)⟩
  refine ⟨?_, doors.waiting d g grant, fun v role entry => ?_,
    fun moves => ⟨fun v role entry => ?_, fun v role exit => ?_, fun e pair => ?_⟩⟩
  · have releasing := doors.releasing d
    have released := doors.released d
    rw [grantStage_of grant] at releasing released
    rw [Door.held, ← releasing, ← released]
    cases g.stage <;> simp [GrantStage.waits]
  · obtain ⟨one, alone, -⟩ := vests.inbound v d g role grant entry
    exact ⟨one, alone⟩
  · obtain ⟨one, -, few⟩ := vests.inbound v d g role grant entry
    exact ⟨one, few moves⟩
  · exact vests.outbound v d g role grant exit
  · have here : s.grantMoving d = true := grantMoving_eq_true.2 ⟨g, grant, moves⟩
    refine Classical.byContradiction fun there => ?_
    replace there : s.grantMoving e = true := by simpa using there
    obtain ⟨v, ⟨inner, outer⟩ | ⟨outer, inner⟩⟩ := pair
    · exact vests.interlock v d e inner outer ⟨here, there⟩
    · exact vests.interlock v e d inner outer ⟨there, here⟩

/-- The order of doors and grants says the shape of the vestibules. -/
theorem Ordered.vestibules (o : Ordered s) : VestibuleShape s where
  capacity := o.capacity
  inbound v d g role grant entry := by
    obtain ⟨-, -, outer, moves⟩ := o.fits d g grant
    obtain ⟨one, alone⟩ := outer v role entry
    exact ⟨one, alone, fun goes => ((moves goes).inbound v role entry).2⟩
  outbound v d g role grant exit := by
    obtain ⟨-, waiting, -, moves⟩ := o.fits d g grant
    refine (moves ?_).outbound v role exit
    refine Classical.byContradiction fun waits => ?_
    have entry := (waiting (by simpa using waits)).1
    rw [exit] at entry
    cases entry
  interlock v d e inner outer := fun ⟨here, there⟩ => by
    obtain ⟨g, grant, goes⟩ := grantMoving_eq_true.1 here
    rw [((o.fits d g grant).moves goes).interlock e ⟨v, .inl ⟨inner, outer⟩⟩] at there
    cases there

/-! ## DOOR_MODE and DOOR_DRIVE (R155, R156) -/

/-- A door in MANUAL mode is in an overlay state. -/
def State.Overlaid (s : State) : Prop := ∀ d, (s.doors.get d).mode = .manual →
  (s.doors.get d).state = .manual ∨ (s.doors.get d).state = .lineFault ∨ (s.doors.get d).state = .driverLatched

theorem State.Overlaid.away (h : s.Overlaid) (manual : (s.doors.get d).mode = .manual) : ¬ (s.doors.get d).held := by
  rcases h d manual with state | state | state <;> exact Door.away_of state

theorem withObject_ordered {α : Type} {x : Option α} {f : α → State → State} (o : Ordered s) (h : ∀ a, Ordered (f a s)) :
    Ordered (withObject x f s) := by
  unfold withObject
  split
  · exact h _
  · exact (answer_moves (K := .plain) ..).ordered id o

theorem answer_ordered (st : Status) (o : Ordered s) : Ordered (answer st s) := (answer_moves (K := .plain) ..).ordered id o

theorem setDoorMode_ordered (m : DoorMode) (o : Ordered s) (h : s.Overlaid) : Ordered (setDoorMode d m s) := by
  unfold setDoorMode
  split
  · exact o
  next other =>
    split
    · exact (setManual_moves (K := .plain) ..).ordered id o
    · have manual : (s.doors.get d).mode = .manual := by
        cases mode : (s.doors.get d).mode
        · exact absurd mode other
        · rfl
      have still : s.grantMoving d = false := o.still (h.away manual)
      exact rederive_ordered ((modDoor_moves (K := .plain) d s).ordered id o) still

theorem performDoorMode_ordered (door mode : Nat) (o : Ordered s) (h : s.Overlaid) : Ordered (performDoorMode door mode s) :=
  withObject_ordered o fun x => by
    split
    · exact answer_ordered _ o
    · exact answer_ordered _ (setDoorMode_ordered _ o h)

theorem State.Overlaid.drivable (h : s.Overlaid) (may : s.drivable d = true) : (s.doors.get d).state = .manual := by
  simp only [State.drivable, Bool.and_eq_true, decide_eq_true_eq] at may
  obtain ⟨⟨manual, fault⟩, latched⟩ := may
  exact (h d manual).resolve_right fun state => state.elim fault latched

theorem performDoorDrive_ordered (door direction : Nat) (o : Ordered s) (h : s.Overlaid) : Ordered (performDoorDrive door direction s) :=
  withObject_ordered o fun x => by
    split
    · exact answer_ordered _ o
    next drivable =>
      split
      · exact answer_ordered _ o
      · split
        · exact answer_ordered _ o
        · exact answer_ordered _ (manualMotion_ordered _ o (h.drivable (by simpa using drivable)))

theorem performRequest_ordered (i : Instr) (o : Ordered s) (h : s.Overlaid) : Ordered (performRequest i s) := by
  by_cases apart : (Scope.ofRequest i).apart
  · cases i with
    | doorMode tag door mode => exact performDoorMode_ordered door mode o h
    | doorDrive tag door direction => exact performDoorDrive_ordered door direction o h
    | _ => exact apart.elim
  · exact (performRequest_moves (.refl _) s).ordered apart o

/-! ## SET_DOOR takes effect (R158) -/

theorem Lessens.gone (h : Lessens s t) (gone : s.grants.get d = none) : t.grants.get d = none := by
  cases grant : t.grants.get d
  case none => rfl
  case some y =>
    obtain ⟨g, old, -⟩ := h.grants d y grant
    rw [gone] at old
    cases old

theorem setGrant_gone {e : DoorId} {g : Option Grant} (other : d ≠ e) (gone : s.grants.get d = none) :
    (s.setGrant e g).grants.get d = none := by
  rw [State.setGrant_grants, put_get_other _ _ other, gone]

theorem startRelease_gone {e : DoorId} (other : d ≠ e) (gone : s.grants.get d = none) : (startRelease e s).grants.get d = none := by
  unfold startRelease beginWithdraw
  split
  · exact setGrant_gone other gone
  · exact gone

/-- The automatic outer release gives a grant to an outer door alone (R171). -/
theorem autoRelease_gone (v : RoomId) (inner : ∀ w, s.role d ≠ .vestibuleOuter w) (gone : s.grants.get d = none) :
    (autoRelease v s).grants.get d = none := by
  unfold autoRelease
  split
  next i e _ outer =>
    have other : d ≠ e := fun same => inner v (same ▸ outerDoor_role outer)
    dsimp only
    split
    · have started (g : Option Grant) : (startRelease e ((dropGrant e .direction s).setGrant e g)).grants.get d = none :=
        startRelease_gone other (setGrant_gone other ((dropGrant_lessens ..).gone gone))
      split
      · exact (emptyVestibule_lessens ..).gone (setGrant_gone other (started _))
      · exact started _
    · exact gone
  · exact gone

theorem handSecure_gone (gone : s.grants.get d = none) : (handSecure d false s).grants.get d = none := by
  unfold handSecure
  split
  next role => exact autoRelease_gone _ (fun w => by rw [role]; nofun) gone
  · exact gone
  · exact gone

theorem enterSecure_gone (gone : s.grants.get d = none) : (enterSecure d false s).grants.get d = none := by
  unfold enterSecure
  dsimp only
  split
  · split
    · rw [raiseDoor_grants]
      exact gone
    · exact gone
  · refine handSecure_gone ?_
    split
    · rw [raiseDoor_grants]
      exact gone
    · exact gone

theorem throwKeepingTrips_gone (gone : s.grants.get d = none) : (throwKeepingTrips d s).grants.get d = none := by
  unfold throwKeepingTrips throwInto beginThrow
  dsimp only
  rw [State.setDoor_grants]
  split
  · exact enterSecure_gone gone
  · exact gone

theorem cancelGrant_gone (d : DoorId) (r : Reason) (s : State) : (cancelGrant d r s).grants.get d = none := by
  have dropped := dropGrant_grant d r s
  unfold cancelGrant doorCancelled
  dsimp only
  split
  · split
    · exact dropped
    · exact throwKeepingTrips_gone dropped
    · exact throwKeepingTrips_gone dropped
    · exact dropped
  · exact dropped

theorem hasVestibule_iff {v : RoomId} : s.hasVestibule v = true ↔ ∃ e, s.role e = .vestibuleOuter v := by
  simp [State.hasVestibule, State.outerDoor, List.find?_isSome, every]

/-- A door without a grant takes a role that no other door has, and the vestibule that it makes is empty. -/
theorem reroled_ordered {r : Role} (o : Ordered s) (gone : s.grants.get d = none) (doors : t.doors = s.doors) (grants : t.grants = s.grants)
    (roles : ∀ e, t.role e = if e = d then r else s.role e)
    (vests : ∀ v, (t.vests.get v).occupants.length ≤ (s.vests.get v).occupants.length)
    (fresh : ∀ v, r = .vestibuleOuter v → (t.vests.get v).occupants = [])
    (inner : ∀ v e, r = .strongroom v → s.role e = .strongroom v → e = d)
    (outer : ∀ v e, r = .vestibuleOuter v → s.role e = .vestibuleOuter v → e = d) : Ordered t := by
  have moving (e : DoorId) : t.grantMoving e = s.grantMoving e := by rw [State.grantMoving, State.grantMoving, grants]
  have single (q : RoomId → Role) (new : ∀ v e, r = q v → s.role e = q v → e = d)
      (old : ∀ v a b, s.role a = q v → s.role b = q v → a = b)
      (v : RoomId) (a b : DoorId) (ra : t.role a = q v) (rb : t.role b = q v) : a = b := by
    rw [roles] at ra rb
    split at ra <;> split at rb
    next ha hb => rw [ha, hb]
    next ha _ => rw [ha, new v b ra rb]
    next _ hb => rw [hb, new v a rb ra]
    next => exact old v a b ra rb
  refine ⟨fun e => doors ▸ o.guided e, fun e g grant => ?_, fun v => Nat.le_trans (vests v) (o.capacity v),
    single .strongroom inner o.inner, single .vestibuleOuter outer o.outer⟩
  rw [grants] at grant
  have other : e ≠ d := fun same => by rw [same, gone] at grant; cases grant
  have role : t.role e = s.role e := by rw [roles, if_neg other]
  obtain ⟨held, waiting, alone, moves⟩ := o.fits e g grant
  rw [doors]
  refine ⟨held, waiting, fun v at_ => alone v (role ▸ at_), fun goes => ?_⟩
  obtain ⟨inbound, outbound, interlock⟩ := moves goes
  refine ⟨fun v at_ entry => ?_, fun v at_ exit => ?_, fun f pair => ?_⟩
  · obtain ⟨one, few⟩ := inbound v (role ▸ at_) entry
    exact ⟨one, Nat.le_trans (vests v) few⟩
  · obtain ⟨one, few⟩ := outbound v (role ▸ at_) exit
    refine ⟨one, fun has => ?_⟩
    obtain ⟨f, is⟩ := hasVestibule_iff.1 has
    rw [roles] at is
    split at is
    · rw [fresh v is]
      exact Nat.zero_le 1
    · exact Nat.le_trans (vests v) (few (hasVestibule_iff.2 ⟨f, is⟩))
  · rw [moving]
    by_cases same : f = d
    · rw [same]
      exact grantMoving_of_none gone
    · refine interlock f ?_
      simpa only [State.Paired, role, roles f, if_neg same] using pair

theorem foldl_outside (gone : List Occupant) (s : State) : (gone.foldl (fun t p => t.setLocation p.slot .outside) s).vests = s.vests ∧
    (gone.foldl (fun t p => t.setLocation p.slot .outside) s).grants = s.grants := by
  induction gone generalizing s with
  | nil => exact ⟨rfl, rfl⟩
  | cons p rest ih => exact ih _

theorem resetVestibule_vests (v : RoomId) (s : State) : (resetVestibule (.vestibuleOuter v) s).vests.get v = Vestibule.empty := by
  simp [resetVestibule, foldl_outside]

theorem resetVestibule_grants (r : Role) (s : State) : (resetVestibule r s).grants = s.grants := by
  unfold resetVestibule
  split
  · rw [(foldl_outside ..).2]
    rfl
  · rfl

theorem writtenDoor_role (d e : DoorId) (p : DoorSettings) (s : State) :
    State.role { s with nv := s.nv.writeSettings (.door d p) } e = if e = d then p.role else s.role e := by
  simp only [State.role, State.doorSettings, Nv.writeSettings, put_get]
  split <;> rfl

theorem applyDoor_ordered {p : DoorSettings} (o : Ordered s)
    (inner : ∀ v e, p.role = .strongroom v → s.role e = .strongroom v → e = d)
    (outer : ∀ v e, p.role = .vestibuleOuter v → s.role e = .vestibuleOuter v → e = d) : Ordered (applyDoor d p s) := by
  unfold applyDoor
  dsimp only
  split
  next same =>
    refine Lessens.ordered (s := s) ⟨rfl, fun e => ?_, fun _ y h => ⟨y, h, rfl, rfl, rfl⟩, fun _ => Nat.le_refl _⟩ o
    rw [writtenDoor_role]
    split
    next here => rw [here, same]
    next => rfl
  next =>
    have left := (resetVestibule_lessens (s.role d) (cancelGrant d .doorUnavailable s)).ordered
      ((cancelGrant_moves (K := .plain) ..).ordered id o)
    have gone := (resetVestibule_lessens (s.role d) _).gone (cancelGrant_gone d .doorUnavailable s)
    have roles (e : DoorId) : State.role (resetVestibule (s.role d) (cancelGrant d .doorUnavailable s)) e = s.role e := by
      rw [(resetVestibule_lessens ..).roles]
      exact role_congr (by rw [(cancelGrant_reach ..).nv]) e
    generalize resetVestibule (s.role d) (cancelGrant d .doorUnavailable s) = u at left gone roles ⊢
    have less := resetVestibule_lessens p.role { u with nv := u.nv.writeSettings (.door d p) }
    have given : Ordered (resetVestibule p.role { u with nv := u.nv.writeSettings (.door d p) }) := by
      refine reroled_ordered (r := p.role) left gone less.doors (resetVestibule_grants ..) (fun e => ?_) less.vests (fun v is => ?_)
        (fun v e is at_ => inner v e is (roles e ▸ at_)) (fun v e is at_ => outer v e is (roles e ▸ at_))
      · rw [less.roles, writtenDoor_role]
      · rw [is, resetVestibule_vests]
        rfl
    have still : State.grantMoving _ d = false := grantMoving_of_none (less.gone gone)
    split
    · exact given.door_still (.idle rfl) still (not_held_of_state nofun nofun)
    · exact rederive_ordered given still

theorem settingsWriteDone_ordered (e : exec .settingsWriteDone s = .next t) (o : Ordered s) (h : RolesUnique s) : Ordered t := by
  refine powered_keeps e o ?_
  split
  · rename_i item owed due
    obtain ⟨dl, running⟩ := runningDue_some due
    by_cases door : ∃ d p, item = .door d p
    · obtain ⟨d, p, rfl⟩ := door
      unfold finishSettings applySettings
      refine ((startStore_moves (K := .plain) _).after (answerOwed_moves owed ..)).ordered id ?_
      have ahead : p.role ∈ s.rolesAhead d := accepted_role running
      refine applyDoor_ordered ((endRunning_moves (K := .plain) s).ordered id o) (fun v e is at_ => ?_) (fun v e is at_ => ?_)
      · exact h.inner v e d (List.mem_cons.2 (.inl at_.symm)) (is ▸ ahead)
      · exact h.outer v e d (List.mem_cons.2 (.inl at_.symm)) (is ▸ ahead)
    · exact (finishSettings_moves (K := { Scope.plain with clock := True }) (fun _ _ _ => trivial)
        (fun d p e => absurd ⟨d, p, e⟩ door) running).ordered id o
  all_goals exact o

/-! ## Starts and the loss of power (R111, R203) -/

/-- With no grant and every door at rest nothing moves. -/
theorem Ordered.at_rest (grants : ∀ d, t.grants.get d = none) (rest : ∀ d, (t.doors.get d).motion = .idle)
    (capacity : ∀ v, (t.vests.get v).occupants.length ≤ 2) (roles : RolesUnique t) : Ordered t :=
  ⟨fun d => .idle (rest d), fun d g grant => (by rw [grants] at grant; cases grant), capacity,
    fun v d e rd re => roles.inner v d e (rd ▸ List.mem_cons_self) (re ▸ List.mem_cons_self),
    fun v d e rd re => roles.outer v d e (rd ▸ List.mem_cons_self) (re ▸ List.mem_cons_self)⟩

theorem start_ordered (k : StartKind) (capacity : ∀ v, (s.vests.get v).occupants.length ≤ 2) (roles : RolesUnique (s.start k)) :
    Ordered (s.start k) :=
  .at_rest (by simp [State.start, State.mainStart]) (by simp [State.start, State.mainStart, Door.atStart_motion])
    (by simpa [State.start, State.mainStart] using capacity) roles

theorem losePower_ordered (written : Bool) (capacity : ∀ v, (s.vests.get v).occupants.length ≤ 2)
    (roles : RolesUnique (losePower written s)) : Ordered (losePower written s) :=
  .at_rest (by simp [losePower, State.mainStart]) (by simp [losePower, State.mainStart, Door.atStart_motion])
    (by simpa [losePower, State.mainStart] using capacity) roles

/-! ## Every step keeps the shape of the vestibules -/

theorem exec_ordered {c : Instr} (e : exec c s = .next t) (o : Ordered s) (overlaid : s.Overlaid) (roles : RolesUnique s) : Ordered t := by
  by_cases apart : (Scope.ofCommand s c).apart
  · have links (u : State) (lk : Link) (b : Bool) (h : Ordered u ∧ u.Overlaid) :
        Ordered { u with link := lk, hostPresent := b } ∧ State.Overlaid { u with link := lk, hostPresent := b } :=
      ⟨Lessens.ordered (s := u) (.frame rfl rfl rfl rfl) h.1, h.2⟩
    cases request : encodeRequest c with
    | some f =>
      rw [exec_request request] at e
      exact powered_keeps e o (takeRequest_reaches (P := fun u => Ordered u ∧ u.Overlaid) (fun _ => And.left) links
        (fun u h => performRequest_ordered c h.1 h.2) ⟨o, overlaid⟩)
    | none =>
    cases c with
    | settingsWriteDone => exact settingsWriteDone_ordered e o roles
    | byteReceived b stop =>
      cases stop with
      | true =>
        exact powered_keeps e o (takeByte_reaches (P := fun u => Ordered u ∧ u.Overlaid) (fun _ => And.left) links
          (fun u st h => answer_ordered st h.1) (fun u i h => performRequest_ordered i h.1 h.2) b ⟨o, overlaid⟩)
      | false => exact apart.elim
    | doorMode => cases request
    | doorDrive => cases request
    | _ => exact apart.elim
  · have after := exec_roles e roles
    cases exec_course e with
    | moves m => exact m.ordered apart o
    | restarts m => exact start_ordered _ (m.ordered apart o).capacity after
    | cold => exact start_ordered _ (by simp [State.coldRetention, Vestibule.empty]) after
    | warm off => exact start_ordered _ o.capacity after
    | loss w => exact losePower_ordered w o.capacity after

theorem DoorsShape.overlaid (h : DoorsShape s) : s.Overlaid := fun d => (h.doors d).overlay

/-- The second half of O57. -/
theorem step_vestibuleShape (doors : DoorsShape s) (vests : VestibuleShape s) (roles : RolesUnique s) (e : step s = .next t) :
    VestibuleShape t := by
  obtain rfl | ⟨c, rest, -, e⟩ := step_cases e
  · exact vests
  · have o : Ordered { s with pending := rest } := Lessens.ordered (s := s) (.frame rfl rfl rfl rfl) (.of_shapes doors vests roles)
    exact (exec_ordered e o doors.overlaid (roles.within (rolesWithin_same rfl rfl))).vestibules

/-- Settles O57: roles are asked for only where no other door has them, and a grant moves only where the vestibule has a place and the
other door none that moves. -/
theorem vestibuleShapeIsKept : Obligations.VestibuleShapeIsKept :=
  ⟨fun _ _ h e => step_rolesUnique h e, fun _ _ doors vests roles e => step_vestibuleShape doors vests roles e⟩

end Sys2Proof.Machine


/-! Refutation: a released grant that holds nobody and waits for a re-check is released a second time. -/

namespace Sys2Proof.Machine

/-! ## A door RELEASED to a grant without holders, whose record says that a re-check is owed (R119, R145) -/

/-- A released exit grant of nobody, with a re-check: neither is excluded by the shape of the doors. -/
def Grant.emptyRechecked : Grant := ⟨[], .exit, .inside, .released, none, some ⟨false⟩⟩

/-- A door in RELEASED with its release deadline. -/
def Door.releasedUntil (dl : Nat) : Door := { Door.unused with state := .released, bolt := .withdrawn, releaseDl := some dl }

/-- The part with one perimeter door, RELEASED to that grant, before its DEFERRED_RECHECK. -/
def State.recheckedTwice : State :=
  { State.reset with
    nv := Nv.blank.writeSettings (.door 0 { DoorSettings.default with role := .perimeter })
    doors := put State.reset.doors 0 (.releasedUntil 8000)
    grants := put State.reset.grants 0 (some .emptyRechecked)
    pending := [.deferredRecheck 0] }

theorem recheckedTwice_door (d : DoorId) :
    State.recheckedTwice.doors.get d = if d = 0 then .releasedUntil 8000 else Door.unused := by
  simp [State.recheckedTwice, State.reset, put_get]

theorem recheckedTwice_grant (d : DoorId) :
    State.recheckedTwice.grants.get d = if d = 0 then some .emptyRechecked else none := by
  simp [State.recheckedTwice, State.reset, put_get]

theorem recheckedTwice_role (d : DoorId) : State.recheckedTwice.role d = if d = 0 then .perimeter else .unused := by
  simp only [State.role, State.doorSettings, State.recheckedTwice, Nv.writeSettings, put_get]
  split <;> simp [Nv.blank, DoorSettings.default]

theorem recheckedTwice_shape : DoorsShape State.recheckedTwice where
  doors d := by
    rw [recheckedTwice_door, recheckedTwice_role]
    split <;> constructor <;> simp [Door.releasedUntil, Door.unused, DriveFollowsBolt]
  releasing d := by
    rw [State.grantStage, recheckedTwice_grant, recheckedTwice_door]
    split <;> simp [Grant.emptyRechecked, Door.releasedUntil, Door.unused]
  released d := by
    rw [State.grantStage, recheckedTwice_grant, recheckedTwice_door]
    split <;> simp [Grant.emptyRechecked, Door.releasedUntil, Door.unused]
  waiting d g h := by
    rw [recheckedTwice_grant] at h
    split at h <;> cases h
    simp [Grant.emptyRechecked, GrantStage.waits]

/-- The re-check of nobody passes, and the release begins again: the door is RELEASING and keeps its release deadline. -/
theorem recheckedTwice_step : ∃ t, step State.recheckedTwice = .next t ∧ (t.doors.get 0).state = .releasing ∧
    (t.doors.get 0).releaseDl = some 8000 := ⟨_, rfl, by decide, by decide⟩

/-- Refutes O56: DEFERRED_RECHECK of a released grant without holders puts its door in RELEASING with a release deadline. -/
theorem not_doorShapesAreKept : ¬ Obligations.DoorShapesAreKept := by
  intro h
  obtain ⟨t, next, state, deadline⟩ := recheckedTwice_step
  have shape := (h.2 _ t recheckedTwice_shape next).doors 0
  have released := shape.release.1 (by rw [deadline]; rfl)
  rw [state] at released
  cases released

end Sys2Proof.Machine


/-! The state after reset has every shape. -/

namespace Sys2Proof.Machine

theorem reset_role (d : DoorId) : State.reset.role d = .unused := by
  simp [State.role, State.doorSettings, State.reset, Nv.blank, DoorSettings.default]

theorem reset_rolesAhead {d : DoorId} {r : Role} (h : r ∈ State.reset.rolesAhead d) : r = .unused := by
  rw [State.mem_rolesAhead] at h
  rcases h with h | ⟨p, owed, h, -⟩
  · exact h ▸ reset_role d
  · cases h

theorem reset_noGrant (d : DoorId) : State.reset.grants.get d = none := by simp [State.reset]

theorem reset_door (d : DoorId) : State.reset.doors.get d = Door.unused := by simp [State.reset]

theorem reset_doorsShape : DoorsShape State.reset where
  doors d := by rw [reset_door, reset_role]; constructor <;> simp [Door.unused, DriveFollowsBolt]
  releasing d := by simp [State.grantStage, reset_noGrant, reset_door, Door.unused]
  released d := by simp [State.grantStage, reset_noGrant, reset_door, Door.unused]
  waiting d g h := by simp [reset_noGrant] at h

theorem reset_vestibuleShape : VestibuleShape State.reset where
  capacity v := by simp [State.reset, Vestibule.empty]
  inbound v d g h := by simp [reset_role] at h
  outbound v d g h := by simp [reset_role] at h
  interlock v d e h := by simp [reset_role] at h

theorem reset_tablesShape : TablesShape State.reset where
  locations := rfl
  credentials := rfl
  listed v := by simp [State.reset, Room.empty]
  assumedOut v := by simp [State.reset, Room.empty]
  direction v := by simp [State.reset, Vestibule.empty]
  inFlight := by decide
  pulseCount := by decide
  assigned z := by
    have free : ∀ b, State.reset.heldFor z b = false := fun b => by
      simp [State.heldFor, State.reset, Actuator.start, Nv.blank, Store.assigns, Store.accepted, Store.start]
    have none : (every 32).filter (State.reset.heldFor z) = [] := List.filter_eq_nil_iff.2 fun b _ => by simp [free]
    simp [none]

/-- Settles O60: reset holds one notice, no record and no occupant, and every door is UNUSED. -/
theorem resetStateIsSafe : Obligations.ResetStateIsSafe where
  queue := take_bounds (s := { State.reset with link := Link.start }) Notice.deviceStartCold rfl (start_queueBounds rfl)
  bounds := countdownBounds_start (by simp [State.reset, Nv.blank]) rfl (by simp [State.reset, Zone.start])
  countdown z := by
    have start : State.reset.zones.get z = Zone.atStart false false := by simp [State.reset, Zone.atStart, Zone.start]
    exact start ▸ Zone.atStart_shape false false
  clock := ⟨by decide, by decide, by decide, rfl⟩
  tables := reset_tablesShape
  badges := Nv.BadgesDistinct.idle ⟨rfl, fun _ _ => rfl, fun _ _ h => absurd rfl h⟩ rfl
  drives d := by rw [reset_door]; exact drive_idle rfl
  doors := reset_doorsShape
  vestibules := reset_vestibuleShape
  roles := ⟨fun _ _ _ h _ => (nomatch reset_rolesAhead h), fun _ _ _ h _ => (nomatch reset_rolesAhead h)⟩

end Sys2Proof.Machine


/-! Proofs about every command, and about the starts and the loss of main power. -/

namespace Sys2Proof.Machine

variable {s t : State}

/-! ## Every command answers a next state (R201) -/

theorem exec_next (c : Instr) (s : State) : ∃ t, exec c s = .next t := by
  cases c <;> exact ⟨_, rfl⟩

/-- No course touches the queue of commands. -/
theorem Course.pending {c : Instr} (h : Course c s t) : t.pending = s.pending := by
  cases h with
  | moves m => exact m.steps.pending
  | restarts m => exact m.steps.pending
  | _ => rfl

theorem exec_unpowered {c : Instr} (off : s.powered = false) (cold : c ≠ .coldStart) (warm : ∀ ms, c ≠ .warmStart ms) :
    exec c s = .next s := by
  cases request : encodeRequest c with
  | some f => rw [exec_request request]; exact powered_off off
  | none =>
    cases c with
    | coldStart => exact absurd rfl cold
    | warmStart ms => exact absurd rfl (warm ms)
    | _ => exact powered_off off

/-- Settles O2: a command takes a course, and no course touches the queue; every command but a start asks for main power. -/
theorem everyCommandAnswersNextState : Obligations.EveryCommandAnswersNextState := by
  refine ⟨fun c s => ?_, fun c s => exec_unpowered⟩
  obtain ⟨t, e⟩ := exec_next c s
  exact ⟨t, e, (exec_course e).pending⟩

/-! ## Starts (R62, R93, R111, R161, R178, R203) -/

theorem atStart_zone (discharge isolate : Bool) : Zone.atStart discharge isolate =
    { state := if discharge then .discharged else if isolate then .isolated else .quiet
      latchA := false, latchB := false, degraded := false, countdown := none, override := false, peak := 0
      holdDl := none, stageDl := none, outstanding := [], fired := false
      isolate := isolate, discharge := discharge } := rfl

/-- An empty queue takes a notice of a kind without a mask. -/
theorem Link.take_of_empty {n : Notice} {lk : Link} (empty : lk.notices = []) (unmasked : n.kind ∉ lk.masks) :
    lk.take n = { lk with notices := [n] } := by
  simp [Link.take, empty, unmasked, coalesce, hasRoom, Config.maxNotices, Config.maxNonLife]

/-- A start sets its start values, whatever the retention domain holds. -/
theorem start_values (k : StartKind) (s : State) : StartValues k s (s.start k) where
  on := rfl
  kind := rfl
  time := rfl
  lines l := by simp [State.start, State.mainStart, LineRecord.start]
  arbiter := rfl
  loops l := by simp [State.start, State.mainStart, Loop.start]
  zones z := by simp [State.start, State.mainStart, atStart_zone]
  spent a h := by simp [State.start, State.mainStart, Actuator.atStart, Actuator.start, h]
  armed a z h hz := by simp [State.start, State.mainStart, Actuator.atStart, Actuator.start, h, hz]
  free a h hz := by simp [State.start, State.mainStart, Actuator.atStart, Actuator.start, h, hz]
  bank := rfl
  stage := rfl
  grants d := by simp [State.start, State.mainStart]
  host := rfl
  waiting := ⟨rfl, rfl⟩
  doors d := by
    have door (r : Role) : Door.atStart r =
        ⟨if r = .unused then .secure else .lineFault, .automatic, false, none, false, false, .thrown, .idle, 0, none, none⟩ := by
      unfold Door.atStart
      split <;> rfl
    have started : (s.start k).doors.get d = Door.atStart (s.role d) := by
      rw [State.start, raise_doors, State.mainStart, ofFn_get]
      rfl
    exact started.trans (door _)
  windows w := by simp [start_clock, State.clockAtStart, State.windowNow]
  mode := by rw [start_clock, modeGiven_eq]; rfl
  lone v := by
    simp [State.start, State.mainStart, State.loneAtStart]
    rfl
  link := by
    have stamp : State.now { s.mainStart with powered := true, lastStart := k } = 0 := Nat.zero_div _
    have minute : State.clockMinute { s.mainStart with powered := true, lastStart := k } = (s.start k).clockMinute := rfl
    rw [← minute, State.start, raise_link, Link.take_of_empty rfl List.not_mem_nil, stamp]
    rfl
  store := rfl
  stored := rfl
  queue := rfl

theorem mainStart_rooms (s : State) (v : RoomId) : ∃ lone, s.mainStart.rooms.get v = { s.rooms.get v with lone := lone } := by
  simp [State.mainStart, State.loneAtStart]

/-- The start values keep the retention domain, the clock's time with it (R203). -/
theorem mainStart_retained (s : State) : Retained s s.mainStart where
  listed v := by obtain ⟨lone, e⟩ := mainStart_rooms s v; rw [e]
  evidence v := by obtain ⟨lone, e⟩ := mainStart_rooms s v; rw [e]
  unknown v := by obtain ⟨lone, e⟩ := mainStart_rooms s v; rw [e]
  assumedOut v := by obtain ⟨lone, e⟩ := mainStart_rooms s v; rw [e]
  locations := rfl
  vestibules := rfl
  freeze := rfl
  validity := rfl
  override := rfl

theorem start_retained (k : StartKind) (s : State) : Retained s (s.start k) := { mainStart_retained s with }

theorem strongroomDoor_isSome_iff (s : State) (v : RoomId) :
    (s.strongroomDoor v).isSome = true ↔ ∃ d, s.role d = .strongroom v := by
  simp [State.strongroomDoor, List.find?_isSome, every]

/-- The time of day of the week clock runs through the weeks. -/
theorem total_advance (c : WeekClock) (ms : Nat) : (c.advance ms).total = (c.total + ms) % 604800000 := by
  simp only [WeekClock.total, WeekClock.advance, Config.minutesPerWeek]
  omega

theorem startCold_values (s : State) : StartValues .cold s (startCold s) := by
  have h := start_values .cold s.coldRetention
  exact { h with }

theorem startWarm_values (off : Nat) (s : State) : StartValues .warm s (startWarm off s) := by
  have h := start_values .warm { s with clock := s.clock.advance off }
  exact { h with }

/-- Settles O3: a start sets its start values over the retention domain, which a cold start empties and a warm start finds with its
clock counted on. -/
theorem startsSetStartValues : Obligations.StartsSetStartValues := by
  refine ⟨fun s => ⟨startCold s, rfl, startCold_values s, fun v => ?_, fun v => ?_, rfl, fun v => ?_, rfl, rfl, rfl, rfl, rfl, rfl, ?_⟩,
    fun s off => ⟨startWarm off s, rfl, startWarm_values off s, ?_, ?_, ?_⟩⟩
  · have h := start_retained .cold s.coldRetention
    exact ⟨(h.listed v).trans (by simp [State.coldRetention, Room.empty]), (h.evidence v).trans (by simp [State.coldRetention, Room.empty]),
      (h.assumedOut v).trans (by simp [State.coldRetention, Room.empty])⟩
  · rw [← strongroomDoor_isSome_iff, show (startCold s).rooms = (s.coldRetention.start .cold).rooms from rfl,
      (start_retained .cold s.coldRetention).unknown v]
    simp [State.coldRetention]
  · simp [startCold, State.start, State.mainStart, State.coldRetention, Vestibule.empty]
  · rfl
  · exact { start_retained .warm { s with clock := s.clock.advance off } with }
  · rw [startWarm, start_clock]
    exact total_advance s.clock off
  · rw [startWarm, start_clock]
    exact clockAtStart_shape (WeekClock.InRange.advance s.clock off)

/-! ## The loss of main power (R111, R201) -/

theorem atStart_drive (r : Role) : (Door.atStart r).drive = none := by
  unfold Door.atStart
  split <;> rfl

theorem atStart_energised (zone : Option ZoneId) (spent : Bool) : (Actuator.atStart zone spent).energised = false := by
  cases spent <;> cases zone <;> rfl

/-- Settles O4: a loss of main power writes the running operation or does not, and every drive goes with the start values. -/
theorem powerLossEndsOperationWhole : Obligations.PowerLossEndsOperationWhole := by
  intro s written on
  refine ⟨losePower written s, powered_on on, rfl, ?_, ?_, rfl, fun r h => ?_, fun h => ?_, rfl, rfl, rfl, fun d => ?_, fun a => ?_⟩
  · exact { mainStart_retained { s with nv := s.nvAtLoss written } with }
  · rfl
  · show s.nvAtLoss written = _
    rw [State.nvAtLoss, h]
  · show s.nvAtLoss written = _
    rw [State.nvAtLoss, h]
  · simpa [losePower, State.mainStart] using atStart_drive _
  · simpa [losePower, State.mainStart] using atStart_energised _ _

end Sys2Proof.Machine


/-! Proofs about the codes of the converter and the bands they fall in. -/

namespace Sys2Proof.Machine

/-! ## Codes (R3) -/

/-- The code of a resistance is its rounded share, which never passes 1023. -/
theorem codeOf_some (r : Nat) : codeOf (some r) = (2 * 1023 * r + (r + 4700)) / (2 * (r + 4700)) := by
  have bound : (2 * 1023 * r + (r + 4700)) / (2 * (r + 4700)) < 1024 := Nat.div_lt_of_lt_mul (by omega)
  simp only [codeOf, Config.maxCode, Config.seriesOhms]
  omega

theorem codeOf_le (r : Nat) : codeOf (some r) ≤ 1023 := Nat.min_le_left _ _

theorem codeOf_lower (r : Nat) : 2 * codeOf (some r) * (r + 4700) ≤ 2 * 1023 * r + (r + 4700) := by
  rw [codeOf_some, Nat.mul_right_comm, Nat.mul_comm]
  exact Nat.div_mul_le_self _ _

theorem codeOf_upper (r : Nat) : 2 * 1023 * r + (r + 4700) < 2 * (codeOf (some r) + 1) * (r + 4700) := by
  rw [codeOf_some, Nat.mul_right_comm 2 _ (r + 4700)]
  exact Nat.lt_mul_div_succ _ (show 0 < 2 * (r + 4700) by omega)

/-- A larger resistance has no smaller code: what it adds to the share is at least what it adds to the divisor. -/
theorem codeOf_mono {q r : Nat} (le : q ≤ r) : codeOf (some q) ≤ codeOf (some r) := by
  obtain ⟨more, rfl⟩ := Nat.exists_eq_add_of_le le
  rw [codeOf_some (q + more), Nat.le_div_iff_mul_le (by omega)]
  have share := codeOf_lower q
  have rise : codeOf (some q) * more ≤ 1023 * more := Nat.mul_le_mul_right _ (codeOf_le q)
  calc codeOf (some q) * (2 * (q + more + 4700))
    _ = 2 * codeOf (some q) * (q + 4700) + 2 * (codeOf (some q) * more) := by grind
    _ ≤ 2 * 1023 * q + (q + 4700) + 2 * (1023 * more) := Nat.add_le_add share (Nat.mul_le_mul_left 2 rise)
    _ ≤ 2 * 1023 * (q + more) + (q + more + 4700) := by omega

/-! ## Bands (R5, R9) -/

theorem within_zero {b : BandRange} {code : Nat} : b.within 0 code = true ↔ b.low ≤ code ∧ code ≤ b.high := by
  simp [BandRange.within]

/-- Two bands that lie apart do not both hold a code. -/
theorem BandRange.apart_disjoint {a b : BandRange} {code : Nat} (h : a.apart b = true) (ha : a.within 0 code = true) :
    b.within 0 code = false := by
  rw [Bool.eq_false_iff, ne_eq, within_zero]
  simp only [BandRange.apart, Bool.or_eq_true, decide_eq_true_eq] at h
  rw [within_zero] at ha
  omega

/-- The band found for a code is any band that holds it, where the bands lie apart. -/
theorem find?_within {bands : List BandRange} {code : Nat} (apart : bandsApart bands = true) {r : BandRange} (mem : r ∈ bands)
    (holds : r.within 0 code = true) : bands.find? (fun r => r.within 0 code) = some r := by
  induction bands with
  | nil => cases mem
  | cons b rest ih =>
    simp only [bandsApart, Bool.and_eq_true, List.all_eq_true] at apart
    obtain ⟨head, tail⟩ := apart
    rcases List.mem_cons.1 mem with rfl | mem
    · exact List.find?_cons_of_pos holds
    · have other : b.within 0 code = false := by
        rw [Bool.eq_false_iff]
        intro both
        rw [BandRange.apart_disjoint (head r mem) both] at holds
        cases holds
      rw [List.find?_cons_of_neg (by simp [other]), ih tail mem]

/-- Settles O5: the code is a rounded quotient, and a code lies in at most one of the bands. -/
theorem codesRoundAndBandsClassify : Obligations.CodesRoundAndBandsClassify := by
  refine ⟨⟨rfl, fun r => ⟨codeOf_le r, codeOf_lower r, codeOf_upper r⟩, fun q r => codeOf_mono⟩, fun p code apart => ⟨?_, ?_⟩⟩
  · intro r mem low high
    rw [ClassParams.classify, find?_within apart mem (within_zero.2 ⟨low, high⟩)]
  · intro outside
    have missed : p.bands.find? (fun r => r.within 0 code) = none :=
      List.find?_eq_none.2 fun r mem holds => outside r mem (within_zero.1 holds)
    rw [ClassParams.classify, missed]

end Sys2Proof.Machine


/-! Proofs about the end of a conversion: the line record, the arbiter, and the end of settling. -/

namespace Sys2Proof.Machine

variable {s t : State}

/-! ## Lines and their owners (R1) -/

@[simp] theorem lineOwner_loopLine : ∀ k, lineOwner (loopLine k) = .loop k := by decide
@[simp] theorem lineOwner_detectorALine : ∀ z, lineOwner (detectorALine z) = .detector z false := by decide
@[simp] theorem lineOwner_detectorBLine : ∀ z, lineOwner (detectorBLine z) = .detector z true := by decide
@[simp] theorem lineOwner_stationLine : ∀ z, lineOwner (stationLine z) = .station z := by decide
@[simp] theorem lineOwner_doorLine : ∀ d, lineOwner (doorLine d) = .door d := by decide

@[simp] theorem loopOfLine_loopLine (k : LoopId) : loopOfLine (loopLine k) = some k := by simp [loopOfLine]

theorem loopOfLine_eq_some : ∀ l k, loopOfLine l = some k → l = loopLine k := by decide

theorem loopLine_injective : ∀ j k, loopLine j = loopLine k → j = k := by decide

/-! ## What no band change reaches -/

theorem BandOnly.outstanding (h : BandOnly s t) : t.link.outstanding = s.link.outstanding := by
  obtain ⟨_, _, _, _, _, _, _, _, rfl, _, _, _, _, _, _, _, rfl⟩ := h; rfl

theorem BandOnly.withLines {lines : Vector LineRecord 64} (h : BandOnly s t) :
    BandOnly { s with lines := lines } { t with lines := lines } := by
  obtain ⟨_, _, _, _, _, _, _, _, rfl, _, _, _, _, _, _, _, rfl⟩ := h
  exact ⟨_, _, _, _, _, _, _, _, rfl, ⟨_, _, _, _, _, _, _, rfl⟩⟩

/-! ## The line supervisor's own part of a conversion (R3, R8 to R11, R15, R18) -/

/-- The record that the end of a conversion leaves for its line; before READY it holds a confirmation back. -/
def State.convertedLine (l : LineId) (code : Nat) (s : State) : LineRecord :=
  let x := s.lines.get l
  let y := x.convert (s.classParams (lineClass l)) code s.now
  if x.confirmed ≠ y.confirmed ∧ s.sup.ready = false then { y with heldAt := some s.now } else y

/-- The fast-follow times after a conversion of a line. -/
def State.followed (l : LineId) (code : Nat) (s : State) : Vector (Option Nat) 8 :=
  let p := s.classParams (lineClass l)
  match loopOfLine l with
  | some k => put s.sup.fastFollow k
      (followAfter p (s.lines.get l) ((s.lines.get l).convert p code s.now) code s.now (s.sup.fastFollow.get k))
  | none => s.sup.fastFollow

/-- The line record and the fast-follow of a conversion stand, and no owner has been told. -/
def codeRecorded (l : LineId) (code : Nat) (s : State) : State :=
  { s with lines := put s.lines l (s.convertedLine l code), sup := { s.sup with fastFollow := s.followed l code } }

theorem convertedLine_confirmed (l : LineId) (code : Nat) (s : State) :
    (s.convertedLine l code).confirmed = ((s.lines.get l).convert (s.classParams (lineClass l)) code s.now).confirmed := by
  unfold State.convertedLine
  dsimp only
  split <;> rfl

/-- The owner is told of a confirmed change at READY alone. -/
theorem takeCode_eq (l : LineId) (code : Nat) (s : State) :
    takeCode l code s =
      if (s.lines.get l).confirmed ≠ (s.convertedLine l code).confirmed ∧ s.sup.ready = true then
        bandChange l (s.convertedLine l code).confirmed (s.lines.get l).confirmed s.now (codeRecorded l code s)
      else codeRecorded l code s := by
  rw [convertedLine_confirmed]
  unfold takeCode
  extract_lets p x y changed held sup told
  have line : held = { s with lines := put s.lines l (s.convertedLine l code) } := by
    simp [held, changed, State.convertedLine, State.setLine, x, y, p]
  have recorded : told = codeRecorded l code s := by
    simp only [told, line, codeRecorded, State.followed]
    cases loopOfLine l <;> rfl
  rw [recorded]
  simp [changed, x, y, p, codeRecorded]
  rfl

theorem takeCode_reach (l : LineId) (code : Nat) (s : State) : BandOnly (codeRecorded l code s) (takeCode l code s) := by
  rw [takeCode_eq]
  exact .ite (bandChange_reach ..) (.refl _)

/-! ## The reply of a measurement (R16, R20) -/

theorem answerMeasure_silent {cv : Conversion} (code : Nat) (h : cv.grantor ≠ .measurement true ∨ s.link.outstanding = none) :
    answerMeasure cv code s = s := by
  unfold answerMeasure
  split
  next owed measures =>
    cases owed with
    | false => rfl
    | true =>
      have unheard := h.resolve_left (not_not_intro measures)
      simp [answerOwed, reply, unheard]
  · rfl
  · rfl

theorem answerMeasure_owed {cv : Conversion} {r : Request} (code : Nat) (h : cv.grantor = .measurement true)
    (outstanding : s.link.outstanding = some r) :
    answerMeasure cv code s = { s with link := { s.link with tx := s.link.tx ++
      [⟨r.kind, r.tag, .ok, .measured cv.line code (estimateOf code) (s.band cv.line), .plain⟩] } } := by
  simp only [answerMeasure, h, answerOwed, if_true, reply_outstanding _ _ _ outstanding]

theorem answerMeasure_eq (cv : Conversion) (code : Nat) (s : State) :
    answerMeasure cv code s = { s with link := { s.link with tx := (answerMeasure cv code s).link.tx } } := by
  by_cases owed : cv.grantor = .measurement true
  · cases outstanding : s.link.outstanding with
    | none => rw [answerMeasure_silent code (.inr outstanding)]
    | some r => rw [answerMeasure_owed code owed outstanding]
  · rw [answerMeasure_silent code (.inl owed)]

/-! ## The end of a conversion (R3, R13, R14, R18, R19) -/

theorem tick_eq (s : State) : s.tick = { s with quarters := s.quarters + 1, zones := s.tick.zones, clock := s.tick.clock } := by
  unfold State.tick
  dsimp only
  split <;> rfl

@[simp] theorem tick_lines (s : State) : s.tick.lines = s.lines := by rw [tick_eq]
@[simp] theorem tick_sup (s : State) : s.tick.sup = s.sup := by rw [tick_eq]
@[simp] theorem tick_link (s : State) : s.tick.link = s.link := by rw [tick_eq]
@[simp] theorem tick_nv (s : State) : s.tick.nv = s.nv := by rw [tick_eq]
@[simp] theorem tick_stage (s : State) : s.tick.stage = s.stage := by rw [tick_eq]
@[simp] theorem tick_pending (s : State) : s.tick.pending = s.pending := by rw [tick_eq]
@[simp] theorem tick_quarters (s : State) : s.tick.quarters = s.quarters + 1 := by rw [tick_eq]
@[simp] theorem tick_now (s : State) : s.tick.now = (s.quarters + 1) / 4 := by rw [State.now, tick_quarters]; rfl
@[simp] theorem tick_classParams (c : LineClass) (s : State) : s.tick.classParams c = s.classParams c := by
  rw [State.classParams, tick_nv]; rfl

/-- The line, its owner and the measurement have had the code of a conversion; the arbiter has not moved on. -/
def State.afterCode (ohms : Option Nat) (s : State) : State :=
  answerMeasure s.sup.converting (codeOf ohms) (takeCode s.sup.converting.line (codeOf ohms) s.tick)

/-- The conversion under way ends the third full scan. -/
abbrev State.endsSettling (s : State) : Prop := s.sup.endsScan = true ∧ s.sup.ready = false ∧ s.sup.fullScans + 1 = 3

/-- The supervisor at the grant that follows a conversion. -/
def State.supAtGrant (ohms : Option Nat) (s : State) : Supervisor :=
  { s.sup with
    fastFollow := s.tick.followed s.sup.converting.line (codeOf ohms)
    pointer := if s.sup.converting.grantor = .scan then s.sup.pointer + 1 else s.sup.pointer
    fullScans := if s.sup.converting.grantor = .scan ∧ s.sup.pointer = 63 ∧ s.sup.ready = false then s.sup.fullScans + 1
      else s.sup.fullScans
    ready := s.sup.ready || decide (s.sup.converting.grantor = .scan ∧ s.sup.pointer = 63 ∧ s.sup.fullScans + 1 = 3) }

/-- One line's part in the end of settling: what it holds back is handed to its owner. -/
def handHeld (l : LineId) (s : State) : State :=
  match (s.lines.get l).heldAt with
  | some time => bandChange l (s.lines.get l).confirmed .unknown time (s.setLine l { s.lines.get l with heldAt := none })
  | none => s

theorem handHeld_reach (l : LineId) (s : State) : BandOnly (s.setLine l { s.lines.get l with heldAt := none }) (handHeld l s) := by
  unfold handHeld
  split
  · exact bandChange_reach ..
  next unheld =>
    have same : s.setLine l { s.lines.get l with heldAt := none } = s := by
      rw [← unheld]
      exact congrArg (fun lines => { s with lines := lines }) (put_same _ _)
    rw [same]
    exact .refl s

/-- The record of a line that holds nothing back. -/
def LineRecord.unheld (x : LineRecord) : LineRecord := { x with heldAt := none }

/-- Every line, in ascending number, hands over what it holds back. -/
def heldHanded (s : State) : State := (every 64).foldl (fun u l => handHeld l u) s

/-- What the lines of a list hold back is handed over, and nothing else happens to any line. -/
theorem foldl_handHeld_reach (ls : List LineId) (s : State) : ∃ lines,
    BandOnly { s with lines := lines } (ls.foldl (fun u l => handHeld l u) s) ∧
    ∀ m, lines.get m = if m ∈ ls then (s.lines.get m).unheld else s.lines.get m := by
  induction ls generalizing s with
  | nil => exact ⟨s.lines, .refl s, fun m => by simp⟩
  | cons l rest ih =>
    obtain ⟨lines, reach, each⟩ := ih (handHeld l s)
    have first := handHeld_reach l s
    refine ⟨lines, .trans (first.withLines (lines := lines)) reach, fun m => ?_⟩
    rw [each m, first.lines]
    by_cases same : m = l
    · subst same
      simp [State.setLine, LineRecord.unheld]
    · simp [State.setLine, same]

theorem mem_every {n : Nat} (i : Fin n) : i ∈ every n := List.mem_finRange i

theorem heldHanded_reach (s : State) : BandOnly { s with lines := s.lines.map LineRecord.unheld } (heldHanded s) := by
  obtain ⟨lines, reach, each⟩ := foldl_handHeld_reach (every 64) s
  have cleared : lines = s.lines.map LineRecord.unheld :=
    table_ext fun m => by rw [each m, if_pos (mem_every m), map_get]
  rw [cleared] at reach
  exact reach

theorem endsScan_iff (x : Supervisor) : x.endsScan = true ↔ x.converting.grantor = .scan ∧ x.pointer = 63 := by
  unfold Supervisor.endsScan
  split
  next scan =>
    rw [scan, decide_eq_true_iff]
    exact ⟨fun last => ⟨rfl, Fin.ext last⟩, fun last => congrArg Fin.val last.2⟩
  next other => simp [other]
  next other => simp [other]

theorem advance_eq (x : Supervisor) :
    x.advance = { x with pointer := if x.converting.grantor = .scan then x.pointer + 1 else x.pointer } := by
  have next : nextLine x.pointer = x.pointer + 1 := by
    simp [nextLine, Fin.ext_iff, Fin.val_add]
  unfold Supervisor.advance
  split <;> simp_all

theorem afterCode_reach (ohms : Option Nat) (s : State) : ∃ tx,
    BandOnly (codeRecorded s.sup.converting.line (codeOf ohms) s.tick) (takeCode s.sup.converting.line (codeOf ohms) s.tick) ∧
    s.afterCode ohms = { takeCode s.sup.converting.line (codeOf ohms) s.tick with
      link := { (takeCode s.sup.converting.line (codeOf ohms) s.tick).link with tx := tx } } :=
  ⟨_, takeCode_reach .., answerMeasure_eq ..⟩

section
variable (ohms : Option Nat) (s : State)

theorem afterCode_sup : (s.afterCode ohms).sup = { s.sup with fastFollow := s.tick.followed s.sup.converting.line (codeOf ohms) } := by
  obtain ⟨tx, reach, e⟩ := afterCode_reach ohms s
  rw [e]
  exact reach.sup.trans (by simp [codeRecorded])

theorem afterCode_lines : (s.afterCode ohms).lines =
    put s.lines s.sup.converting.line (s.tick.convertedLine s.sup.converting.line (codeOf ohms)) := by
  obtain ⟨tx, reach, e⟩ := afterCode_reach ohms s
  rw [e]
  exact reach.lines.trans (by simp [codeRecorded])

theorem afterCode_quarters : (s.afterCode ohms).quarters = s.quarters + 1 := by
  obtain ⟨tx, reach, e⟩ := afterCode_reach ohms s
  rw [e]
  exact reach.quarters.trans (by simp [codeRecorded])

theorem afterCode_kept : (s.afterCode ohms).nv = s.nv ∧ (s.afterCode ohms).stage = s.stage ∧ (s.afterCode ohms).pending = s.pending := by
  obtain ⟨tx, reach, e⟩ := afterCode_reach ohms s
  rw [e]
  exact ⟨reach.nv.trans (by simp [codeRecorded]), reach.stage.trans (by simp [codeRecorded]), reach.pending.trans (by simp [codeRecorded])⟩

/-- The state with another supervisor record. -/
def State.withSup (x : Supervisor) (s : State) : State := { s with sup := x }

theorem endConversion_eq : endConversion ohms s =
    ((if s.sup.endsScan then endScan else id) ((s.afterCode ohms).withSup (s.afterCode ohms).sup.advance)).withSup
      (Supervisor.grant ((if s.sup.endsScan then endScan else id) ((s.afterCode ohms).withSup (s.afterCode ohms).sup.advance)).now
        ((if s.sup.endsScan then endScan else id) ((s.afterCode ohms).withSup (s.afterCode ohms).sup.advance)).sup) := by
  unfold endConversion
  dsimp only
  split <;> rfl

/-- What the end of a full scan counts before READY; the third full scan hands over what is held back. -/
theorem endScan_withSup (x : Supervisor) : endScan (s.withSup x) =
    if x.ready then s.withSup x
    else if x.fullScans + 1 = 3 then heldHanded (s.withSup { x with fullScans := x.fullScans + 1, ready := true })
    else s.withSup { x with fullScans := x.fullScans + 1 } := rfl

/-- The end of a full scan, where the conversion makes one, leaves the supervisor of the grant and hands over at the end of settling. -/
theorem scanEnded_eq : (if s.sup.endsScan then endScan else id) ((s.afterCode ohms).withSup (s.afterCode ohms).sup.advance) =
    if s.endsSettling then heldHanded ((s.afterCode ohms).withSup (s.supAtGrant ohms))
    else (s.afterCode ohms).withSup (s.supAtGrant ohms) := by
  have ended := endsScan_iff s.sup
  rw [advance_eq, afterCode_sup]
  by_cases ends : s.sup.endsScan = true
  · obtain ⟨scans, last⟩ := ended.1 ends
    rw [if_pos ends, endScan_withSup]
    rcases Bool.eq_false_or_eq_true s.sup.ready with ready | ready
    · simp [State.endsSettling, ready, State.supAtGrant]
    · by_cases third : s.sup.fullScans = 2
      · simp [State.endsSettling, State.supAtGrant, ends, scans, last, ready, third]
      · simp [State.endsSettling, State.supAtGrant, ends, scans, last, ready, third]
  · have going := mt ended.2 ends
    rw [if_neg ends, if_neg (fun h : s.endsSettling => ends h.1)]
    have uncounted : ¬(s.sup.converting.grantor = .scan ∧ s.sup.pointer = 63 ∧ s.sup.ready = false) := fun h => going ⟨h.1, h.2.1⟩
    have settled : ¬(s.sup.converting.grantor = .scan ∧ s.sup.pointer = 63 ∧ s.sup.fullScans + 1 = 3) := fun h => going ⟨h.1, h.2.1⟩
    simp only [State.supAtGrant, if_neg uncounted, decide_eq_false settled, Bool.or_false]
    rfl

@[simp] theorem withSup_sup (x : Supervisor) : (s.withSup x).sup = x := rfl
@[simp] theorem withSup_lines (x : Supervisor) : (s.withSup x).lines = s.lines := rfl
@[simp] theorem withSup_quarters (x : Supervisor) : (s.withSup x).quarters = s.quarters := rfl
@[simp] theorem withSup_nv (x : Supervisor) : (s.withSup x).nv = s.nv := rfl
@[simp] theorem withSup_stage (x : Supervisor) : (s.withSup x).stage = s.stage := rfl
@[simp] theorem withSup_pending (x : Supervisor) : (s.withSup x).pending = s.pending := rfl
@[simp] theorem withSup_withSup (x y : Supervisor) : (s.withSup x).withSup y = s.withSup y := rfl

/-- A conversion that does not end settling moves the arbiter on and grants. -/
theorem endConversion_going (going : ¬s.endsSettling) :
    endConversion ohms s = (s.afterCode ohms).withSup ((s.supAtGrant ohms).grant ((s.quarters + 1) / 4)) := by
  have now : State.now ((s.afterCode ohms).withSup (s.supAtGrant ohms)) = (s.quarters + 1) / 4 := by
    rw [State.now, State.withSup, afterCode_quarters]
    rfl
  rw [endConversion_eq, scanEnded_eq, if_neg going, now]
  rfl

/-- The one that ends settling hands over what the lines hold back before it grants. -/
theorem endConversion_settling (ends : s.endsSettling) :
    endConversion ohms s = State.withSup ((s.supAtGrant ohms).grant ((s.quarters + 1) / 4))
      (heldHanded ((s.afterCode ohms).withSup (s.supAtGrant ohms))) := by
  have reach := heldHanded_reach ((s.afterCode ohms).withSup (s.supAtGrant ohms))
  rw [endConversion_eq, scanEnded_eq, if_pos ends, State.now, reach.quarters, reach.sup]
  simp only [State.withSup, afterCode_quarters]
  rfl

theorem endConversion_sup : (endConversion ohms s).sup = (s.supAtGrant ohms).grant ((s.quarters + 1) / 4) := by
  by_cases ends : s.endsSettling
  · rw [endConversion_settling ohms s ends, withSup_sup]
  · rw [endConversion_going ohms s ends, withSup_sup]

theorem endConversion_kept : (endConversion ohms s).quarters = s.quarters + 1 ∧ (endConversion ohms s).nv = s.nv ∧
    (endConversion ohms s).stage = s.stage ∧ (endConversion ohms s).pending = s.pending := by
  obtain ⟨nv, stage, pending⟩ := afterCode_kept ohms s
  by_cases ends : s.endsSettling
  · have reach := heldHanded_reach ((s.afterCode ohms).withSup (s.supAtGrant ohms))
    rw [endConversion_settling ohms s ends]
    simp only [withSup_quarters, withSup_nv, withSup_stage, withSup_pending, reach.quarters, reach.nv, reach.stage, reach.pending,
      afterCode_quarters, nv, stage, pending, and_self]
  · rw [endConversion_going ohms s ends]
    exact ⟨afterCode_quarters ohms s, nv, stage, pending⟩

/-- The lines after a conversion: the record of the one converted, every other as before; at the end of settling none holds a
confirmation back any more. -/
theorem endConversion_lines (m : LineId) : (endConversion ohms s).lines.get m =
    (if s.endsSettling then LineRecord.unheld else id)
      ((put s.lines s.sup.converting.line (s.tick.convertedLine s.sup.converting.line (codeOf ohms))).get m) := by
  by_cases ends : s.endsSettling
  · have reach := heldHanded_reach ((s.afterCode ohms).withSup (s.supAtGrant ohms))
    have lines : (endConversion ohms s).lines = (s.afterCode ohms).lines.map LineRecord.unheld := by
      rw [endConversion_settling ohms s ends, withSup_lines, reach.lines]
      rfl
    rw [lines, map_get, afterCode_lines, if_pos ends]
  · rw [endConversion_going ohms s ends, if_neg ends, State.withSup, afterCode_lines]
    rfl

end

end Sys2Proof.Machine


/-! Proofs about the grants of the converter arbiter. -/

namespace Sys2Proof.Machine

variable {s t : State}

/-! ## The due fast-follow loop (R13) -/

/-- `best` is what the arbiter takes among the loops of a list: none where none is due, else the earliest, the first among equals. -/
def Supervisor.Best (x : Supervisor) (now : Nat) (ks : List LoopId) : Option LoopId → Prop
  | none => ∀ j ∈ ks, ∀ u, x.fastFollow.get j = some u → now < u
  | some k => ∃ dl, x.fastFollow.get k = some dl ∧ dl ≤ now ∧ k ∈ ks ∧
      ∀ j ∈ ks, ∀ u, x.fastFollow.get j = some u → u ≤ now → dl < u ∨ (dl = u ∧ k ≤ j)

/-- A loop that is not due leaves the best as it is. -/
theorem Supervisor.Best.skip {x : Supervisor} {now : Nat} {ks : List LoopId} {best : Option LoopId} {k : LoopId}
    (h : x.Best now ks best) (later : ∀ u, x.fastFollow.get k = some u → now < u) : x.Best now (ks ++ [k]) best := by
  cases best with
  | none => exact List.forall_mem_append.2 ⟨h, List.forall_mem_singleton.2 later⟩
  | some i =>
    obtain ⟨dl, at_i, le, mem, least⟩ := h
    exact ⟨dl, at_i, le, List.mem_append_left _ mem, List.forall_mem_append.2
      ⟨least, List.forall_mem_singleton.2 fun u e ule => absurd ule (Nat.not_le.2 (later u e))⟩⟩

/-- The next loop by number is weighed against the best so far. -/
theorem Supervisor.Best.earlierDue {x : Supervisor} {now : Nat} {ks : List LoopId} {best : Option LoopId} {k : LoopId}
    (h : x.Best now ks best) (after : ∀ j ∈ ks, j < k) : x.Best now (ks ++ [k]) (earlierDue now x best k) := by
  have last : k ∈ ks ++ [k] := by simp
  unfold Machine.earlierDue
  cases time : x.fastFollow.get k with
  | none => exact h.skip (by simp [time])
  | some t =>
    have self : ∀ u, x.fastFollow.get k = some u → u = t := fun u e => (Option.some.inj (time.symm.trans e)).symm
    by_cases early : now < t
    · simp only [if_pos early]
      exact h.skip fun u e => self u e ▸ early
    have reached := Nat.not_lt.1 early
    simp only [if_neg early]
    cases best with
    | none =>
      exact ⟨t, time, reached, last, List.forall_mem_append.2 ⟨fun j mem u e ule => absurd ule (Nat.not_le.2 (h j mem u e)),
        List.forall_mem_singleton.2 fun u e _ => .inr ⟨(self u e).symm, Nat.le_refl _⟩⟩⟩
    | some i =>
      obtain ⟨dl, at_i, le, mem, least⟩ := h
      simp only [at_i]
      by_cases earlier : t < dl
      · rw [if_pos earlier]
        refine ⟨t, time, reached, last, List.forall_mem_append.2 ⟨fun j mem u e ule => .inl ?_,
          List.forall_mem_singleton.2 fun u e _ => .inr ⟨(self u e).symm, Nat.le_refl _⟩⟩⟩
        have := least j mem u e ule
        omega
      · rw [if_neg earlier]
        refine ⟨dl, at_i, le, List.mem_append_left _ mem, List.forall_mem_append.2 ⟨least,
          List.forall_mem_singleton.2 fun u e _ => ?_⟩⟩
        rw [self u e]
        exact (Nat.lt_or_eq_of_le (Nat.not_lt.1 earlier)).imp_right fun same => ⟨same, Nat.le_of_lt (after i mem)⟩

theorem foldl_earlierDue {x : Supervisor} {now : Nat} (ks done : List LoopId) {best : Option LoopId} (h : x.Best now done best)
    (rising : (done ++ ks).Pairwise (· < ·)) : x.Best now (done ++ ks) (ks.foldl (Machine.earlierDue now x) best) := by
  induction ks generalizing done best with
  | nil => simpa using h
  | cons k rest ih =>
    have next := h.earlierDue (k := k) fun j mem => (List.pairwise_append.1 rising).2.2 j mem k List.mem_cons_self
    rw [List.append_cons] at rising ⊢
    exact ih (done ++ [k]) next rising

/-- The arbiter takes the best of all loops. -/
theorem dueLoop_best (now : Nat) (x : Supervisor) : x.Best now (every 8) (x.dueLoop now) :=
  foldl_earlierDue (every 8) [] (by simp [Supervisor.Best]) (List.pairwise_lt_finRange 8)

/-! ## The scan (R14) -/

/-- The scan passes over followed lines as far as its fuel goes. -/
theorem skipFollowed_passes (x : Supervisor) (fuel : Nat) (l : LineId) : ∃ n ≤ fuel,
    (skipFollowed x fuel l).val = (l.val + n) % 64 ∧ (n = fuel ∨ x.following (skipFollowed x fuel l) = false) ∧
    ∀ m < n, ∀ j : LineId, j.val = (l.val + m) % 64 → x.following j = true := by
  induction fuel generalizing l with
  | zero => exact ⟨0, Nat.le_refl _, by simp [skipFollowed, Nat.mod_eq_of_lt l.isLt], .inl rfl, by simp⟩
  | succ fuel ih =>
    unfold skipFollowed
    by_cases followed : x.following l = true
    · obtain ⟨n, le, at_n, stops, passed⟩ := ih (nextLine l)
      rw [if_pos followed]
      have next : (nextLine l).val = (l.val + 1) % 64 := rfl
      refine ⟨n + 1, by omega, by omega, stops.imp_left (by omega), fun m lt j at_j => ?_⟩
      cases m with
      | zero =>
        have same : j = l := Fin.ext (by omega)
        exact same ▸ followed
      | succ m => exact passed m (by omega) j (by omega)
    · rw [if_neg followed]
      exact ⟨0, by omega, by simp [Nat.mod_eq_of_lt l.isLt], .inr (by simpa using followed), by simp⟩

/-- Only staff lines are followed. -/
theorem following_staff {x : Supervisor} {l : LineId} (h : x.following l = true) : 44 ≤ l.val ∧ l.val < 52 := by
  unfold Supervisor.following at h
  cases loop : loopOfLine l with
  | none => simp [loop] at h
  | some k =>
    rw [loopOfLine_eq_some l k loop]
    simp only [loopLine]
    omega

/-- Eight lines are skipped at most, so the scan stops at a line that is not followed. -/
theorem skipFollowed_stops (x : Supervisor) (l : LineId) : ∃ n : Nat,
    (skipFollowed x 8 l).val = (l.val + n) % 64 ∧ x.following (skipFollowed x 8 l) = false ∧
    ∀ (m : Nat) (j : LineId), m < n → j.val = (l.val + m) % 64 → x.following j = true := by
  obtain ⟨n, le, at_n, stops, passed⟩ := skipFollowed_passes x 8 l
  refine ⟨n, at_n, ?_, fun m j lt => passed m lt j⟩
  rcases stops with rfl | stops
  · rw [Bool.eq_false_iff]
    intro followed
    have ninth := following_staff followed
    have first := following_staff (passed 0 (by omega) ⟨(l.val + 0) % 64, by omega⟩ rfl)
    have eighth := following_staff (passed 7 (by omega) ⟨(l.val + 7) % 64, by omega⟩ rfl)
    simp only at first eighth
    omega
  · exact stops

/-! ## The grant (R13 to R15) -/

theorem stays_iff {p : ClassParams} {b : Band} {code : Nat} : p.stays b code = true ↔
    ∃ r ∈ p.bands, r.band = b ∧ r.low - p.hysteresis ≤ code ∧ code ≤ r.high + p.hysteresis := by
  simp [ClassParams.stays, BandRange.within]

theorem hasBand_iff {p : ClassParams} {b : Band} : p.hasBand b = true ↔ ∃ r ∈ p.bands, r.band = b := by
  simp [ClassParams.hasBand]

/-- The due time after a conversion: a loop leaves, is due again, or stays out (R15). -/
theorem followAfter_eq (p : ClassParams) (x y : LineRecord) (code stamp : Nat) (cur : Option Nat) :
    followAfter p x y code stamp cur =
      if x.confirmed ≠ y.confirmed ∧ (y.confirmed = .normal ∨ y.confirmed = .short ∨ y.confirmed = .opened) ∨
          x.confirmed = .normal ∧ p.stays .normal code = true then none
      else if cur.isSome = true ∨ x.confirmed = .normal ∧ p.hasBand .normal = true ∧ p.stays .normal code = false then some (stamp + 5)
      else none := by
  simp only [followAfter, Bool.or_eq_true, Bool.and_eq_true, decide_eq_true_eq, Bool.not_eq_true', or_assoc, and_assoc]
  rfl

theorem not_leaves {before confirmed : Band} {stays : Bool}
    (unleft : before = confirmed ∨ confirmed ≠ .normal ∧ confirmed ≠ .short ∧ confirmed ≠ .opened)
    (unstayed : before ≠ .normal ∨ stays = false) :
    ¬(before ≠ confirmed ∧ (confirmed = .normal ∨ confirmed = .short ∨ confirmed = .opened) ∨ before = .normal ∧ stays = true) := by
  rintro (⟨change, shown⟩ | ⟨normal, passes⟩)
  · rcases unleft with same | ⟨not_normal, not_short, not_opened⟩
    · exact change same
    · exact (shown.resolve_left not_normal).elim not_short not_opened
  · rcases unstayed with other | fails
    · exact other normal
    · exact absurd (passes.symm.trans fails) (by decide)

theorem followed_other {l : LineId} {code : Nat} {k : LoopId} (h : loopLine k ≠ l) :
    (s.followed l code).get k = s.sup.fastFollow.get k := by
  unfold State.followed
  dsimp only
  cases loop : loopOfLine l with
  | none => rfl
  | some j =>
    have line := loopOfLine_eq_some l j loop
    exact put_get_other _ _ fun e => h (by rw [line, e])

@[simp] theorem lineClass_loopLine (k : LoopId) : lineClass (loopLine k) = .staff := by simp [lineClass]

theorem followed_loop (code : Nat) (k : LoopId) (s : State) : (s.followed (loopLine k) code).get k =
    followAfter (s.classParams .staff) (s.lines.get (loopLine k)) (s.convertedLine (loopLine k) code) code s.now
      (s.sup.fastFollow.get k) := by
  simp only [State.followed, loopOfLine_loopLine, put_get_same, lineClass_loopLine, followAfter, convertedLine_confirmed]

theorem endConversion_confirmed (ohms : Option Nat) (s : State) :
    ((endConversion ohms s).lines.get s.sup.converting.line).confirmed =
      (s.tick.convertedLine s.sup.converting.line (codeOf ohms)).confirmed := by
  rw [endConversion_lines, put_get_same]
  split <;> rfl

theorem dueLoop_none {x : Supervisor} {now : Nat} (none_due : ∀ k dl, x.fastFollow.get k = some dl → now < dl) : x.dueLoop now = none := by
  have best := dueLoop_best now x
  cases due : x.dueLoop now with
  | none => rfl
  | some j =>
    rw [due] at best
    obtain ⟨time, at_j, reached, -⟩ := best
    exact absurd reached (Nat.not_le.2 (none_due j time at_j))

/-- Settles O8: the best due loop, else the measurement, else the first line of the scan that is not followed; the supervisor at the
grant is the one that the conversion leaves. -/
theorem arbiterGrantsInOrder : Obligations.ArbiterGrantsInOrder := by
  refine ⟨fun x now => ⟨?_, fun none_due => ⟨fun m pending => ?_, fun empty => ?_⟩⟩, ?_⟩
  · rintro ⟨k, dl, at_k, le⟩
    have best := dueLoop_best now x
    cases due : x.dueLoop now with
    | none =>
      rw [due] at best
      exact absurd le (Nat.not_le.2 (best k (mem_every k) dl at_k))
    | some j =>
      rw [due] at best
      obtain ⟨time, at_j, reached, -, least⟩ := best
      exact ⟨j, time, by simp [Supervisor.grant, due], at_j, reached, fun i u => least i (mem_every i) u⟩
  · simp [Supervisor.grant, dueLoop_none none_due, pending]
  · obtain ⟨n, at_n, stops, passed⟩ := skipFollowed_stops x x.pointer
    exact ⟨n, _, at_n, stops, passed, by simp [Supervisor.grant, dueLoop_none none_due, empty]⟩
  · intro s t ohms on e
    obtain rfl : endConversion ohms s = t := Host.Outcome.next.inj ((powered_on on).symm.trans e)
    refine ⟨s.tick.followed s.sup.converting.line (codeOf ohms), endConversion_sup ohms s, fun k other => ?_,
      fun k p before confirmed stays line params at_before at_confirmed stays_eq => ?_⟩
    · rw [followed_other other, tick_sup]
    · have test : p.stays .normal (codeOf ohms) = stays := Bool.eq_iff_iff.2 (stays_iff.trans stays_eq.symm)
      have after : (s.tick.convertedLine (loopLine k) (codeOf ohms)).confirmed = confirmed := by
        rw [← at_confirmed, line, endConversion_confirmed]
      rw [← line, followed_loop]
      simp only [followAfter_eq, tick_classParams, tick_lines, tick_sup, tick_now, params, at_before, after, test, ← hasBand_iff]
      refine ⟨fun leaves => if_pos leaves, fun unleft unstayed => ?_⟩
      rw [if_neg (not_leaves unleft unstayed)]
      refine ⟨fun follows => if_pos (follows.imp_right fun ⟨normal, has⟩ => ⟨normal, has, unstayed.resolve_left (not_not_intro normal)⟩),
        fun unfollowed unable => if_neg ?_⟩
      · rintro (following | ⟨normal, has, -⟩)
        · simp [unfollowed] at following
        · obtain ⟨r, mem, name⟩ := hasBand_iff.1 has
          exact unable.elim (fun other => other normal) (fun bandless => bandless r mem name)

end Sys2Proof.Machine


/-! Proofs about the end of settling, and about what a conversion does to its line and to the rest of the part. -/

namespace Sys2Proof.Machine

variable {s t : State}

/-! ## The grant leaves the count of scans and READY -/

theorem grant_settling (now : Nat) (x : Supervisor) : (x.grant now).ready = x.ready ∧ (x.grant now).fullScans = x.fullScans ∧
    (x.grant now).fastFollow = x.fastFollow := by
  unfold Supervisor.grant
  split
  · exact ⟨rfl, rfl, rfl⟩
  · split <;> exact ⟨rfl, rfl, rfl⟩

/-! ## The record of a converted line (R3, R8 to R10, R18) -/

theorem convert_heldAt (p : ClassParams) (code stamp : Nat) (x : LineRecord) : (x.convert p code stamp).heldAt = x.heldAt := by
  have judged (y : LineRecord) : (y.judge p code).heldAt = y.heldAt := by
    unfold LineRecord.judge
    dsimp only
    split
    · rfl
    · split
      · rfl
      · split <;> rfl
  unfold LineRecord.convert
  dsimp only
  split <;> exact judged _

/-- The band, the candidate and the confirm count after a conversion, and its code and stamp. -/
theorem convert_eq (p : ClassParams) (code stamp : Nat) (x : LineRecord) : ∃ confirmed candidate count,
    x.convert p code stamp = ⟨confirmed, candidate, count, some code, some stamp, x.heldAt⟩ ∧
    (confirmed, candidate, count) =
      if p.stays x.confirmed code = true ∨ p.classify code = x.confirmed then (x.confirmed, none, 0)
      else if p.confirm ≤ (if x.candidate = some (p.classify code) then x.count + 1 else 1) then (p.classify code, none, 0)
      else (x.confirmed, some (p.classify code), if x.candidate = some (p.classify code) then x.count + 1 else 1) := by
  unfold LineRecord.convert LineRecord.judge LineRecord.reached
  dsimp only
  by_cases stays : p.stays x.confirmed code = true
  · exact ⟨_, _, _, by simp only [if_pos stays]; exact ⟨rfl, by rw [if_pos (.inl stays)]⟩⟩
  by_cases same : p.classify code = x.confirmed
  · exact ⟨_, _, _, by simp only [if_neg stays, if_pos same]; exact ⟨rfl, by rw [if_pos (.inr same)]⟩⟩
  by_cases again : x.candidate = some (p.classify code)
  · by_cases enough : p.confirm ≤ x.count + 1
    · exact ⟨p.classify code, none, 0, by simp [stays, same, again, enough]⟩
    · exact ⟨x.confirmed, some (p.classify code), x.count + 1, by simp [stays, same, again, enough]⟩
  · by_cases enough : p.confirm ≤ 1
    · exact ⟨p.classify code, none, 0, by simp [stays, same, again, enough]⟩
    · exact ⟨x.confirmed, some (p.classify code), 1, by simp [stays, same, again, enough]⟩

theorem convertedLine_kept (l : LineId) (code : Nat) (s : State)
    (same : (s.convertedLine l code).confirmed = (s.lines.get l).confirmed) : (s.convertedLine l code).heldAt = (s.lines.get l).heldAt := by
  rw [convertedLine_confirmed] at same
  rw [State.convertedLine, if_neg (fun h => h.1 same.symm), convert_heldAt]

theorem convertedLine_held (l : LineId) (code : Nat) (s : State) (settling : s.sup.ready = false)
    (change : (s.convertedLine l code).confirmed ≠ (s.lines.get l).confirmed) : (s.convertedLine l code).heldAt = some s.now := by
  rw [convertedLine_confirmed] at change
  rw [State.convertedLine, if_pos ⟨change.symm, settling⟩]

/-- Settles O9: the last conversion of the third full scan tells no owner of its own, and the lines then hand over in turn. -/
theorem thirdFullScanMakesReady : Obligations.ThirdFullScanMakesReady := by
  intro s ohms on settling scans last converting
  have ends : s.endsSettling := ⟨(endsScan_iff _).2 ⟨by rw [converting], last⟩, settling, by rw [scans]⟩
  obtain ⟨-, nv, stage, pending⟩ := endConversion_kept ohms s
  obtain ⟨ready, full, -⟩ := grant_settling ((s.quarters + 1) / 4) (s.supAtGrant ohms)
  have line : s.sup.converting.line = 63 := by rw [converting]
  have grantor : s.sup.converting.grantor = .scan := by rw [converting]
  have lines (m : LineId) := endConversion_lines ohms s m
  simp only [if_pos ends, line] at lines
  have record := tick_lines s
  refine ⟨endConversion ohms s, s.tick.convertedLine 63 (codeOf ohms), powered_on on, ?_, ?_, fun l => ?_, fun same => ?_, fun change => ?_, ?_,
    fun l other => ?_, ?_, nv, stage, pending⟩
  · rw [endConversion_sup, ready]
    simp [State.supAtGrant, grantor, last, scans]
  · rw [endConversion_sup, full]
    simp [State.supAtGrant, grantor, last, scans, settling]
  · rw [lines]; rfl
  · rw [convertedLine_kept 63 (codeOf ohms) s.tick (by rw [record, same]), record]
  · rw [convertedLine_held 63 (codeOf ohms) s.tick (by rw [tick_sup, settling]) (by rw [record]; exact change), tick_now]
  · rw [lines, put_get_same]; rfl
  · rw [lines, put_get_other _ _ other]; rfl
  · have recorded : (s.afterCode ohms).withSup (s.supAtGrant ohms) = { s.tick with
        lines := put s.lines 63 (s.tick.convertedLine 63 (codeOf ohms))
        sup := { s.sup with pointer := 0, fullScans := 3, ready := true } } := by
      rw [State.afterCode, answerMeasure_silent _ (.inl (by simp [grantor])), takeCode_eq, if_neg (by simp [settling])]
      simp [State.withSup, codeRecorded, State.supAtGrant, line, grantor, last, scans, settling, State.followed]
      rfl
    rw [endConversion_sup, ← recorded]
    exact endConversion_settling ohms s ends

/-! ## A conversion that confirms nothing (R10, R16) -/

/-- Where the band stands and settling does not end, the conversion reaches its line, the arbiter and an owed reply. -/
theorem endConversion_unconfirmed (ohms : Option Nat) (s : State) (going : ¬s.endsSettling)
    (same : (s.tick.convertedLine s.sup.converting.line (codeOf ohms)).confirmed = (s.lines.get s.sup.converting.line).confirmed) :
    endConversion ohms s = (answerMeasure s.sup.converting (codeOf ohms)
      (codeRecorded s.sup.converting.line (codeOf ohms) s.tick)).withSup ((s.supAtGrant ohms).grant ((s.quarters + 1) / 4)) := by
  rw [endConversion_going ohms s going, State.afterCode, takeCode_eq, if_neg (by simp [same])]

theorem not_endsSettling (ohms : Option Nat) (same : (endConversion ohms s).sup.ready = s.sup.ready) : ¬s.endsSettling := by
  intro ends
  obtain ⟨scanned, settling, third⟩ := ends
  obtain ⟨scan, last⟩ := (endsScan_iff _).1 scanned
  rw [endConversion_sup, (grant_settling _ _).1, settling] at same
  simp [State.supAtGrant, scan, last, third] at same

/-- A tick of a state without a whole ms moves the time alone. -/
theorem tick_within_ms (h : (s.quarters + 1) % 4 ≠ 0) : s.tick = { s with quarters := s.quarters + 1 } := by
  unfold State.tick
  exact if_neg h

theorem tick_whole_ms (h : (s.quarters + 1) % 4 = 0) :
    s.tick = { s with quarters := s.quarters + 1, zones := s.zones.map Zone.tick, clock := s.clock.tick } := by
  unfold State.tick
  exact if_pos h

/-- The clock one ms on: the next ms, the next second, or second 0 of the next minute of the week (R179). -/
theorem WeekClock.tick_ms {c : WeekClock} (h : c.ms < 999) : c.tick = { c with ms := c.ms + 1 } := by
  rw [WeekClock.tick, if_pos h]

theorem WeekClock.tick_second {c : WeekClock} (h : 999 ≤ c.ms) (hs : c.second < 59) : c.tick = { c with ms := 0, second := c.second + 1 } := by
  rw [WeekClock.tick, if_neg (by omega), if_pos hs]

theorem WeekClock.tick_minute {c : WeekClock} (h : 999 ≤ c.ms) (hs : 59 ≤ c.second) : c.tick = { c with
    ms := 0, second := 0, minute := if c.minute < 10079 then c.minute + 1 else 0, boundaryDue := true } := by
  have week : (c.minute + 1 < Config.minutesPerWeek) = (c.minute < 10079) := by
    simp only [Config.minutesPerWeek, eq_iff_iff]
    omega
  rw [WeekClock.tick, if_neg (by omega), if_neg (by omega)]
  simp only [week]

theorem WeekClock.tick_counts {c : WeekClock} (hm : c.minute < 10080) (hs : c.second < 60) (hms : c.ms < 1000) :
    c.tick.total = (c.total + 1) % 604800000 ∧
    (c.tick.boundaryDue = true ↔ c.boundaryDue = true ∨ c.tick.minute ≠ c.minute) := by
  by_cases ms : c.ms < 999
  · rw [tick_ms ms]
    simp only [WeekClock.total, ne_eq, not_true, or_false, and_true]
    omega
  · by_cases second : c.second < 59
    · rw [tick_second (by omega) second]
      simp only [WeekClock.total, ne_eq, not_true, or_false, and_true]
      omega
    · rw [tick_minute (by omega) (by omega)]
      by_cases within : c.minute < 10079
      · simp only [if_pos within, WeekClock.total, true_iff]
        exact ⟨by omega, .inr (by omega)⟩
      · simp only [if_neg within, WeekClock.total, true_iff]
        exact ⟨by omega, .inr (by omega)⟩

theorem tick_zone_eq (x : Zone) : x.tick = if x.state = .predischarge then
    { x with countdown := x.countdown.map (fun c : Countdown => ⟨c.kind, c.remaining - 1⟩) } else x := rfl

/-- Settles O7: a conversion that confirms nothing records and answers; a tick of the time moves countdowns and clock at a whole ms. -/
theorem unconfirmedConversionTouchesNothingElse : Obligations.UnconfirmedConversionTouchesNothingElse := by
  refine ⟨?_, ?_, fun s => tick_within_ms, fun s whole => ?_⟩
  · rintro s t ohms l on rfl e same ready
    obtain rfl : endConversion ohms s = t := Host.Outcome.next.inj ((powered_on on).symm.trans e)
    have going := not_endsSettling ohms ready
    rw [endConversion_confirmed] at same
    have course := endConversion_unconfirmed ohms s going same
    have answered := answerMeasure_eq s.sup.converting (codeOf ohms) (codeRecorded s.sup.converting.line (codeOf ohms) s.tick)
    refine ⟨?_, ?_, fun m => ?_, fun r owed outstanding => ?_, fun silent => ?_⟩
    · rw [course, answered]
      rfl
    · rw [course, answered]
      simp [State.withSup, codeRecorded]
    · rw [endConversion_lines, if_neg going]
      by_cases here : m = s.sup.converting.line
      · rw [here, put_get_same]
        exact (convertedLine_kept _ _ s.tick (by rw [same, tick_lines])).trans (by rw [tick_lines])
      · rw [put_get_other _ _ here]
        rfl
    · rw [course, answerMeasure_owed _ owed (by simpa [codeRecorded] using outstanding)]
      simp [State.withSup, codeRecorded, State.band, same]
    · rw [course, answerMeasure_silent _ (by simpa [codeRecorded] using silent)]
      simp [State.withSup, codeRecorded]
  · intro s tag l free
    refine (onRequest_free 0x03 tag (performMeasureLine l.val) free).trans ?_
    rw [performMeasureLine, fromZero_val]
    rfl
  · have ticked := tick_whole_ms whole
    have clock : s.tick.clock = s.clock.tick := by rw [ticked]
    rw [clock]
    refine ⟨?_, fun z => ?_, WeekClock.tick_ms, WeekClock.tick_second, WeekClock.tick_minute, WeekClock.tick_counts⟩
    · rw [ticked]
    · rw [ticked, map_get, tick_zone_eq]

end Sys2Proof.Machine


/-! Proofs about a confirmed change of a line's band. -/

namespace Sys2Proof.Machine

variable {s t : State}

/-! ## The record (R3, R8 to R11, R18) -/

theorem convertedLine_eq (l : LineId) (code : Nat) (s : State) : ∃ confirmed candidate count,
    s.convertedLine l code = ⟨confirmed, candidate, count, some code, some s.now,
      if confirmed ≠ (s.lines.get l).confirmed ∧ s.sup.ready = false then some s.now else (s.lines.get l).heldAt⟩ ∧
    (confirmed, candidate, count) =
      if (s.classParams (lineClass l)).stays (s.lines.get l).confirmed code = true ∨
          (s.classParams (lineClass l)).classify code = (s.lines.get l).confirmed then ((s.lines.get l).confirmed, none, 0)
      else if (s.classParams (lineClass l)).confirm ≤
          (if (s.lines.get l).candidate = some ((s.classParams (lineClass l)).classify code) then (s.lines.get l).count + 1 else 1) then
        ((s.classParams (lineClass l)).classify code, none, 0)
      else ((s.lines.get l).confirmed, some ((s.classParams (lineClass l)).classify code),
        if (s.lines.get l).candidate = some ((s.classParams (lineClass l)).classify code) then (s.lines.get l).count + 1 else 1) := by
  obtain ⟨confirmed, candidate, count, e, triple⟩ := convert_eq (s.classParams (lineClass l)) code s.now (s.lines.get l)
  refine ⟨confirmed, candidate, count, ?_, triple⟩
  rw [State.convertedLine, e]
  by_cases held : confirmed ≠ (s.lines.get l).confirmed ∧ s.sup.ready = false
  · rw [if_pos held, if_pos ⟨held.1.symm, held.2⟩]
  · rw [if_neg held, if_neg fun h => held ⟨h.1.symm, h.2⟩]

/-- A change confirms the classified band, with no candidate left. -/
theorem convertedLine_changed {l : LineId} {code : Nat} (change : (s.convertedLine l code).confirmed ≠ (s.lines.get l).confirmed) :
    s.convertedLine l code = ⟨(s.classParams (lineClass l)).classify code, none, 0, some code, some s.now,
      if s.sup.ready = false then some s.now else (s.lines.get l).heldAt⟩ := by
  obtain ⟨confirmed, candidate, count, e, triple⟩ := convertedLine_eq l code s
  rw [e] at change ⊢
  generalize (if (s.lines.get l).candidate = some ((s.classParams (lineClass l)).classify code) then (s.lines.get l).count + 1 else 1) = n
    at triple
  have first : confirmed ≠ (s.lines.get l).confirmed := change
  split at triple
  next => exact absurd (congrArg Prod.fst triple) first
  next =>
    split at triple
    next =>
      simp only [Prod.mk.injEq] at triple
      obtain ⟨rfl, rfl, rfl⟩ := triple
      simp [first]
    next => exact absurd (congrArg Prod.fst triple) first

/-! ## The owner (R1, R10, R11) -/

theorem faultBand_staff {b : Band} : LineClass.staff.faultBand b = true ↔ b = .short ∨ b = .opened ∨ b = .unclassified := by
  cases b <;> simp [LineClass.faultBand]

theorem faultBand_other {c : LineClass} (h : c ≠ .staff) {b : Band} :
    c.faultBand b = true ↔ b = .short ∨ b = .openLine ∨ b = .unclassified := by
  cases c <;> cases b <;> simp_all [LineClass.faultBand]

/-- What one of two changes makes of a state. -/
theorem ite_at {c : Prop} [Decidable c] (f g : State → State) (s : State) : (if c then f else g) s = if c then f s else g s := by
  split
  · rfl
  · rfl

theorem bandChange_loop (k : LoopId) (b previous : Band) (time : Nat) (s : State) : bandChange (loopLine k) b previous time s =
    (if b = .short ∨ b = .opened ∨ b = .unclassified then raise .lineFault (.line (loopLine k)) (some (.band b))
      else if previous = .short ∨ previous = .opened ∨ previous = .unclassified then
        raise .lineRestored (.line (loopLine k)) (some (.band b))
      else id) (loopChange k b time s) := by
  simp only [bandChange, handOwner, raiseLine, State.lineUnused, lineClass, lineOwner_loopLine, faultBand_staff, ite_at, id]
  rfl

theorem bandChange_zone {l : LineId} {z : ZoneId} (b previous : Band) (time : Nat) (s : State)
    (h : l = detectorALine z ∨ l = detectorBLine z ∨ l = stationLine z) : bandChange l b previous time s =
    (if b = .short ∨ b = .openLine ∨ b = .unclassified then raise .lineFault (.line l) (some (.band b))
      else if previous = .short ∨ previous = .openLine ∨ previous = .unclassified then raise .lineRestored (.line l) (some (.band b))
      else id) (if l = stationLine z then stationChange z b s else detectorChange z (l = detectorBLine z) b s) := by
  have detector : LineClass.detector ≠ .staff := by decide
  have station : LineClass.station ≠ .staff := by decide
  rcases h with rfl | rfl | rfl
  · have other : detectorALine z ≠ stationLine z ∧ detectorALine z ≠ detectorBLine z := by
      constructor <;> simp only [detectorALine, stationLine, detectorBLine, ne_eq, Fin.mk.injEq] <;> omega
    simp only [bandChange, handOwner, raiseLine, State.lineUnused, lineClass, lineOwner_detectorALine, faultBand_other detector, ite_at,
      id, other, decide_false]
    rfl
  · have other : detectorBLine z ≠ stationLine z := by
      simp only [stationLine, detectorBLine, ne_eq, Fin.mk.injEq]
      omega
    simp only [bandChange, handOwner, raiseLine, State.lineUnused, lineClass, lineOwner_detectorBLine, faultBand_other detector, ite_at,
      id, other, decide_true]
    rfl
  · simp only [bandChange, handOwner, raiseLine, State.lineUnused, lineClass, lineOwner_stationLine, faultBand_other station, ite_at, id]
    rfl

theorem bandChange_door (d : DoorId) (b previous : Band) (time : Nat) (s : State) : bandChange (doorLine d) b previous time s =
    (if s.role d = .unused then id
      else if b = .short ∨ b = .openLine ∨ b = .unclassified then raise .lineFault (.line (doorLine d)) (some (.band b))
      else if previous = .short ∨ previous = .openLine ∨ previous = .unclassified then
        raise .lineRestored (.line (doorLine d)) (some (.band b))
      else id) (doorChange d b previous s) := by
  have door : LineClass.door ≠ .staff := by decide
  have role : (doorChange d b previous s).role d = s.role d := by
    rw [State.role, State.doorSettings, (doorChange_reach d b previous s).band.nv]
    rfl
  simp only [bandChange, handOwner, raiseLine, State.lineUnused, lineClass, lineOwner_doorLine, faultBand_other door, ite_at, id, role,
    decide_eq_true_eq]

theorem answerMeasure_withSup (cv : Conversion) (code : Nat) (x : Supervisor) (s : State) :
    answerMeasure cv code (s.withSup x) = (answerMeasure cv code s).withSup x := by
  by_cases owed : cv.grantor = .measurement true
  · cases outstanding : s.link.outstanding with
    | none => rw [answerMeasure_silent code (.inr outstanding), answerMeasure_silent (s := s.withSup x) code (.inr outstanding)]
    | some r =>
      rw [answerMeasure_owed code owed outstanding, answerMeasure_owed (s := s.withSup x) code owed outstanding]
      rfl
  · rw [answerMeasure_silent (s := s) code (.inl owed), answerMeasure_silent (s := s.withSup x) code (.inl owed)]

section
variable (ohms : Option Nat)

/-- At READY the owner is told of the change before the measurement is answered and the arbiter grants. -/
theorem endConversion_told (ready : s.sup.ready = true)
    (change : (s.tick.convertedLine s.sup.converting.line (codeOf ohms)).confirmed ≠ (s.lines.get s.sup.converting.line).confirmed) :
    endConversion ohms s = (answerMeasure s.sup.converting (codeOf ohms)
      (bandChange s.sup.converting.line ((s.classParams (lineClass s.sup.converting.line)).classify (codeOf ohms))
        (s.lines.get s.sup.converting.line).confirmed ((s.quarters + 1) / 4)
        { s.tick with
          lines := put s.lines s.sup.converting.line
            ⟨(s.classParams (lineClass s.sup.converting.line)).classify (codeOf ohms), none, 0, some (codeOf ohms),
              some ((s.quarters + 1) / 4), (s.lines.get s.sup.converting.line).heldAt⟩
          sup := { s.sup with fastFollow := (endConversion ohms s).sup.fastFollow } })).withSup (endConversion ohms s).sup := by
  have going : ¬s.endsSettling := fun ends => absurd (ready.symm.trans ends.2.1) (by decide)
  have changed := change
  rw [← tick_lines s] at changed
  have record := convertedLine_changed changed
  rw [endConversion_sup, (grant_settling _ _).2.2, endConversion_going ohms s going, State.afterCode, takeCode_eq,
    if_pos ⟨changed.symm, by rw [tick_sup, ready]⟩, codeRecorded, record]
  simp only [tick_lines, tick_sup, tick_now, tick_classParams, ready, State.supAtGrant]
  rfl

/-- Before READY the change is held back with its time. -/
theorem endConversion_held (settling : s.sup.ready = false) (going : ¬s.endsSettling)
    (change : (s.tick.convertedLine s.sup.converting.line (codeOf ohms)).confirmed ≠ (s.lines.get s.sup.converting.line).confirmed) :
    endConversion ohms s = answerMeasure s.sup.converting (codeOf ohms)
        { s.tick with
          lines := put s.lines s.sup.converting.line
            ⟨(s.classParams (lineClass s.sup.converting.line)).classify (codeOf ohms), none, 0, some (codeOf ohms),
              some ((s.quarters + 1) / 4), some ((s.quarters + 1) / 4)⟩
          sup := (endConversion ohms s).sup } := by
  have changed := change
  rw [← tick_lines s] at changed
  have record := convertedLine_changed changed
  rw [endConversion_sup, endConversion_going ohms s going, State.afterCode, takeCode_eq,
    if_neg (by simp [settling]), codeRecorded, record, ← answerMeasure_withSup]
  simp only [tick_lines, tick_sup, tick_now, tick_classParams, settling, if_true]
  rfl

end

/-- Settles O6: the record follows the stay test, the candidate and the confirm count, and the owner is told of a change at READY. -/
theorem conversionUpdatesLineRecord : Obligations.ConversionUpdatesLineRecord := by
  refine ⟨?_, fun s l b previous time => ⟨?_, ?_, ?_⟩⟩
  · rintro s ohms l p x b n on rfl rfl rfl rfl rfl
    obtain ⟨quarters, nv, stage, pending⟩ := endConversion_kept ohms s
    obtain ⟨confirmed, candidate, count, record, triple⟩ := convertedLine_eq s.sup.converting.line (codeOf ohms) s.tick
    have line : ∃ held, (endConversion ohms s).lines.get s.sup.converting.line =
        ⟨confirmed, candidate, count, some (codeOf ohms), some ((s.quarters + 1) / 4), held⟩ := by
      rw [endConversion_lines, put_get_same, record, tick_now]
      split <;> exact ⟨_, rfl⟩
    obtain ⟨held, line⟩ := line
    refine ⟨endConversion ohms s, powered_on on, quarters, by rw [line], by rw [line], ?_, fun m other => ?_, fun ready change u made => ?_,
      fun unready settling change u made => ?_, nv, stage, pending⟩
    · rw [line, triple]
      simp [stays_iff]
    · rw [endConversion_lines, put_get_other _ _ other]
      split <;> exact ⟨rfl, rfl, rfl, rfl, rfl⟩
    · rw [endConversion_confirmed] at change
      have told := endConversion_told ohms ready change
      rw [made] at told
      have reach : BandOnly _ u := made ▸ bandChange_reach ..
      have heard : u.link.outstanding = s.link.outstanding := reach.outstanding.trans (by rw [tick_link])
      refine ⟨fun silent => ?_, fun r owed outstanding => ?_⟩
      · rw [answerMeasure_silent _ (by rwa [heard])] at told
        exact told
      · have band : u.band s.sup.converting.line = (s.classParams (lineClass s.sup.converting.line)).classify (codeOf ohms) := by
          rw [State.band, reach.lines, put_get_same]
        rw [answerMeasure_owed _ owed (heard.trans outstanding), band] at told
        exact told
    · rw [endConversion_confirmed] at change
      have held := endConversion_held ohms unready (not_endsSettling ohms (settling.trans unready.symm)) change
      rw [made] at held
      have heard : u.link = s.link := by rw [← made, tick_link]
      refine ⟨fun silent => ?_, fun r owed outstanding => ?_⟩
      · rw [answerMeasure_silent _ (by rwa [heard])] at held
        exact held.trans (by rw [← made])
      · have band : u.band s.sup.converting.line = (s.classParams (lineClass s.sup.converting.line)).classify (codeOf ohms) := by
          rw [State.band, ← made, put_get_same]
        rw [answerMeasure_owed _ owed (by rw [heard, outstanding]), band, heard] at held
        exact held.trans (by rw [← made])
  · rintro k rfl
    exact bandChange_loop k b previous time s
  · exact fun z => bandChange_zone b previous time s
  · rintro d rfl
    exact bandChange_door d b previous time s

end Sys2Proof.Machine


/-! Laws of occupancy: what follows a change of strongroom records, and what the moves of a slot come to. -/

namespace Sys2Proof.Machine

variable {s t : State}

/-! ## Reach -/

theorem ReleaseOnly.rooms_eq (h : ReleaseOnly s t) : t.rooms = s.rooms := by
  obtain ⟨_, _, _, _, _, rfl, _, _, _, _, _, _, _, rfl⟩ := h; rfl

theorem ReleaseOnly.clock_eq (h : ReleaseOnly s t) : t.clock = s.clock := h.rooms.clock

theorem reportE_rooms (v : RoomId) (s : State) : (reportE v s).rooms = s.rooms := (reportE_reach v s).rooms_eq

/-- The condition depends on the strongroom, the mode and the time alone. -/
theorem RoomsOnly.loneFor {v : RoomId} (h : RoomsOnly s t) (room : t.rooms.get v = s.rooms.get v) : t.loneFor v = s.loneFor v := by
  unfold State.loneFor State.loneSettings State.strongroomDoor State.role State.doorSettings
  rw [h.clock, room, h.now, h.nv]

theorem ReleaseOnly.loneFor (h : ReleaseOnly s t) (v : RoomId) : t.loneFor v = s.loneFor v :=
  h.rooms.loneFor (by rw [h.rooms_eq])

/-! ## The lone-worker condition (R105, R106, R108) -/

theorem loneIntervalMs_eq (s : State) (v : RoomId) : s.loneIntervalMs v = (s.loneSettings v).loneInterval * 60000 := rfl

/-- The evaluation of the condition writes the state that it gives. -/
theorem evalLone_eq (v : RoomId) (s : State) :
    evalLone v s = { s with rooms := put s.rooms v { s.rooms.get v with lone := s.loneFor v } } := by
  unfold evalLone State.loneFor State.loneCondition
  by_cases condition : s.clock.mode = .afterHours ∧ (s.rooms.get v).listed.length = 1
  · simp only [Bool.and_eq_true, decide_eq_true_eq, if_pos condition]
    have unchanged : s = { s with rooms := put s.rooms v { s.rooms.get v with lone := (s.rooms.get v).lone } } :=
      congrArg (fun rooms => { s with rooms := rooms }) (put_same s.rooms v).symm
    cases lone : (s.rooms.get v).lone with
    | off => rfl
    | running dl => rwa [lone] at unchanged
    | prompt dl => rwa [lone] at unchanged
  · simp only [Bool.and_eq_true, decide_eq_true_eq, if_neg condition]
    rfl

theorem shortPress_watched (v : RoomId) (h : (s.rooms.get v).lone ≠ .off) : shortPress v s = { s with
    rooms := put s.rooms v { s.rooms.get v with lone := .running (s.now + (s.loneSettings v).loneInterval * 60000) } } := by
  unfold shortPress
  split
  · contradiction
  · rfl
  · rfl

theorem shortPress_off (v : RoomId) (h : (s.rooms.get v).lone = .off) : shortPress v s = s := by
  simp only [shortPress, h]

/-! ## What follows a change of strongroom records (R96) -/

/-- One strongroom's part in what follows: the report of a changed E, and the condition after a changed count. -/
def settleAt (before : Vector Room 12) (v : RoomId) (s : State) : State :=
  let t := if (before.get v).effective ≠ (s.rooms.get v).effective then reportE v s else s
  if (before.get v).listed.length ≠ (t.rooms.get v).listed.length then evalLone v t else t

theorem settle_eq (before : Vector Room 12) (s : State) : settle before s = (every 12).foldl (fun t v => settleAt before v t) s := rfl

theorem settleAt_rooms (before : Vector Room 12) (v : RoomId) (s : State) : (settleAt before v s).rooms = put s.rooms v { s.rooms.get v with
    lone := if (before.get v).listed.length ≠ (s.rooms.get v).listed.length then s.loneFor v else (s.rooms.get v).lone } := by
  have reported : ReleaseOnly s (if (before.get v).effective ≠ (s.rooms.get v).effective then reportE v s else s) :=
    .ite (reportE_reach v s) (.refl s)
  unfold settleAt
  dsimp only
  rw [reported.rooms_eq]
  by_cases count : (before.get v).listed.length = (s.rooms.get v).listed.length
  · rw [if_neg (not_not_intro count), if_neg (not_not_intro count), reported.rooms_eq, put_same]
  · rw [if_pos count, if_pos count, evalLone_eq, reported.rooms_eq, reported.loneFor]

theorem settleAt_same {before : Vector Room 12} {v : RoomId} (e : (before.get v).effective = (s.rooms.get v).effective)
    (count : (before.get v).listed.length = (s.rooms.get v).listed.length) : settleAt before v s = s := by
  simp [settleAt, e, count]

theorem nodup_every (n : Nat) : (every n).Nodup := List.nodup_finRange n

theorem settleAt_reach (before : Vector Room 12) (v : RoomId) (s : State) : RoomsOnly s (settleAt before v s) :=
  .trans (.ite (reportE_reach v s).rooms (.refl s)) (.ite (evalLone_reach v _) (.refl _))

theorem foldl_settleAt_reach (before : Vector Room 12) (vs : List RoomId) (s : State) :
    RoomsOnly s (vs.foldl (fun t v => settleAt before v t) s) := .foldl (fun t v => settleAt_reach before v t) vs s

/-- Strongrooms outside the list keep their records, and one in it gets its lone-worker state where its count has changed. -/
theorem foldl_settleAt_rooms (before : Vector Room 12) {vs : List RoomId} (once : vs.Nodup) (s : State) (v : RoomId) :
    (vs.foldl (fun t v => settleAt before v t) s).rooms.get v =
      if v ∈ vs then { s.rooms.get v with
        lone := if (before.get v).listed.length ≠ (s.rooms.get v).listed.length then s.loneFor v else (s.rooms.get v).lone }
      else s.rooms.get v := by
  induction vs generalizing s with
  | nil => rfl
  | cons w rest ih =>
    obtain ⟨new, once⟩ := List.nodup_cons.1 once
    have reach := settleAt_reach before w s
    rw [List.foldl_cons, ih once]
    by_cases here : v = w
    · subst here
      simp [new, settleAt_rooms]
    · have room : (settleAt before w s).rooms.get v = s.rooms.get v := by rw [settleAt_rooms, put_get_other _ _ here]
      rw [reach.loneFor room, room]
      simp [here]

theorem settle_rooms (before : Vector Room 12) (s : State) (v : RoomId) : (settle before s).rooms.get v = { s.rooms.get v with
    lone := if (before.get v).listed.length ≠ (s.rooms.get v).listed.length then s.loneFor v else (s.rooms.get v).lone } := by
  rw [settle_eq, foldl_settleAt_rooms before (nodup_every 12), if_pos (mem_every v)]

/-- Where the strongrooms of a list stand as they did, nothing follows. -/
theorem foldl_settleAt_same {before : Vector Room 12} {vs : List RoomId}
    (same : ∀ v ∈ vs, (before.get v).effective = (s.rooms.get v).effective ∧
      (before.get v).listed.length = (s.rooms.get v).listed.length) : vs.foldl (fun t v => settleAt before v t) s = s := by
  induction vs with
  | nil => rfl
  | cons w rest ih =>
    obtain ⟨effective, count⟩ := same w List.mem_cons_self
    rw [List.foldl_cons, settleAt_same effective count]
    exact ih fun v mem => same v (List.mem_cons_of_mem w mem)

/-- Where one strongroom has changed, what follows is its part alone. -/
theorem settle_one {before : Vector Room 12} {v : RoomId} (others : ∀ w, w ≠ v → (before.get w).effective = (s.rooms.get w).effective ∧
    (before.get w).listed.length = (s.rooms.get w).listed.length) : settle before s = settleAt before v s := by
  obtain ⟨earlier, later, parts⟩ := List.append_of_mem (mem_every v)
  have once : (earlier ++ v :: later).Nodup := parts ▸ nodup_every 12
  obtain ⟨-, tail, apart⟩ := List.nodup_append.1 once
  obtain ⟨new, -⟩ := List.nodup_cons.1 tail
  rw [settle_eq, parts, List.foldl_append, List.foldl_cons,
    foldl_settleAt_same fun w mem => others w fun e => apart w mem v List.mem_cons_self e,
    foldl_settleAt_same fun w mem => ?_]
  have other : w ≠ v := fun e => new (e ▸ mem)
  rw [settleAt_rooms, put_get_other _ _ other]
  exact others w other

/-! ## The evidence mark (R103) -/

/-- A new evidence mark is reported to the zone; a mark that is set already changes nothing. -/
theorem setEvidence_eq (v : RoomId) (s : State) : setEvidence v s =
    (if (s.rooms.get v).evidence then id else reportE v)
      { s with rooms := put s.rooms v { s.rooms.get v with evidence := true } } := by
  unfold setEvidence settled
  rw [settle_one (v := v) fun w other => by simp [State.setRoom, other]]
  cases mark : (s.rooms.get v).evidence <;> simp [settleAt, State.setRoom, Room.effective, mark, reportE_rooms]

end Sys2Proof.Machine


/-! Proofs about the staff loops: deadlines, presses and bands. -/

namespace Sys2Proof.Machine

variable {s t : State}

/-! ## Deadlines taken as of their own time (R32) -/

theorem asAt_now {dl : Nat} (h : dl ≤ s.now) : (s.asAt dl).now = dl := by
  unfold State.asAt
  by_cases before : dl < s.now
  · rw [if_pos before]
    exact Nat.mul_div_cancel dl (by decide)
  · rw [if_neg before]
    omega

theorem asAt_eq (dl : Nat) (s : State) : s.asAt dl = { s with quarters := (s.asAt dl).quarters, clock := (s.asAt dl).clock } := by
  unfold State.asAt
  split <;> rfl

@[simp] theorem asAt_loops (dl : Nat) (s : State) : (s.asAt dl).loops = s.loops := by rw [asAt_eq]
@[simp] theorem asAt_rooms (dl : Nat) (s : State) : (s.asAt dl).rooms = s.rooms := by rw [asAt_eq]
@[simp] theorem asAt_freeze (dl : Nat) (s : State) : (s.asAt dl).freeze = s.freeze := by rw [asAt_eq]
@[simp] theorem asAt_nv (dl : Nat) (s : State) : (s.asAt dl).nv = s.nv := by rw [asAt_eq]
@[simp] theorem asAt_link (dl : Nat) (s : State) : (s.asAt dl).link = s.link := by rw [asAt_eq]

theorem takeBy_due {n dl : Nat} (f : State → State) (h : dl ≤ n) (s : State) : takeBy n (some dl) f s = asOf dl f s := by
  simp [takeBy, h]

theorem takeBy_not_due {n : Nat} {deadline : Option Nat} (f : State → State) (h : dueBy n deadline = false) (s : State) :
    takeBy n deadline f s = s := by
  cases deadline with
  | none => rfl
  | some dl =>
    have later : ¬dl ≤ n := by simpa [dueBy] using h
    exact if_neg later

theorem asOf_id {f : State → State} {dl : Nat} (h : f (s.asAt dl) = s.asAt dl) : asOf dl f s = s := by
  rw [asOf, h, asAt_eq]

theorem deadlinesFirst_stuck {k : LoopId} {n : Nat} (duress : dueBy n (s.loops.get k).duressDl = false) :
    deadlinesFirst k n s = takeBy n (s.loops.get k).stuckDl (takeStuck k) s := by
  unfold deadlinesFirst
  dsimp only
  rw [takeBy_not_due _ duress]

theorem deadlinesFirst_none {k : LoopId} {n : Nat} (duress : dueBy n (s.loops.get k).duressDl = false)
    (stuck : dueBy n (s.loops.get k).stuckDl = false) : deadlinesFirst k n s = s := by
  rw [deadlinesFirst_stuck duress, takeBy_not_due _ stuck]

/-! ## What a loop's own operations do to it -/

theorem beforeDuress_iff {x : LoopState} : x.beforeDuress = true ↔ x = .pressed ∨ x = .unresolved := by
  cases x <;> simp [LoopState.beforeDuress]

theorem inPress_iff {x : LoopState} : x.inPress = true ↔ x = .pressed ∨ x = .duress ∨ x = .unresolved ∨ x = .unresolvedDuress := by
  cases x <;> simp [LoopState.inPress]

theorem heldStation_eq {x : Loop} {st : StationNo} (h : x.station = some st) : x.heldStation = st := by rw [Loop.heldStation, h, Option.getD_some]

/-- The evidence rule in a strongroom that lists nobody (R34). -/
theorem stationEvidence_eq (place : Option RoomId) (s : State) : stationEvidence place s =
    match place with
    | some v =>
      if (s.rooms.get v).listed = [] then
        (if (s.rooms.get v).evidence then id else reportE v)
          { s with rooms := put s.rooms v { s.rooms.get v with evidence := true } }
      else s
    | none => s := by
  cases place with
  | none => rfl
  | some v => simp [stationEvidence, setEvidence_eq]

/-- A duress deadline is `duressTaken`, the spec's word for it. -/
theorem takeDuress_eq {k : LoopId} {st : StationNo} (press : (s.loops.get k).state = .pressed ∨ (s.loops.get k).state = .unresolved)
    (held : (s.loops.get k).heldStation = st) : takeDuress k s = s.duressTaken k st := by
  unfold takeDuress State.duressTaken
  dsimp only
  rw [if_pos (beforeDuress_iff.2 press), held]
  have heard (u : State) (nv : u.nv = s.nv) (freeze : u.freeze = s.freeze) :
      (if (u.loopSettings k).freeze then entryFreeze k st u else u) =
        if (s.loopSettings k).freeze = true ∧ s.freeze = false then raise .entryFreeze (.loop k) (some (.station st)) (setFreeze u) else u := by
    have settings : u.loopSettings k = s.loopSettings k := by rw [State.loopSettings, nv]; rfl
    rw [settings, entryFreeze, freeze]
    cases (s.loopSettings k).freeze <;> cases s.freeze <;> rfl
  have reach := stationEvidence_reach ((s.loopSettings k).place st) (raiseLoop .duress k st (s.setLoop k
    { s.loops.get k with state := if (s.loops.get k).state = .pressed then .duress else .unresolvedDuress, duressDl := none }))
  refine (heard _ reach.nv reach.freeze).trans ?_
  rw [stationEvidence_eq]
  rfl

theorem takeDuress_none {k : LoopId} (h : (s.loops.get k).state.beforeDuress = false) : takeDuress k s = s := by
  simp [takeDuress, h]

theorem takeStuck_none {k : LoopId} (h : (s.loops.get k).state.inPress = false) : takeStuck k s = s := by
  simp [takeStuck, h]

theorem takeStuck_eq {k : LoopId} {st : StationNo} (press : (s.loops.get k).state.inPress = true)
    (held : (s.loops.get k).heldStation = st) : takeStuck k s = s.stuckTaken k st := by
  simp [takeStuck, press, State.stuckTaken, raiseLoop, held, State.setLoop]

/-! ## What the duress of a press reaches (R25, R34, R35) -/

/-- A report of an E of 1 or more reaches the zones alone. -/
theorem reportE_occupied {v : RoomId} (h : 1 ≤ (s.rooms.get v).effective) : reportE v s = { s with zones := (reportE v s).zones } := by
  have occupied : s.occupancy v ≠ 0 := Nat.ne_of_gt h
  unfold reportE
  dsimp only
  split
  · rw [if_neg occupied]
  · split <;> rfl
  · split <;> rfl
  · rfl

/-- What reaches the access fields alone does so beside any strongrooms, zones and overlay. -/
theorem AccessOnly.withRecords {rooms : Vector Room 12} {zones : Vector Zone 12} {freeze : Bool} (h : AccessOnly s t) :
    AccessOnly { s with rooms := rooms, zones := zones, freeze := freeze } { t with rooms := rooms, zones := zones, freeze := freeze } := by
  obtain ⟨_, _, _, _, _, _, _, rfl⟩ := h
  exact ⟨_, _, _, _, _, _, _, rfl⟩

/-- The state in which the loop is in duress and DURESS is raised. -/
def duressRaised (k : LoopId) (st : StationNo) (s : State) : State :=
  raise .duress (.loop k) (some (.station st)) { s with loops := put s.loops k { s.loops.get k with
    state := if (s.loops.get k).state = .pressed then .duress else .unresolvedDuress, duressDl := none } }

/-- The evidence rule of a duress reaches strongrooms and zones alone, and leaves the mark where it applies. -/
theorem duressEvidence_reach (place : Option RoomId) (s : State) : ∃ rooms zones,
    stationEvidence place s = { s with rooms := rooms, zones := zones } ∧
    ∀ v, place = some v → (s.rooms.get v).listed = [] → (rooms.get v).evidence = true := by
  rw [stationEvidence_eq]
  cases place with
  | none => exact ⟨_, _, rfl, fun v e => nomatch e⟩
  | some v =>
    dsimp only
    by_cases empty : (s.rooms.get v).listed = []
    · rw [if_pos empty]
      let marked : State := { s with rooms := put s.rooms v { s.rooms.get v with evidence := true } }
      have mark : (marked.rooms.get v).evidence = true := by simp [marked]
      have occupied : 1 ≤ (marked.rooms.get v).effective := by
        simp only [Room.effective, mark, if_true]
        omega
      cases (s.rooms.get v).evidence with
      | true => exact ⟨marked.rooms, s.zones, rfl, fun w e _ => Option.some.inj e ▸ mark⟩
      | false => exact ⟨marked.rooms, _, reportE_occupied occupied, fun w e _ => Option.some.inj e ▸ mark⟩
    · rw [if_neg empty]
      exact ⟨_, _, rfl, fun w e h => absurd (Option.some.inj e ▸ h) empty⟩

/-- A duress reaches the loop, strongrooms and zones by the evidence rule, and by the freeze what `setFreeze` reaches. -/
theorem duressTaken_reach (k : LoopId) (st : StationNo) (s : State) : ∃ rooms zones,
    AccessOnly { s with
      loops := (duressRaised k st s).loops, rooms := rooms, zones := zones, freeze := s.freeze || (s.loopSettings k).freeze }
      (s.duressTaken k st) ∧
    ∀ v, (s.loopSettings k).place st = some v → (s.rooms.get v).listed = [] → (rooms.get v).evidence = true := by
  obtain ⟨rooms, zones, told, mark⟩ := duressEvidence_reach ((s.loopSettings k).place st) (duressRaised k st s)
  refine ⟨rooms, zones, ?_, mark⟩
  have taken : s.duressTaken k st = if (s.loopSettings k).freeze = true ∧ s.freeze = false then
      raise .entryFreeze (.loop k) (some (.station st)) (setFreeze (stationEvidence ((s.loopSettings k).place st) (duressRaised k st s)))
      else stationEvidence ((s.loopSettings k).place st) (duressRaised k st s) := by
    rw [stationEvidence_eq]
    rfl
  rw [taken, told]
  have raised (freeze : Bool) : AccessOnly { s with loops := (duressRaised k st s).loops, rooms := rooms, zones := zones, freeze := freeze }
      { duressRaised k st s with rooms := rooms, zones := zones, freeze := freeze } :=
    (raise_reach .duress (.loop k) (some (.station st)) { s with loops := (duressRaised k st s).loops }).withRecords
  by_cases freezes : (s.loopSettings k).freeze = true ∧ s.freeze = false
  · rw [if_pos freezes, freezes.1, Bool.or_true]
    exact ((raised true).trans (setFreeze_reach _)).trans (raise_reach ..)
  · have stands : (s.freeze || (s.loopSettings k).freeze) = s.freeze := by
      cases freeze : s.freeze <;> simp_all
    rw [if_neg freezes, stands]
    exact raised s.freeze

/-- Settles O11: each deadline is taken on the state as of its own time. -/
theorem loopDeadlinesTakeDuressAndStuck : Obligations.LoopDeadlinesTakeDuressAndStuck := by
  refine ⟨?_, ?_, fun s dl => asAt_now⟩
  · rintro s k x dl st place on rfl press deadline le station rfl
    have taken : takeBy s.now (s.loops.get k).duressDl (takeDuress k) s = asOf dl (State.duressTaken k st) s := by
      rw [deadline, takeBy_due _ le, asOf, takeDuress_eq (st := st) (by rwa [asAt_loops]) (by rw [asAt_loops]; exact heldStation_eq station)]
      rfl
    obtain ⟨rooms, zones, reach, mark⟩ := duressTaken_reach k st (s.asAt dl)
    have loops : (asOf dl (State.duressTaken k st) s).loops = put s.loops k { s.loops.get k with
        state := if (s.loops.get k).state = .pressed then .duress else .unresolvedDuress, duressDl := none } :=
      reach.loops.trans (by simp [duressRaised])
    refine ⟨asOf dl (State.duressTaken k st) s, (powered_on on).trans (congrArg _ taken), ?_, fun j other => ?_, ?_, ?_, ?_, ?_⟩
    · rw [loops, put_get_same]
    · rw [loops, put_get_other _ _ other]
    · exact reach.freeze.trans (by simp [State.loopSettings])
    · intro v place empty
      have rooms_eq : (asOf dl (State.duressTaken k st) s).rooms = rooms := reach.rooms
      rw [rooms_eq]
      exact mark v (by simpa [State.loopSettings] using place) (by simpa using empty)
    · rintro u w rfl rfl
      rw [asOf]
      simp only [State.duressTaken, asAt_loops, asAt_rooms, asAt_freeze, State.loopSettings, asAt_nv] <;> rfl
    · obtain ⟨_, _, _, _, _, _, _, e⟩ := reach
      rw [asOf, e, asAt_eq]
  · rintro s k x dl st on rfl duress noDuress deadline le station
    have press : (s.loops.get k).state.inPress = true := inPress_iff.2 (duress.elim (.inr ∘ .inl) (.inr ∘ .inr ∘ .inr))
    have taken : whenDue (s.loops.get k).stuckDl (deadlinesFirst k s.now) s = asOf dl (State.stuckTaken k st) s := by
      rw [deadline, whenDue_some _ le, deadlinesFirst_stuck (by rw [noDuress]; rfl), deadline, takeBy_due _ le, asOf, takeStuck_eq (st := st) (by rwa [asAt_loops]) (by rw [asAt_loops]; exact heldStation_eq station)]
      rfl
    refine (powered_on on).trans (congrArg _ (taken.trans ?_))
    have record : { s.loops.get k with state := .stuck, duressDl := none, stuckDl := none } =
        { s.loops.get k with state := LoopState.stuck, stuckDl := none } := by rw [← noDuress]
    rw [asOf, State.stuckTaken, asAt_loops, record, raise, asAt_eq]
    rfl

end Sys2Proof.Machine


/-! Proofs about presses and bands of a staff loop. -/

namespace Sys2Proof.Machine

variable {s t : State}

/-! ## A band with no deadline before it (R24, R26 to R32) -/

section
variable {k : LoopId} {n : Nat}

theorem loopChange_eq (duress : dueBy n (s.loops.get k).duressDl = false) (stuck : dueBy n (s.loops.get k).stuckDl = false) (b : Band) :
    loopChange k b n s = loopTakes k (loopSignal b) n s := by
  rw [loopChange, deadlinesFirst_none duress stuck]

theorem loopTakes_rest (press : (s.loops.get k).state.inPress = true) : loopTakes k .rest n s = idleLoop k (endPress k n s) := by
  unfold loopTakes
  cases state : (s.loops.get k).state <;> simp_all [LoopState.inPress]

theorem loopTakes_pressed (press : (s.loops.get k).state.inPress = true) (st : StationNo) : loopTakes k (.pressed st) n s =
    if (s.loops.get k).station = some st then s else beginPress k st n (endPress k n s) := by
  unfold loopTakes
  cases state : (s.loops.get k).state <;> simp_all [LoopState.inPress]

theorem loopTakes_faulted (fault : (s.loops.get k).state ≠ .fault) (stuck : (s.loops.get k).state ≠ .stuck) :
    loopTakes k .faulted n s = faultLoop k s := by
  unfold loopTakes
  cases state : (s.loops.get k).state <;> simp_all

/-- A faulted or a stuck loop waits for NORMAL. -/
theorem loopTakes_waits (waits : (s.loops.get k).state = .fault ∨ (s.loops.get k).state = .stuck) {sig : LoopSignal} (h : sig ≠ .rest) :
    loopTakes k sig n s = s := by
  unfold loopTakes
  rcases waits with state | state <;> cases sig <;> simp_all

end

/-! ## The end of a press (R27, R28, R33, R34, R103, R108) -/

section
variable {k : LoopId} {st : StationNo} {t0 t1 : Nat} (pressAt : (s.loops.get k).pressAt = some t0)
  (station : (s.loops.get k).station = some st)
include station

theorem endPress_duress (duress : (s.loops.get k).state = .duress ∨ (s.loops.get k).state = .unresolvedDuress) :
    endPress k t1 s = raise .duressRelease (.loop k) (some (.station st)) s := by
  rcases duress with state | state <;> simp [endPress, state, Loop.heldStation, station, raiseLoop]

include pressAt

theorem endPress_bounce (press : (s.loops.get k).state = .pressed ∨ (s.loops.get k).state = .unresolved)
    (short : t1 - t0 < (s.loopSettings k).tErr) : endPress k t1 s = raise .stationBounce (.loop k) (some (.station st)) s := by
  rcases press with state | state <;> simp [endPress, state, Loop.heldStation, station, raiseLoop, pressAt, short]

theorem endPress_meant (press : (s.loops.get k).state = .pressed ∨ (s.loops.get k).state = .unresolved)
    (long : (s.loopSettings k).tErr ≤ t1 - t0) : endPress k t1 s = shortMeaning k st s := by
  have meant : ¬t1 - t0 < (s.loopSettings k).tErr := Nat.not_lt.2 long
  rcases press with state | state <;> simp [endPress, state, Loop.heldStation, station, pressAt, meant]

end

theorem shortMeaning_corridor {k : LoopId} {st : StationNo} (place : (s.loopSettings k).place st = none) :
    shortMeaning k st s = raise .stationCall (.loop k) (some (.station st)) s := by
  simp [shortMeaning, place, State.pressIsCheckIn, pressTimer, stationEvidence, raiseLoop]

/-- A short press in a strongroom: the notice, then the timer, then the evidence rule. -/
theorem shortMeaning_room {k : LoopId} {st : StationNo} {v : RoomId} (place : (s.loopSettings k).place st = some v) :
    shortMeaning k st s = stationEvidence (some v) (shortPress v
      (raise (if (s.rooms.get v).buzzer then .checkIn else .stationCall) (.loop k) (some (.station st)) s)) := by
  simp only [shortMeaning, place, State.pressIsCheckIn, pressTimer, raiseLoop]

/-- The timer handed a press, with what it leaves as the lone-worker state. -/
theorem shortPress_lone {v : RoomId} {lone : Lone} (timer : (s.rooms.get v).lone = .off ∧ lone = .off ∨
      (s.rooms.get v).lone ≠ .off ∧ lone = .running (s.now + s.loneIntervalMs v)) :
    shortPress v s = { s with rooms := put s.rooms v { s.rooms.get v with lone := lone } } := by
  rcases timer with ⟨off, rfl⟩ | ⟨watched, rfl⟩
  · rw [shortPress_off v off]
    have unchanged : s = { s with rooms := put s.rooms v { s.rooms.get v with lone := (s.rooms.get v).lone } } :=
      congrArg (fun rooms => { s with rooms := rooms }) (put_same s.rooms v).symm
    rwa [off] at unchanged
  · exact shortPress_watched v watched

theorem buzzer_iff {r : Room} : r.buzzer = true ↔ ∃ dl, r.lone = .prompt dl := by
  unfold Room.buzzer
  cases r.lone <;> simp

theorem idleLoop_raise (k : LoopId) (n : NoticeKind) (o : NoticeObject) (d : Option Detail) (s : State) :
    idleLoop k (raise n o d s) = { raise n o d s with loops := put s.loops k Loop.start } := by
  rw [idleLoop, State.setLoop, raise_loops]

/-- Settles O12: the end of the press is a bounce, a short press or a released duress, and the loop goes to IDLE after it. -/
theorem releasedPressIsClassified : Obligations.ReleasedPressIsClassified := by
  rintro s k x t0 t1 st rfl pressAt station duressDl stuckDl
  have ended (press : (s.loops.get k).state.inPress = true) : loopChange k .normal t1 s = idleLoop k (endPress k t1 s) := by
    rw [loopChange_eq duressDl stuckDl]
    exact loopTakes_rest press
  refine ⟨fun press short => ?_, fun press long corridor => ?_, fun v e dl press long place listed lone => ?_,
    fun v lone press long place timer => ?_, fun duress => ?_⟩
  · rw [ended (inPress_iff.2 (press.imp_right fun h => .inr (.inl h))), endPress_bounce pressAt station press short, idleLoop_raise]
  · rw [ended (inPress_iff.2 (press.imp_right fun h => .inr (.inl h))), endPress_meant pressAt station press long,
      shortMeaning_corridor corridor, idleLoop_raise]
  · have checkIn : (s.rooms.get v).buzzer = true := buzzer_iff.2 ⟨dl, lone⟩
    rw [ended (inPress_iff.2 (.inl press)), endPress_meant pressAt station (.inl press) long, shortMeaning_room place, if_pos checkIn,
      shortPress_lone (.inr ⟨by simp [lone], rfl⟩), stationEvidence_eq]
    simp [listed, idleLoop, State.setLoop]
    rfl
  · have called : ¬(s.rooms.get v).buzzer = true := by
      rw [buzzer_iff]
      rintro ⟨dl, prompt⟩
      rcases timer with ⟨off, -⟩ | ⟨⟨_, running⟩, -⟩ <;> simp_all
    have timed : shortPress v (raise .stationCall (.loop k) (some (.station st)) s) = { raise .stationCall (.loop k) (some (.station st)) s with
        rooms := put s.rooms v { s.rooms.get v with lone := lone } } := by
      rw [shortPress_lone (lone := lone) (by simpa using timer.imp_right fun ⟨⟨_, running⟩, e⟩ => ⟨by simp [running], e⟩), raise_rooms]
    rw [ended (inPress_iff.2 (.inl press)), endPress_meant pressAt station (.inl press) long, shortMeaning_room place, if_neg called, timed,
      stationEvidence_eq]
    refine ⟨fun listed => by simp [listed, idleLoop, State.setLoop], fun empty => ?_⟩
    have loops (u : State) : ((if (s.rooms.get v).evidence then id else reportE v) u).loops = u.loops := by
      split
      · rfl
      · exact (reportE_reach v u).rooms.loops
    simp [empty, idleLoop, State.setLoop, loops]
  · rw [ended (inPress_iff.2 (duress.elim (.inr ∘ .inl) (.inr ∘ .inr ∘ .inr))), endPress_duress station duress, idleLoop_raise]

/-! ## What a loop makes of each band (R22, R24, R26, R29 to R32) -/

/-- A deadline that a band finds passed is the one its own event takes: taking it once leaves nothing to take again. -/
theorem loopChange_after_duress {k : LoopId} {dl t1 : Nat} (b : Band) (le : dl ≤ t1) (deadline : (s.loops.get k).duressDl = some dl) :
    loopChange k b t1 s = loopChange k b t1 (asOf dl (takeDuress k) s) := by
  by_cases press : (s.loops.get k).state.beforeDuress = true
  · obtain ⟨rooms, zones, reach, -⟩ := duressTaken_reach k (s.loops.get k).heldStation (s.asAt dl)
    have taken : takeDuress k (s.asAt dl) = (s.asAt dl).duressTaken k (s.loops.get k).heldStation :=
      takeDuress_eq (by rwa [asAt_loops, ← beforeDuress_iff]) (by rw [asAt_loops])
    have loops : (asOf dl (takeDuress k) s).loops = (duressRaised k (s.loops.get k).heldStation (s.asAt dl)).loops := by
      rw [asOf, taken]
      exact reach.loops
    have cleared : ((asOf dl (takeDuress k) s).loops.get k).duressDl = none := by
      rw [loops]
      simp [duressRaised]
    rw [loopChange, loopChange, deadlinesFirst_stuck (s := asOf dl (takeDuress k) s) (n := t1) (by rw [cleared]; rfl), deadlinesFirst, deadline,
      takeBy_due _ le]
  · rw [asOf_id (takeDuress_none (by simpa using press))]

theorem loopChange_after_stuck {k : LoopId} {dl t1 : Nat} (b : Band) (le : dl ≤ t1) (none_due : (s.loops.get k).duressDl = none)
    (deadline : (s.loops.get k).stuckDl = some dl) : loopChange k b t1 s = loopChange k b t1 (asOf dl (takeStuck k) s) := by
  by_cases press : (s.loops.get k).state.inPress = true
  · have taken : takeStuck k (s.asAt dl) = (s.asAt dl).stuckTaken k (s.loops.get k).heldStation :=
      takeStuck_eq (by rwa [asAt_loops]) (by rw [asAt_loops])
    have record : (asOf dl (takeStuck k) s).loops.get k = { s.loops.get k with state := .stuck, duressDl := none, stuckDl := none } := by
      rw [asOf, taken]
      simp [State.stuckTaken]
    rw [loopChange, loopChange, deadlinesFirst_none (s := asOf dl (takeStuck k) s) (n := t1) (by rw [record]; rfl) (by rw [record]; rfl),
      deadlinesFirst_stuck (by rw [none_due]; rfl), deadline, takeBy_due _ le]
  · rw [asOf_id (takeStuck_none (by simpa using press))]

/-- A press that begins, in a state with the loops and the settings of `s`. -/
theorem beginPress_eq {u : State} (k : LoopId) (st : StationNo) (n : Nat) (nv : u.nv = s.nv) (loops : u.loops = s.loops) :
    beginPress k st n u = { u with loops := put s.loops k {
      state := if st = 0 then .unresolved else .pressed, station := some st, pressAt := some n
      duressDl := some (n + (s.loopSettings k).tDuress), stuckDl := some (n + (s.loopSettings k).tStuck * 1000) } } := by
  have settings : u.loopSettings k = s.loopSettings k := by rw [State.loopSettings, nv]; rfl
  rw [beginPress, settings, State.setLoop, loops]
  rfl

/-- A station's band, and UNCLASSIFIED for station 0, is a press. -/
theorem loopSignal_pressed {b : Band} {st : StationNo}
    (names : (∃ j : Fin 6, b = .station j ∧ st.val = j.val + 1) ∨ b = .unclassified ∧ st = 0) :
    loopSignal b = .pressed st ∧ (st = 0 ↔ b = .unclassified) := by
  rcases names with ⟨j, rfl, number⟩ | ⟨rfl, rfl⟩
  · have station : st = ⟨j.val + 1, by omega⟩ := Fin.ext number
    rw [station]
    exact ⟨rfl, fun zero => absurd (congrArg Fin.val zero) (Nat.succ_ne_zero _), nofun⟩
  · simp [loopSignal]

/-- Settles O13: a loop takes a band in the state that its passed deadlines have left. -/
theorem loopTakesBandsInOrder : Obligations.LoopTakesBandsInOrder := by
  refine ⟨?_, ?_⟩
  · rintro s k x t1 rfl duressDl stuckDl
    have takes (b : Band) := loopChange_eq duressDl stuckDl b
    refine ⟨?_, ?_, fun idle => ?_, fun fault => ?_, fun st stuck station => ?_⟩
    · rintro b st press names rfl
      obtain ⟨pressed, unclassified⟩ := loopSignal_pressed names
      simp only [← unclassified]
      refine ⟨fun idle => ?_, fun press => ?_, fun waits => ?_⟩
      · rw [takes, pressed, ← beginPress_eq k st t1 rfl rfl]
        simp [loopTakes, idle]
      · have under := inPress_iff.2 press
        rw [takes, takes, pressed, loopTakes_pressed under, loopSignal, loopTakes_rest under]
        refine ⟨fun other => ?_, fun same => if_pos same⟩
        have reach := endPress_reach k t1 s
        rw [if_neg other, beginPress_eq k st t1 reach.nv reach.loops]
        rfl
      · rw [takes, pressed, loopTakes_waits waits (by simp)]
    · rintro b fault
      have faulted : loopSignal b = .faulted := by rcases fault with rfl | rfl <;> rfl
      rw [takes, faulted]
      exact ⟨fun waits => loopTakes_waits waits (by simp), fun notFault notStuck => loopTakes_faulted notFault notStuck⟩
    · rw [takes]
      simp [loopTakes, loopSignal, idle]
    · rw [takes]
      simp [loopTakes, loopSignal, fault]
      rfl
    · rw [takes]
      simp [loopTakes, loopSignal, stuck, raiseLoop, heldStation_eq station]
      rfl
  · rintro s k b t1 dl on le past
    have reached : dl ≤ s.now := Nat.le_trans le past
    refine ⟨fun deadline => ⟨_, powered_on on, ?_⟩, fun noDuress deadline => ⟨_, powered_on on, ?_⟩⟩
    · rw [deadline, takeBy_due _ reached]
      exact loopChange_after_duress b le deadline
    · rw [deadline, whenDue_some _ reached, deadlinesFirst_stuck (by rw [noDuress]; rfl), deadline, takeBy_due _ reached]
      exact loopChange_after_stuck b le noDuress deadline

end Sys2Proof.Machine


/-! Laws of zones: the changes of a zone's state, in the words of the obligations. -/

namespace Sys2Proof.Machine

variable {s t : State}

/-! ## Requests that act on one object -/

@[simp] theorem withObject_some {α : Type} (a : α) (f : α → State → State) (s : State) : withObject (some a) f s = f a s := rfl

@[simp] theorem withObject_none {α : Type} (f : α → State → State) (s : State) : withObject none f s = answer .badValue s := rfl

/-- A request that is performed without reaching the outstanding one is answered OK after it. -/
theorem performed_eq {f : State → State} {r : Request} (reach : BandOnly s (f s)) (h : s.link.outstanding = some r) :
    performed f s = (f s).withReply r.kind r.tag .ok .none :=
  answer_outstanding .ok (reach.outstanding.trans h)

theorem withReply_last (kind tag : Nat) (st : Status) (data : ReplyData) (s : State) :
    (s.withReply kind tag st data).link.tx.getLast? = some ⟨kind, tag, st, data, .plain⟩ := by
  simp [State.withReply]

/-! ## The entry to RELEASE (R50, R51, R53, R59, R84, R85) -/

theorem openReported_eq (d : Option DoorId) (s : State) : reportOpenDoor d s = s.openReported d := by
  cases d <;> rfl

theorem queueArmed_acts_get (a b : ActId) (s : State) : (queueArmed a s).acts.get b =
    if b = a then { s.acts.get b with state := .queued, attempts := 0, nextTest := none } else s.acts.get b := by
  by_cases same : b = a
  · subst same
    simp [queueArmed]
  · simp [queueArmed, same]

theorem queueAll_acts_get (l : List ActId) (b : ActId) (s : State) : (queueAll l s).acts.get b =
    if b ∈ l then { s.acts.get b with state := .queued, attempts := 0, nextTest := none } else s.acts.get b := by
  induction l generalizing s with
  | nil => rfl
  | cons a rest ih =>
    rw [queueAll_cons, ih, queueArmed_acts_get]
    by_cases head : b = a <;> by_cases tail : b ∈ rest <;> simp [head, tail]

/-- The handed-over actuators are queued with no attempt and no test to come, whatever their order. -/
theorem queueAll_eq (l : List ActId) (s : State) : queueAll l s = { s with
    acts := Vector.ofFn (fun a => if a ∈ l then { s.acts.get a with state := .queued, attempts := 0, nextTest := none } else s.acts.get a)
    bank := { s.bank with queue := s.bank.queue ++ l } } := by
  obtain ⟨acts, bank, e⟩ := queueAll_reach l s
  have queued : bank = { s.bank with queue := s.bank.queue ++ l } := by rw [← queueAll_bank l s, e]
  have handed : acts = Vector.ofFn (fun a =>
      if a ∈ l then { s.acts.get a with state := .queued, attempts := 0, nextTest := none } else s.acts.get a) :=
    table_ext fun a => by rw [ofFn_get, ← queueAll_acts_get l a s, e]
  rw [e, queued, handed]

theorem armedQueued_eq (z : ZoneId) (s : State) : s.armedQueued z = queueAll (s.armedOf z) s := (queueAll_eq ..).symm

theorem openReported_acts (d : Option DoorId) (s : State) : (s.openReported d).acts = s.acts := by
  rw [← openReported_eq]
  exact (reportOpenDoor_reach d s).acts

theorem enterRelease_spec (z : ZoneId) (s : State) : enterRelease z s = s.releaseEntered z := by
  have recorded : ∃ u, releaseRecorded z s = u ∧ u.acts = s.acts := ⟨_, rfl, releaseRecorded_acts z s⟩
  obtain ⟨u, made, acts⟩ := recorded
  have armed : u.armedOf z = s.armedOf z := by rw [State.armedOf, acts]; rfl
  have handed : releaseHanded z s = handZone z (grantPulses (u.armedQueued z)) := by
    rw [releaseHanded, made, armedQueued_eq, armed]
  have spec : s.releaseEntered z = if s.armedOf z = [] then failRelease z (handZone z (grantPulses (u.armedQueued z)))
      else handZone z (grantPulses (u.armedQueued z)) := by
    rw [← made, releaseRecorded, openReported_eq, openReported_eq]
    rfl
  rw [spec, enterRelease_eq, handed]
  simp only [List.isEmpty_iff]

/-! ## Countdowns (R43, R45, R47 to R49, R59, R72, R73) -/

theorem takeExpiry_spec {z : ZoneId} {c : Countdown} (h : (s.zones.get z).countdown = some c) : takeExpiry z s = s.expiryTaken z c.kind := by
  have holds : s.expiryHolds z c.kind = true ↔
      c.kind = .automatic ∧ (s.zoneSettings z).hold = true ∧ 1 ≤ (s.rooms.get z).effective := by
    rw [State.expiryHolds, Bool.and_eq_true, Bool.and_eq_true, decide_eq_true_eq, decide_eq_true_eq, and_assoc]
    rfl
  unfold takeExpiry State.expiryTaken
  simp only [h, holds, enterRelease_spec]
  rfl

/-- A countdown entered in a state whose record has been brought up to date to `x` without a change of its state. -/
theorem runCountdown_spec {z : ZoneId} {x : Zone} (c : Countdown) (detail : Named) (h : x.state = (s.zones.get z).state) :
    runCountdown z c detail (s.setZone z x) = s.countdownEntered z x c detail := by
  have running (u : State) (zone : (u.zones.get z).countdown = some c) : (if c.remaining = 0 then takeExpiry z u else u) =
      if c.remaining = 0 then u.expiryTaken z c.kind else u := by rw [takeExpiry_spec zone]
  unfold runCountdown State.countdownEntered
  simp only [State.setZone, put_get_same, put_put, h]
  refine running _ ?_
  split
  · simp
  · rw [(handZone_reach ..).zones]
    simp

theorem runCountdown_same (z : ZoneId) (c : Countdown) (detail : Named) (s : State) :
    runCountdown z c detail s = s.countdownEntered z (s.zones.get z) c detail := by
  have same : s.setZone z (s.zones.get z) = s := congrArg (fun zones => { s with zones := zones }) (put_same _ _)
  rw [← runCountdown_spec c detail rfl, same]

theorem holdCountdown_spec (z : ZoneId) (x : Zone) (c : Countdown) (s : State) : holdCountdown z c (s.setZone z x) = s.holdEntered z x c := by
  simp only [holdCountdown, State.holdEntered, State.setZone, put_get_same, put_put]

theorem holdCountdown_same (z : ZoneId) (c : Countdown) (s : State) : holdCountdown z c s = s.holdEntered z (s.zones.get z) c := rfl

theorem automaticEntry_spec (z : ZoneId) (s : State) : automaticEntry z s = s.crossZoned z := by
  unfold automaticEntry State.crossZoned
  dsimp only
  rw [holdCountdown_spec]
  simp only [runCountdown_spec (z := z) (x := { s.zones.get z with peak := s.occupancy z, override := false }) (s := s) _ _ rfl]
  rfl

/-! ## Latches (R40, R42, R43, R54, R57) -/

/-- The zone with the latch of a detector set. -/
def Zone.latched (isB : Bool) (x : Zone) : Zone := if isB then { x with latchB := true } else { x with latchA := true }

/-- A latch that was clear has been set. -/
def latched (z : ZoneId) (isB : Bool) (s : State) : State :=
  raise .detectorLatched (.zone z) (some (.named (detectorName isB))) { s with zones := put s.zones z ((s.zones.get z).latched isB) }

theorem setLatch_clear {z : ZoneId} {isB : Bool} (h : (if isB then (s.zones.get z).latchB else (s.zones.get z).latchA) = false) :
    setLatch z isB s = latched z isB s := by
  cases isB <;> simp_all [setLatch, latched, State.setZone, detectorName, Zone.latched]

theorem latchMoves_quiet {z : ZoneId} (isB : Bool) (quiet : (s.zones.get z).state = .quiet) : latchMoves z isB s =
    if (s.zones.get z).latchA = true ∧ (s.zones.get z).latchB = true then s.crossZoned z
    else if (s.zones.get z).latchA = true ∨ (s.zones.get z).latchB = true then
      handZone z (raise .zoneAlert (.zone z) (some (.named (detectorName isB))) { s with
        zones := put s.zones z { s.zones.get z with state := .alert } })
    else s := by
  simp only [latchMoves, quiet, Bool.and_eq_true, Bool.or_eq_true, automaticEntry_spec]
  rfl

theorem latchMoves_alert {z : ZoneId} (isB : Bool) (alert : (s.zones.get z).state = .alert) : latchMoves z isB s =
    if (s.zones.get z).latchA = true ∧ (s.zones.get z).latchB = true then s.crossZoned z else s := by
  simp only [latchMoves, alert, Bool.and_eq_true, automaticEntry_spec]

/-- Outside QUIET and ALERT a latch moves nothing. -/
theorem latchMoves_later {z : ZoneId} (isB : Bool) (quiet : (s.zones.get z).state ≠ .quiet) (alert : (s.zones.get z).state ≠ .alert) :
    latchMoves z isB s = s := by
  unfold latchMoves
  cases state : (s.zones.get z).state <;> simp_all

theorem AccessOnly.ownBand (h : AccessOnly s t) (l : LineId) : t.ownBand l = s.ownBand l := by
  rw [State.ownBand, State.band, h.sup, h.lines]
  rfl

/-- What the detectors in ALARM do to a zone that has just become QUIET, `a` and `b` saying which they are. -/
def alarmsLatched (z : ZoneId) (a b : Bool) (s : State) : State :=
  let u := if a then latched z false s else s
  let w := if b then latched z true u else u
  if a ∧ b then w.crossZoned z
  else if a ∨ b then
    handZone z (raise .zoneAlert (.zone z) (some (.named (if a then .detectorA else .detectorB))) { w with
      zones := put w.zones z { w.zones.get z with state := .alert } })
  else w

@[simp] theorem latched_zone (z : ZoneId) (isB : Bool) (s : State) : (latched z isB s).zones.get z = (s.zones.get z).latched isB := by
  simp [latched]

theorem relatch_spec {z : ZoneId} (quiet : (s.zones.get z).state = .quiet) (clearA : (s.zones.get z).latchA = false)
    (clearB : (s.zones.get z).latchB = false) :
    relatch z s = alarmsLatched z (s.ownBand (detectorALine z) = .alarm) (s.ownBand (detectorBLine z) = .alarm) s := by
  have first : setLatch z false s = latched z false s := setLatch_clear clearA
  have second : setLatch z true s = latched z true s := setLatch_clear clearB
  have both : setLatch z true (latched z false s) = latched z true (latched z false s) :=
    setLatch_clear (by simpa [Zone.latched] using clearB)
  unfold relatch alarmsLatched
  by_cases a : s.ownBand (detectorALine z) = .alarm <;> by_cases b : s.ownBand (detectorBLine z) = .alarm
  · simp only [a, b, decide_true, if_true, first, both]
    rw [latchMoves_quiet _ (by simpa [Zone.latched] using quiet)]
    simp [Zone.latched]
  · simp only [a, b, decide_true, decide_false, if_true, first]
    rw [latchMoves_quiet _ (by simpa [Zone.latched] using quiet)]
    simp [Zone.latched, clearB, detectorName]
  · simp only [a, b, decide_true, decide_false, if_true, Bool.false_eq_true, if_false, second]
    rw [latchMoves_quiet _ (by simpa [Zone.latched] using quiet)]
    simp [Zone.latched, clearA, detectorName]
  · simp only [a, b, decide_false]
    rw [latchMoves_quiet _ (by simpa using quiet)]
    simp [clearA, clearB]

/-- The record of a zone that returns to QUIET. -/
def Zone.quieted (x : Zone) : Zone := { x with state := .quiet, latchA := false, latchB := false }

/-- The zone has returned to QUIET and the other blocks have been told. -/
def quietHanded (z : ZoneId) (x : Zone) (s : State) : State :=
  handZone z (raise .zoneQuiet (.zone z) none { s with zones := put s.zones z x.quieted })

theorem quietHanded_reach (z : ZoneId) (x : Zone) (s : State) :
    AccessOnly { s with zones := put s.zones z x.quieted } (quietHanded z x s) := (raise_reach ..).trans (handZone_reach ..)

theorem quietHanded_zone (z : ZoneId) (x : Zone) (s : State) : (quietHanded z x s).zones.get z = x.quieted := by
  rw [(quietHanded_reach z x s).zones, put_get_same]

theorem quietHanded_ownBand (z : ZoneId) (x : Zone) (s : State) (l : LineId) : (quietHanded z x s).ownBand l = s.ownBand l :=
  (quietHanded_reach z x s).ownBand l

theorem enterQuiet_eq (z : ZoneId) (x : Zone) (s : State) : enterQuiet z x s =
    alarmsLatched z (s.ownBand (detectorALine z) = .alarm) (s.ownBand (detectorBLine z) = .alarm) (quietHanded z x s) := by
  have told : enterQuiet z x s = relatch z (quietHanded z x s) := rfl
  have zone := quietHanded_zone z x s
  rw [told, relatch_spec (by rw [zone]; rfl) (by rw [zone]; rfl) (by rw [zone]; rfl), quietHanded_ownBand, quietHanded_ownBand]

theorem enterQuiet_spec (z : ZoneId) (x : Zone) (s : State) : enterQuiet z x s = s.quietEntered z x := by
  rw [enterQuiet_eq]
  unfold alarmsLatched State.quietEntered
  simp only [decide_eq_true_eq]
  rfl

/-! ## What they reach -/

/-- A countdown entered above 0 ms writes the zone's record and reaches the access fields. -/
theorem countdownEntered_reach {z : ZoneId} (x : Zone) {c : Countdown} (detail : Named) (above : 0 < c.remaining) (s : State) :
    AccessOnly { s with zones := put s.zones z { x with state := .predischarge, countdown := some c } }
      (s.countdownEntered z x c detail) := by
  unfold State.countdownEntered
  simp only [if_neg (Nat.ne_of_gt above)]
  exact .ite (raise_reach ..) ((raise_reach ..).trans (handZone_reach ..))

theorem holdEntered_reach (z : ZoneId) (x : Zone) (c : Countdown) (s : State) :
    AccessOnly { s with zones := put s.zones z { x with state := .held, countdown := some c, holdDl := none } } (s.holdEntered z x c) :=
  (raise_reach ..).trans (handZone_reach ..)

/-- What reaches the access fields beside a record of zones, written out. -/
theorem AccessOnly.zones_eq {zones : Vector Zone 12} (h : AccessOnly { s with zones := zones } t) :
    t.zones = zones ∧ t = { s with zones := t.zones, grants := t.grants, doors := t.doors, vests := t.vests, locations := t.locations,
                                   link := t.link } := by
  obtain ⟨_, _, _, _, _, _, _, rfl⟩ := h
  exact ⟨rfl, rfl⟩

theorem ReleaseOnly.all_eq (h : ReleaseOnly s t) : t = { s with
    zones := t.zones, acts := t.acts, bank := t.bank, store := t.store, grants := t.grants, doors := t.doors, vests := t.vests
    locations := t.locations, link := t.link } := by
  obtain ⟨_, _, _, _, _, rfl, _, _, _, _, _, _, _, rfl⟩ := h
  rfl

end Sys2Proof.Machine


/-! Proofs about suppression zones: expiry, latches, the station line, RELEASE_ZONE, soak, vent, reset and isolation. -/

namespace Sys2Proof.Machine

variable {s t : State}

/-! ## Expiry and the hold limit (R49, R50, R73, R75, R76) -/

theorem expiryTaken_holds {z : ZoneId} {kind : CountdownKind}
    (holds : kind = .automatic ∧ (s.zoneSettings z).hold = true ∧ 1 ≤ (s.rooms.get z).effective) :
    AccessOnly { s with zones := put s.zones z { s.zones.get z with
      state := .heldOccupied, countdown := none, holdDl := some (s.now + (s.zoneSettings z).limit * 1000) } } (s.expiryTaken z kind) := by
  rw [State.expiryTaken, if_pos holds]
  exact (raise_reach ..).trans (handZone_reach ..)

theorem expiryTaken_releases {z : ZoneId} {kind : CountdownKind}
    (releases : ¬(kind = .automatic ∧ (s.zoneSettings z).hold = true ∧ 1 ≤ (s.rooms.get z).effective)) :
    s.expiryTaken z kind = enterRelease z s := by
  rw [State.expiryTaken, if_neg releases, enterRelease_spec]

/-- Settles O14: the expiry of a countdown holds or releases, and every other end releases. -/
theorem countdownAndHoldEndsRelease : Obligations.CountdownAndHoldEndsRelease := by
  refine ⟨fun s z kind on state countdown => ?_, fun s z dl on state holdDl le => ?_, fun s z state empty => ?_⟩
  · have expired : (s.zones.get z).expired = true := by simp [Zone.expired, state, countdown]
    have taken : exec (.countdownExpiry z) s = .next (s.expiryTaken z kind) :=
      (powered_on on).trans (congrArg _ ((if_pos expired).trans (takeExpiry_spec countdown)))
    refine ⟨s.expiryTaken z kind, taken, fun holds => ?_, fun releases => ?_, rfl⟩
    · exact (expiryTaken_holds holds).zones_eq.symm
    · rw [expiryTaken_releases releases]
      exact ⟨enterRelease_entersRelease z s, (enterRelease_reach z s).all_eq⟩
  · have taken : exec (.holdDeadline z) s = .next (enterRelease z s) := by
      refine (powered_on on).trans (congrArg _ ((if_pos state).trans ?_))
      rw [holdDl, whenDue_some _ le]
    exact ⟨enterRelease z s, taken, enterRelease_entersRelease z s, enterRelease_spec z s, (enterRelease_reach z s).all_eq⟩
  · rw [reportE_heldOccupied state, if_pos empty, enterRelease_spec]

/-! ## The detectors of a zone (R40 to R43, R65, R68, R69) -/

theorem isDegraded_iff (z : ZoneId) (s : State) : s.isDegraded z = true ↔
    s.band (detectorALine z) = .short ∨ s.band (detectorALine z) = .openLine ∨ s.band (detectorALine z) = .unclassified ∨
    s.band (detectorBLine z) = .short ∨ s.band (detectorBLine z) = .openLine ∨ s.band (detectorBLine z) = .unclassified := by
  have detector : LineClass.detector ≠ .staff := by decide
  simp only [State.isDegraded, Bool.or_eq_true, faultBand_other detector, or_assoc]

theorem detectorAlarm_clear {z : ZoneId} {isB : Bool} (h : (if isB then (s.zones.get z).latchB else (s.zones.get z).latchA) = false) :
    detectorAlarm z isB s = latchMoves z isB (latched z isB s) := by
  rw [detectorAlarm]
  simp only [h, Bool.false_eq_true, if_false, setLatch_clear h]

theorem foldl_fixed {α : Type} {f : State → α → State} (l : List α) (h : ∀ a ∈ l, f s a = s) : l.foldl f s = s := by
  induction l with
  | nil => rfl
  | cons a rest ih => rw [List.foldl_cons, h a List.mem_cons_self, ih fun b mem => h b (List.mem_cons_of_mem a mem)]

/-- A change that does nothing for any object does nothing. -/
theorem forEach_fixed {n : Nat} {f : Fin n → State → State} (h : ∀ i, f i s = s) : forEach f s = s := foldl_fixed _ fun i _ => h i

/-- Without a grant the hand-over of a state other than RELEASE does nothing. -/
theorem handZone_ungranted {z : ZoneId} (ungranted : ∀ d, s.grants.get d = none) (state : (s.zones.get z).state ≠ .release) :
    handZone z s = s := by
  have cancelled : cancelHazard z s = s := forEach_fixed fun d => by simp [State.hazardous, ungranted]
  unfold handZone
  dsimp only
  rw [cancelled, if_neg state]

/-- A zone that has not yet an entry above 0 ms has it. -/
theorem crossZoned_reach {z : ZoneId} {e left : Nat} (effective : (s.rooms.get z).effective = e)
    (entry : min ((s.zoneSettings z).tMax * 1000) (((s.zoneSettings z).base + (s.zoneSettings z).ext * e) * 1000) = left)
    (above : 0 < left) : AccessOnly { s with zones := put s.zones z { s.zones.get z with
      state := if s.ownBand (stationLine z) = .abort then .held else .predischarge
      override := false, peak := e
      holdDl := if s.ownBand (stationLine z) = .abort then none else (s.zones.get z).holdDl
      countdown := some ⟨.automatic, left⟩ } } (s.crossZoned z) := by
  subst effective entry
  unfold State.crossZoned
  dsimp only
  split
  · exact holdEntered_reach ..
  · exact countdownEntered_reach _ _ above s

/-- A report to a countdown extends an automatic one by what lies above its peak. -/
theorem reportE_countdown {z : ZoneId} {c : Countdown} (state : (s.zones.get z).state = .predischarge ∨ (s.zones.get z).state = .held)
    (countdown : (s.zones.get z).countdown = some c) : reportE z s =
    if c.kind = .automatic ∧ (s.zones.get z).peak < (s.rooms.get z).effective then
      { s with zones := put s.zones z { s.zones.get z with
        peak := (s.rooms.get z).effective
        countdown := some { c with remaining := min ((s.zoneSettings z).tMax * 1000) (c.remaining + (s.zoneSettings z).ext * 1000 *
          ((s.rooms.get z).effective - (s.zones.get z).peak)) } } }
    else s := by
  rcases state with state | state <;> simp only [reportE, state, countdown, Bool.and_eq_true, decide_eq_true_eq] <;> rfl

theorem reportE_elsewhere {z : ZoneId} (predischarge : (s.zones.get z).state ≠ .predischarge) (held : (s.zones.get z).state ≠ .held)
    (heldOccupied : (s.zones.get z).state ≠ .heldOccupied) : reportE z s = s := by
  unfold reportE
  cases state : (s.zones.get z).state <;> simp_all

theorem decide_isDegraded (z : ZoneId) (s : State) : decide (s.band (detectorALine z) = .short ∨ s.band (detectorALine z) = .openLine ∨
    s.band (detectorALine z) = .unclassified ∨ s.band (detectorBLine z) = .short ∨ s.band (detectorBLine z) = .openLine ∨
    s.band (detectorBLine z) = .unclassified) = s.isDegraded z := by
  rw [Bool.eq_iff_iff, decide_eq_true_iff, isDegraded_iff]

theorem latched_state (isB : Bool) (x : Zone) : (x.latched isB).state = x.state := by cases isB <;> rfl

/-- The first latch of a QUIET zone makes it ALERT. -/
theorem detectorAlarm_first {z : ZoneId} (isB : Bool) (quiet : (s.zones.get z).state = .quiet) (clearA : (s.zones.get z).latchA = false)
    (clearB : (s.zones.get z).latchB = false) : detectorAlarm z isB s =
    handZone z (raise .zoneAlert (.zone z) (some (.named (detectorName isB))) (raise .detectorLatched (.zone z)
      (some (.named (detectorName isB))) { s with
        zones := put s.zones z { s.zones.get z with state := .alert, latchA := !isB, latchB := isB } })) := by
  rw [detectorAlarm_clear (by cases isB <;> assumption), latchMoves_quiet isB (by rw [latched_zone, latched_state, quiet])]
  cases isB <;> simp [latched, Zone.latched, clearA, clearB] <;> rfl

/-- The second latch of an alerting zone begins an automatic countdown. -/
theorem detectorAlarm_second {z : ZoneId} (isB : Bool) (alert : (s.zones.get z).state = .alert)
    (other : (if isB then (s.zones.get z).latchA else (s.zones.get z).latchB) = true)
    (clear : (if isB then (s.zones.get z).latchB else (s.zones.get z).latchA) = false) : detectorAlarm z isB s =
    (raise .detectorLatched (.zone z) (some (.named (detectorName isB))) { s with
      zones := put s.zones z { s.zones.get z with latchA := true, latchB := true } }).crossZoned z := by
  rw [detectorAlarm_clear clear, latchMoves_alert isB (by rw [latched_zone, latched_state, alert])]
  cases isB <;> simp_all [latched, Zone.latched]

/-- Settles O16: a latch moves the zone by its state, and a report of E extends an automatic countdown alone. -/
theorem automaticCountdownBeginsAndGrows : Obligations.AutomaticCountdownBeginsAndGrows := by
  refine ⟨fun s z isB b => ?_, ?_, ?_, ?_, fun s z => reportE_elsewhere⟩
  · rw [detectorChange, State.setZone, ← decide_isDegraded]
    split <;> rfl
  · rintro s z isB x name rfl rfl
    refine ⟨fun set => ?_, fun quiet clearA clearB t e => ?_, fun alert other clear => ?_, fun clear quiet alert => ?_⟩
    · rw [detectorAlarm]
      simp only [set, if_true]
    · have alerted := detectorAlarm_first isB quiet clearA clearB
      rw [e] at alerted
      have reach : AccessOnly _ t := alerted ▸ ((raise_reach ..).trans (raise_reach ..)).trans (handZone_reach ..)
      obtain ⟨zones, rest⟩ := reach.zones_eq
      refine ⟨zones, rest, fun ungranted => ?_, alerted⟩
      have stands := alerted.trans (handZone_ungranted (by simpa using ungranted) (by simp))
      rw [stands]
      rfl
    · exact detectorAlarm_second isB alert other clear
    · rw [detectorAlarm_clear clear, latchMoves_later isB (by rwa [latched_zone, latched_state]) (by rwa [latched_zone, latched_state])]
      cases isB <;> simp [latched, Zone.latched, detectorName] <;> rfl
  · rintro s z isB e left alert other clear rfl rfl above t rfl
    rw [detectorAlarm_second isB alert other clear]
    have reach := crossZoned_reach (z := z) (s := raise .detectorLatched (.zone z) (some (.named (detectorName isB))) { s with
      zones := put s.zones z { s.zones.get z with latchA := true, latchB := true } }) rfl rfl above
    obtain ⟨zones, rest⟩ := reach.zones_eq
    refine ⟨zones.trans ?_, rest⟩
    simp only [raise_zones, put_get_same, put_put]
    rfl
  · rintro s z kind left e state countdown rfl
    rw [reportE_countdown state countdown]
    refine ⟨?_, ?_⟩
    · rintro rfl above
      rw [if_pos ⟨rfl, above⟩]
    · intro stays
      rw [if_neg]
      rintro ⟨automatic, above⟩
      rcases stays with manual | below
      · exact absurd (automatic.symm.trans manual) (by decide)
      · omega

/-! ## The station line and RELEASE_ZONE (R44 to R48, R66, R67, R70, R72) -/

theorem stationChange_abort (z : ZoneId) (s : State) : stationChange z .abort s = abort z s := rfl

theorem stationChange_manual (z : ZoneId) (s : State) : stationChange z .manual s = manualRelease z s := rfl

theorem stationChange_resume {z : ZoneId} {b : Band} (h : b = .normal ∨ b = .short ∨ b = .openLine ∨ b = .unclassified) :
    stationChange z b s = resumeCountdown z s := by
  rcases h with rfl | rfl | rfl | rfl <;> rfl

/-- What the zone's record becomes where an abort holds it. -/
theorem abort_holds {z : ZoneId} {y : Zone}
    (h : (match (s.zones.get z).state, (s.zones.get z).countdown with
      | .predischarge, some c =>
        if (s.zones.get z).override then none else some { s.zones.get z with state := .held, countdown := some c, holdDl := none }
      | .heldOccupied, _ => some { s.zones.get z with state := .held, countdown := some ⟨.automatic, 0⟩, holdDl := none }
      | _, _ => none) = some y) :
    abort z s = handZone z (raise .zoneHeld (.zone z) none { s with zones := put s.zones z y }) := by
  unfold abort
  split at h
  next c state countdown =>
    split at h
    · cases h
    next free =>
      cases h
      simp only [state, countdown]
      rw [if_neg free]
      rfl
  next state =>
    cases h
    simp only [state]
    rfl
  next => cases h

theorem manualRelease_begins {z : ZoneId} (state : (s.zones.get z).state = .quiet ∨ (s.zones.get z).state = .alert) :
    manualRelease z s = s.countdownEntered z { s.zones.get z with override := true, peak := 0 }
      ⟨.manual, (s.zoneSettings z).tMan * 1000⟩ .manual := by
  rcases state with state | state <;> simp only [manualRelease, state] <;> exact runCountdown_spec _ _ state.symm

theorem manualRelease_shortens {z : ZoneId} {c : Countdown} (state : (s.zones.get z).state = .predischarge ∨ (s.zones.get z).state = .held)
    (countdown : (s.zones.get z).countdown = some c) : manualRelease z s = s.countdownEntered z { s.zones.get z with override := true }
      ⟨.manual, min c.remaining ((s.zoneSettings z).tMan * 1000)⟩ .manual := by
  rcases state with state | state <;> simp only [manualRelease, state, countdown] <;> exact runCountdown_spec _ _ state.symm

theorem manualRelease_heldOccupied {z : ZoneId} (state : (s.zones.get z).state = .heldOccupied) : manualRelease z s = s.releaseEntered z := by
  simp only [manualRelease, state, enterRelease_spec]


/-- Settles O17: each band of the station line is an abort, the end of a hold or a manual release, by the state of the zone. -/
theorem stationBandsHoldAndResume : Obligations.StationBandsHoldAndResume := by
  rintro s z x rfl
  refine ⟨?_, fun stands other => ?_, fun b ends => ⟨fun c state countdown => ?_, fun c state countdown above t e => ?_, fun other => ?_⟩,
    fun state above t e => ?_, fun state => manualRelease_begins state, fun c state countdown => manualRelease_shortens state countdown,
    fun state => manualRelease_heldOccupied state, fun state => manualRelease_isolated state, fun state => ?_⟩
  · rintro t rfl y holds
    rw [stationChange_abort]
    have held := abort_holds holds
    have reach : AccessOnly { s with zones := put s.zones z y } (abort z s) := by
      rw [held]
      exact AccessOnly.trans (raise_reach _ _ _ _) (handZone_reach z _)
    exact ⟨reach.zones_eq.1, held, reach.zones_eq.2⟩
  · rw [stationChange_abort]
    by_cases state : (s.zones.get z).state = .predischarge
    · have override := stands.resolve_left (not_not_intro state)
      cases countdown : (s.zones.get z).countdown with
      | none => exact abort_other (fun _ => countdown) other
      | some c => rw [abort_counting state countdown, if_pos override]
    · exact abort_other (fun is => absurd is state) other
  · rw [stationChange_resume ends]
    simp only [resumeCountdown, state, countdown, runCountdown_same]
  · subst e
    rw [stationChange_resume ends]
    simp only [resumeCountdown, state, countdown, runCountdown_same]
    exact (countdownEntered_reach _ _ above s).zones_eq
  · rw [stationChange_resume ends]
    exact resumeCountdown_other fun state => absurd state other
  · subst e
    rw [stationChange_manual, manualRelease_begins state]
    exact (countdownEntered_reach _ _ (Nat.mul_pos above (by decide)) s).zones_eq
  · rw [stationChange_manual]
    exact manualRelease_released (by rcases state with state | state | state | state | state <;> rw [state] <;> rfl)

end Sys2Proof.Machine


/-! The host's requests on zones and the stages after a release. -/

namespace Sys2Proof.Machine

variable {s t : State}

theorem next_unique {r : Result} {t u : State} (h : r = .next t) (k : r = .next u) : t = u := by
  rw [h] at k
  cases k
  rfl

/-! ## RELEASE_ZONE (R45, R46) -/

theorem exec_releaseZone (tag : Nat) (z : ZoneId) (free : s.free) : exec (.releaseZone tag (number z)) s =
    .next (match (s.zones.get z).state with
      | .quiet | .alert | .predischarge | .held | .heldOccupied => performed (manualRelease z) (heard 0x43 tag s)
      | .isolated => answer .badState (manualRelease z (heard 0x43 tag s))
      | .release | .soak | .vent | .discharged | .releaseFailed => answer .badState (heard 0x43 tag s)) := by
  have taken : exec (.releaseZone tag (number z)) s = .next (performReleaseZone (number z) (heard 0x43 tag s)) :=
    onRequest_free 0x43 tag _ free
  rw [taken]
  simp only [performReleaseZone, fromOne_number, withObject_some]
  rfl

/-- RELEASE_ZONE is taken: a manual release and the OK reply. -/
theorem exec_releaseZone_taken {tag : Nat} {z : ZoneId} (free : s.free)
    (state : (s.zones.get z).state = .quiet ∨ (s.zones.get z).state = .alert ∨ (s.zones.get z).state = .predischarge ∨
      (s.zones.get z).state = .held ∨ (s.zones.get z).state = .heldOccupied) :
    exec (.releaseZone tag (number z)) s = .next ((manualRelease z (heard 0x43 tag s)).withReply 0x43 tag .ok .none) := by
  have reply := performed_eq (s := heard 0x43 tag s) (f := manualRelease z) (manualRelease_reach ..).band (heard_outstanding 0x43 tag s)
  rw [exec_releaseZone tag z free]
  rcases state with state | state | state | state | state <;> simp only [state] <;> exact congrArg _ reply

theorem exec_releaseZone_isolated {tag : Nat} {z : ZoneId} (free : s.free) (state : (s.zones.get z).state = .isolated) :
    exec (.releaseZone tag (number z)) s =
      .next ((raise .releaseIgnored (.zone z) none (heard 0x43 tag s)).withReply 0x43 tag .badState .none) := by
  rw [exec_releaseZone tag z free]
  simp only [state]
  rw [manualRelease_isolated (s := heard 0x43 tag s) state]
  exact congrArg _ (answer_outstanding .badState ((raise_reach ..).band.outstanding.trans (heard_outstanding 0x43 tag s)))

theorem exec_releaseZone_released {tag : Nat} {z : ZoneId} (free : s.free) (state : (s.zones.get z).state.released = true) :
    exec (.releaseZone tag (number z)) s = .next ((heard 0x43 tag s).withReply 0x43 tag .badState .none) := by
  rw [exec_releaseZone tag z free]
  have refused := answer_outstanding .badState (heard_outstanding 0x43 tag s)
  cases is : (s.zones.get z).state with
  | release | soak | vent | discharged | releaseFailed => exact congrArg _ refused
  | _ => rw [is] at state; cases state

/-- A request that reaches the release fields alone reaches no more than those and host presence with its reply. -/
theorem ReleaseOnly.replied {kind tag : Nat} (st : Status) (h : ReleaseOnly (heard kind tag s) t) :
    t.withReply kind tag st .none = { s with
      hostPresent := true, zones := t.zones, acts := t.acts, bank := t.bank, store := t.store, grants := t.grants
      doors := t.doors, vests := t.vests, locations := t.locations, link := (t.withReply kind tag st .none).link } := by
  obtain ⟨_, _, _, _, _, rfl, _, _, _, _, _, _, _, rfl⟩ := h
  rfl

/-- Settles O18: the request is a manual release of the state it is heard in, by the state of the zone. -/
theorem releaseZoneActsByState : Obligations.ReleaseZoneActsByState := by
  refine ⟨?_, ?_⟩
  · rintro s tag z man free rfl above
    have run := exec_releaseZone tag z free
    refine ⟨_, run, fun state => ?_, fun c state countdown left => ?_, fun state => ?_, fun state => ?_, fun state => ?_, fun state => ?_, ?_⟩
    · rw [next_unique run (exec_releaseZone_taken free (by grind)), manualRelease_begins (s := heard 0x43 tag s) state]
      exact (countdownEntered_reach _ _ above _).zones
    · rw [next_unique run (exec_releaseZone_taken free (by grind)),
        manualRelease_shortens (s := heard 0x43 tag s) state countdown]
      exact (countdownEntered_reach _ _ (Nat.lt_min.2 ⟨left, above⟩) _).zones
    · rw [next_unique run (exec_releaseZone_taken free (by grind)), manualRelease_occupied (s := heard 0x43 tag s) state]
      obtain ⟨zone, others, handed, rest, order, pulses, pause, mark⟩ := enterRelease_entersRelease z (heard 0x43 tag s)
      exact ⟨zone, others, handed, rest, order, pulses, pause, mark⟩
    · rw [next_unique run (exec_releaseZone_taken free state)]
      exact withReply_last ..
    · exact next_unique run (exec_releaseZone_isolated free state)
    · refine next_unique run (exec_releaseZone_released free ?_)
      rcases state with state | state | state | state | state <;> rw [state] <;> rfl
    · rcases ZoneState.cases (s.zones.get z).state with fresh | counting | occupied | isolated | released
      iterate 3
        · rw [next_unique run (exec_releaseZone_taken free (by grind))]
          exact (manualRelease_reach ..).replied .ok
      · rw [next_unique run (exec_releaseZone_isolated free isolated)]
        exact (raise_reach ..).release.replied .badState
      · rw [next_unique run (exec_releaseZone_released free released)]
        rfl
  · rintro s tag z x free rfl
    refine ⟨fun state => ?_, fun c state countdown => ?_, fun state => ?_⟩
    · rw [exec_releaseZone_taken free (by grind), manualRelease_begins (s := heard 0x43 tag s) state]
      rfl
    · rw [exec_releaseZone_taken free (by grind), manualRelease_shortens (s := heard 0x43 tag s) state countdown]
      rfl
    · rw [exec_releaseZone_taken free (by grind), manualRelease_heldOccupied (s := heard 0x43 tag s) state]
/-! ## The stages after a release, isolation and the return to QUIET (R42, R43, R53 to R57) -/

theorem AccessOnly.rezoned {before after : Vector Zone 12} (h : AccessOnly { s with zones := before } t) :
    AccessOnly { s with zones := after } { t with zones := after } := by
  obtain ⟨grants, doors, vests, locations, q, lost, tx, rfl⟩ := h
  exact ⟨grants, doors, vests, locations, q, lost, tx, rfl⟩

theorem latched_reach (z : ZoneId) (isB : Bool) (s : State) :
    AccessOnly { s with zones := put s.zones z ((s.zones.get z).latched isB) } (latched z isB s) := raise_reach ..

/-- The latch of one detector that is in ALARM makes the zone ALERT. -/
theorem alertedBy_reach {z : ZoneId} {x : Zone} (isB : Bool) (quiet : s.zones.get z = x.quieted) :
    AccessOnly { s with zones := put s.zones z { x with state := .alert, latchA := !isB, latchB := isB } }
      (handZone z (raise .zoneAlert (.zone z) (some (.named (detectorName isB))) { latched z isB s with
        zones := put (latched z isB s).zones z { (latched z isB s).zones.get z with state := .alert } })) := by
  have record : put (latched z isB s).zones z { (latched z isB s).zones.get z with state := .alert } =
      put s.zones z { x with state := .alert, latchA := !isB, latchB := isB } := by
    rw [latched_zone, quiet]
    cases isB <;> simp [latched, Zone.latched, Zone.quieted]
  rw [record]
  exact (latched_reach z isB s).rezoned.trans ((raise_reach ..).trans (handZone_reach ..))

theorem alarmsLatched_none (z : ZoneId) (s : State) : alarmsLatched z false false s = s := by
  simp [alarmsLatched]

theorem alarmsLatched_first (z : ZoneId) (s : State) : alarmsLatched z true false s =
    handZone z (raise .zoneAlert (.zone z) (some (.named (detectorName false))) { latched z false s with
      zones := put (latched z false s).zones z { (latched z false s).zones.get z with state := .alert } }) := by
  simp [alarmsLatched, detectorName]

theorem alarmsLatched_second (z : ZoneId) (s : State) : alarmsLatched z false true s =
    handZone z (raise .zoneAlert (.zone z) (some (.named (detectorName true))) { latched z true s with
      zones := put (latched z true s).zones z { (latched z true s).zones.get z with state := .alert } }) := by
  simp [alarmsLatched, detectorName]

theorem alarmsLatched_both (z : ZoneId) (s : State) :
    alarmsLatched z true true s = (latched z true (latched z false s)).crossZoned z := by
  simp [alarmsLatched]

/-- What the detectors in ALARM make of the record of a zone that has just become QUIET, and that no more is reached. -/
theorem alarmsLatched_relatched {z : ZoneId} {x : Zone} {a b held : Bool} {e left : Nat} (quiet : s.zones.get z = x.quieted)
    (abort : held = true ↔ s.ownBand (stationLine z) = .abort) (effective : (s.rooms.get z).effective = e)
    (entry : min ((s.zoneSettings z).tMax * 1000) (((s.zoneSettings z).base + (s.zoneSettings z).ext * e) * 1000) = left)
    (above : a = false ∨ b = false ∨ 0 < left) :
    AccessOnly { s with zones := put s.zones z (x.relatched a b held e left) } (alarmsLatched z a b s) := by
  cases a <;> cases b
  · have same : put s.zones z (x.relatched false false held e left) = s.zones := by
      have record : x.relatched false false held e left = s.zones.get z := by rw [quiet]; rfl
      rw [record, put_same]
    rw [alarmsLatched_none, same]
    exact .refl s
  · rw [alarmsLatched_second]
    exact alertedBy_reach true quiet
  · rw [alarmsLatched_first]
    exact alertedBy_reach false quiet
  · have both := latched_reach z true (latched z false s)
    have bands : (latched z true (latched z false s)).ownBand (stationLine z) = s.ownBand (stationLine z) :=
      (both.ownBand _).trans ((latched_reach z false s).ownBand _)
    have zone : (latched z true (latched z false s)).zones.get z = { x with state := .quiet, latchA := true, latchB := true } := by
      rw [latched_zone, latched_zone, quiet]
      rfl
    have record : put (latched z true (latched z false s)).zones z { x with
        state := if held then .held else .predischarge, latchA := true, latchB := true, override := false, peak := e
        holdDl := if held then none else x.holdDl, countdown := some ⟨.automatic, left⟩ } =
        put s.zones z (x.relatched true true held e left) := by
      simp [latched, Zone.relatched]
    have crossed := crossZoned_reach (s := latched z true (latched z false s)) (z := z) (e := e) (left := left)
      ((congrArg (fun r => (r.get z).effective) (both.rooms.trans (latched_reach z false s).rooms)).trans effective) 
      (by rw [State.zoneSettings, both.nv]; exact entry) (by simpa using above)
    rw [alarmsLatched_both, ← record]
    rw [zone, bands] at crossed
    have ends : held = decide (s.ownBand (stationLine z) = .abort) := by
      rw [← Bool.decide_coe held]
      exact decide_eq_decide.2 abort
    rw [ends]
    simp only [decide_eq_true_eq]
    exact (latched_reach z false s).rezoned.trans (both.rezoned.trans crossed)

theorem quietEntered_relatched {z : ZoneId} {x : Zone} {a b held : Bool} {e left : Nat}
    (alarmA : a = true ↔ s.ownBand (detectorALine z) = .alarm) (alarmB : b = true ↔ s.ownBand (detectorBLine z) = .alarm)
    (abort : held = true ↔ s.ownBand (stationLine z) = .abort) (effective : (s.rooms.get z).effective = e)
    (entry : min ((s.zoneSettings z).tMax * 1000) (((s.zoneSettings z).base + (s.zoneSettings z).ext * e) * 1000) = left)
    (above : a = false ∨ b = false ∨ 0 < left) :
    AccessOnly { s with zones := put s.zones z (x.relatched a b held e left) } (s.quietEntered z x) := by
  have reach := quietHanded_reach z x s
  have told := alarmsLatched_relatched (quietHanded_zone z x s) (by rw [quietHanded_ownBand]; exact abort)
    ((congrArg (fun r => (r.get z).effective) reach.rooms).trans effective) (by rw [State.zoneSettings, reach.nv]; exact entry) above
  have record : put (quietHanded z x s).zones z (x.relatched a b held e left) = put s.zones z (x.relatched a b held e left) := by
    rw [reach.zones, put_put]
  have first : decide (s.ownBand (detectorALine z) = .alarm) = a := by
    rw [← Bool.decide_coe a]
    exact decide_eq_decide.2 alarmA.symm
  have second : decide (s.ownBand (detectorBLine z) = .alarm) = b := by
    rw [← Bool.decide_coe b]
    exact decide_eq_decide.2 alarmB.symm
  rw [record] at told
  rw [← enterQuiet_spec, enterQuiet_eq, first, second]
  exact reach.rezoned.trans told

theorem exec_zoneReset (tag : Nat) (z : ZoneId) (free : s.free) : exec (.zoneReset tag (number z)) s =
    .next (match (s.zones.get z).state with
      | .alert => ((heard 0x42 tag s).quietEntered z (s.zones.get z)).withReply 0x42 tag .ok .none
      | .discharged | .releaseFailed => (({ heard 0x42 tag s with store := markQueued (.discharge z) false s }).quietEntered z
          { s.zones.get z with discharge := false, override := false }).withReply 0x42 tag .ok .none
      | _ => (heard 0x42 tag s).withReply 0x42 tag .badState .none) := by
  have taken : exec (.zoneReset tag (number z)) s = .next (performZoneReset (number z) (heard 0x42 tag s)) :=
    onRequest_free 0x42 tag _ free
  have alert := performed_eq (s := heard 0x42 tag s) (f := resetAlert z) (enterQuiet_reach ..).band (heard_outstanding 0x42 tag s)
  have discharged := performed_eq (s := heard 0x42 tag s) (f := resetDischarged z)
    ((requestMark_reach ..).trans (enterQuiet_reach ..)).band (heard_outstanding 0x42 tag s)
  have refused := answer_outstanding .badState (heard_outstanding 0x42 tag s)
  rw [taken]
  simp only [performZoneReset, fromOne_number, withObject_some, alert, discharged, resetAlert, resetDischarged, enterQuiet_spec, refused]
  rfl

theorem exec_zoneDeisolate (tag : Nat) (z : ZoneId) (free : s.free) : exec (.zoneDeisolate tag (number z)) s =
    .next (match (s.zones.get z).state with
      | .isolated => (({ heard 0x41 tag s with store := markQueued (.isolate z) false s }).quietEntered z
          { s.zones.get z with isolate := false, override := false }).withReply 0x41 tag .ok .none
      | _ => (heard 0x41 tag s).withReply 0x41 tag .badState .none) := by
  have taken : exec (.zoneDeisolate tag (number z)) s = .next (performZoneDeisolate (number z) (heard 0x41 tag s)) :=
    onRequest_free 0x41 tag _ free
  have isolated := performed_eq (s := heard 0x41 tag s) (f := deisolate z)
    ((requestMark_reach ..).trans (enterQuiet_reach ..)).band (heard_outstanding 0x41 tag s)
  have refused := answer_outstanding .badState (heard_outstanding 0x41 tag s)
  rw [taken]
  simp only [performZoneDeisolate, fromOne_number, withObject_some, isolated, deisolate, enterQuiet_spec, refused]
  rfl

theorem isolate_reach (z : ZoneId) (s : State) : AccessOnly { s with
    zones := put s.zones z { s.zones.get z with state := .isolated, isolate := true }, store := markQueued (.isolate z) true s }
    (isolate z s) := by
  unfold isolate
  exact AccessOnly.trans (raise_reach .zoneIsolated (.zone z) none _) (handZone_reach z _)

theorem isolate_outstanding (z : ZoneId) (s : State) : (isolate z s).link.outstanding = s.link.outstanding :=
  (isolate_reach z s).band.outstanding

theorem isolate_zones (z : ZoneId) (s : State) :
    (isolate z s).zones = put s.zones z { s.zones.get z with state := .isolated, isolate := true } := (isolate_reach z s).zones

theorem isolate_store (z : ZoneId) (s : State) : (isolate z s).store = markQueued (.isolate z) true s := (isolate_reach z s).store

theorem exec_zoneIsolate (tag : Nat) (z : ZoneId) (free : s.free) : exec (.zoneIsolate tag (number z)) s =
    .next (match (s.zones.get z).state with
      | .quiet | .alert => (isolate z (heard 0x40 tag s)).withReply 0x40 tag .ok .none
      | _ => (heard 0x40 tag s).withReply 0x40 tag .badState .none) := by
  have taken : exec (.zoneIsolate tag (number z)) s = .next (performZoneIsolate (number z) (heard 0x40 tag s)) :=
    onRequest_free 0x40 tag _ free
  have isolated := answer_outstanding .ok ((isolate_outstanding z (heard 0x40 tag s)).trans (heard_outstanding 0x40 tag s))
  have refused := answer_outstanding .badState (heard_outstanding 0x40 tag s)
  rw [taken]
  simp only [performZoneIsolate, fromOne_number, withObject_some, performed, isolated, refused]
  rfl

theorem exec_soakExpiry {z : ZoneId} {dl : Nat} (powered : s.powered = true) (stage : (s.zones.get z).stageDl = some dl) (due : dl ≤ s.now)
    (state : (s.zones.get z).state = .soak) : exec (.soakExpiry z) s = .next (enterVent z s) := by
  refine (powered_on powered).trans (congrArg _ ?_)
  rw [if_pos state, stage, whenDue_some _ due]

theorem exec_ventExpiry {z : ZoneId} {dl : Nat} (powered : s.powered = true) (stage : (s.zones.get z).stageDl = some dl) (due : dl ≤ s.now)
    (state : (s.zones.get z).state = .vent) : exec (.ventExpiry z) s = .next (enterDischarged z s) := by
  refine (powered_on powered).trans (congrArg _ ?_)
  rw [if_pos state, stage, whenDue_some _ due]

theorem enterVent_reach (z : ZoneId) (s : State) : AccessOnly { s with zones := put s.zones z { s.zones.get z with
    state := .vent, stageDl := some (s.now + (s.zoneSettings z).vent * 60000) } } (enterVent z s) := handZone_reach ..

theorem enterDischarged_reach (z : ZoneId) (s : State) : AccessOnly { s with zones := put s.zones z { s.zones.get z with
    state := .discharged, stageDl := none } } (enterDischarged z s) := (raise_reach ..).trans (handZone_reach ..)

theorem AccessOnly.replied_stored {kind tag : Nat} {zones : Vector Zone 12} {store : Store} {u : State} (st : Status)
    (h : AccessOnly { heard kind tag s with zones := zones, store := store } t) (e : u = t.withReply kind tag st .none) :
    u.zones = zones ∧ u.store = store ∧ u.link.tx.getLast? = some ⟨kind, tag, st, .none, .plain⟩ ∧ u = { s with
      hostPresent := true, zones := u.zones, store := u.store, grants := u.grants, doors := u.doors, vests := u.vests
      locations := u.locations, link := u.link } := by
  obtain ⟨_, _, _, _, _, _, _, rfl⟩ := h
  subst e
  exact ⟨rfl, rfl, withReply_last .., rfl⟩

theorem AccessOnly.replied {kind tag : Nat} {zones : Vector Zone 12} {u : State} (st : Status)
    (h : AccessOnly { heard kind tag s with zones := zones } t) (e : u = t.withReply kind tag st .none) :
    u.zones = zones ∧ u.store = s.store ∧ u.link.tx.getLast? = some ⟨kind, tag, st, .none, .plain⟩ ∧ u = { s with
      hostPresent := true, zones := u.zones, grants := u.grants, doors := u.doors, vests := u.vests
      locations := u.locations, link := u.link } := by
  obtain ⟨_, _, _, _, _, _, _, rfl⟩ := h
  subst e
  exact ⟨rfl, rfl, withReply_last .., rfl⟩

/-- Settles O19: each move is the one the zone's state allows; from QUIET the detectors in ALARM latch again. -/
theorem soakVentResetAndIsolationMoveTheZone : Obligations.SoakVentResetAndIsolationMoveTheZone := by
  refine ⟨fun s z dl powered stage due => ⟨fun state => ?_, fun state => ?_⟩, fun s tag z free state => ?_, ?_, ?_⟩
  · have reach := enterVent_reach z s
    exact ⟨_, exec_soakExpiry powered stage due state, reach.zones_eq.2, reach.zones, by rw [reach.zones]; rfl⟩
  · have reach := enterDischarged_reach z s
    exact ⟨_, exec_ventExpiry powered stage due state, reach.zones_eq.2, reach.zones, by rw [reach.zones]; rfl⟩
  · have reach := isolate_reach z (heard 0x40 tag s)
    have taken : exec (.zoneIsolate tag (number z)) s = .next ((isolate z (heard 0x40 tag s)).withReply 0x40 tag .ok .none) := by
      rw [exec_zoneIsolate tag z free]
      rcases state with state | state <;> simp only [state]
    generalize told : (isolate z (heard 0x40 tag s)).withReply 0x40 tag .ok .none = t at taken
    obtain ⟨zones, store, last, frame⟩ := reach.replied_stored .ok told.symm
    refine ⟨t, taken, zones, store, last, frame, ?_⟩
    rw [zones, store, ← told]
    rfl
  · rintro s tag z a b held e left free alarmA alarmB abort effective entry above x rfl
    have quieted := fun (kind : Nat) (store : Store) (x : Zone) => quietEntered_relatched (x := x)
      (s := { heard kind tag s with store := store }) alarmA alarmB abort effective entry above
    have alert := quietEntered_relatched (x := s.zones.get z) (s := heard 0x42 tag s) alarmA alarmB abort effective entry above
    refine ⟨fun state => ?_, fun state => ?_, fun state => ?_⟩
    · obtain ⟨zones, store, last, frame⟩ := AccessOnly.replied .ok alert rfl
      exact ⟨_, (exec_zoneReset tag z free).trans (by simp only [state]), store, zones, last, frame⟩
    · obtain ⟨zones, store, last, frame⟩ := AccessOnly.replied_stored .ok (quieted 0x42 (markQueued (.discharge z) false s)
        { s.zones.get z with discharge := false, override := false }) rfl
      exact ⟨_, (exec_zoneReset tag z free).trans (by rcases state with state | state <;> simp only [state]), store, zones, last, frame⟩
    · obtain ⟨zones, store, last, frame⟩ := AccessOnly.replied_stored .ok (quieted 0x41 (markQueued (.isolate z) false s)
        { s.zones.get z with isolate := false, override := false }) rfl
      exact ⟨_, (exec_zoneDeisolate tag z free).trans (by simp only [state]), store, zones, last, frame⟩
  · rintro s tag z free x rfl
    rw [exec_zoneReset tag z free, exec_zoneDeisolate tag z free, exec_zoneIsolate tag z free]
    refine ⟨fun state => ?_, fun state => ?_, fun alert discharged failed => ?_, fun state => ?_, fun other => ?_, fun quiet alert => ?_⟩
    · rw [state]
    · rcases state with state | state <;> simp only [state]
    · cases state : (s.zones.get z).state <;> simp_all
    · simp only [state]
    · cases state : (s.zones.get z).state <;> simp_all
    · cases state : (s.zones.get z).state <;> simp_all

end Sys2Proof.Machine


/-! Release actuators: pulse grants, recharge pauses and continuity tests (R82 to R91). -/

namespace Sys2Proof.Machine

variable {s t : State}

/-! ## The pulse grant (R85) -/

/-- The pulses that one grant may give: the queue, the two places in flight and the six pulses of a charge bound it, and a pause bars it. -/
def Bank.grantable (b : Bank) : Nat :=
  if b.pauseEnd = none then min b.queue.length (min (2 - b.inFlight.length) (6 - b.pulseCount)) else 0

/-- `t` is `s` with `n` pulses granted from the head of the queue. -/
structure PulsesGranted (n : Nat) (s t : State) : Prop where
  bank   : t.bank = ⟨s.bank.queue.drop n, s.bank.inFlight ++ s.bank.queue.take n, s.bank.pulseCount + n, s.bank.pauseEnd⟩
  fired  : ∀ a ∈ s.bank.queue.take n, t.acts.get a =
    { s.acts.get a with state := .firing, attempts := (s.acts.get a).attempts + 1, pulseEnd := some (s.now + 400) }
  others : ∀ a, a ∉ s.bank.queue.take n → t.acts.get a = s.acts.get a
  reach  : BankOnly s t

theorem PulsesGranted.none (s : State) : PulsesGranted 0 s s := ⟨by simp, by simp, fun _ _ => rfl, .refl s⟩

theorem mayGrant_iff (b : Bank) : b.mayGrant = true ↔ 0 < b.grantable := by
  unfold Bank.mayGrant Bank.grantable Config.maxInFlight Config.pulsesPerCharge
  cases pause : b.pauseEnd with
  | some dl => simp
  | none =>
    cases queue : b.queue with
    | nil => simp
    | cons a rest =>
      simp only [List.isEmpty_cons, Bool.not_false, Bool.true_and, Option.isNone_none, Bool.and_true, Bool.and_eq_true,
        decide_eq_true_eq, if_true, List.length_cons]
      omega

/-- With nothing to grant the bank stays as it is. -/
theorem grantOne_none (h : s.bank.grantable = 0) : grantOne s = s := by
  rcases grantOne_cases s with same | ⟨a, rest, queue, may, given⟩
  · exact same
  · have above := (mayGrant_iff s.bank).1 may
    omega

/-- The first of `n + 1` pulses leaves `n` to grant. -/
theorem grantOne_some {n : Nat} (h : s.bank.grantable = n + 1) : ∃ a rest, s.bank.queue = a :: rest ∧
    grantOne s = { s with
      acts := put s.acts a { s.acts.get a with
        state := .firing, attempts := (s.acts.get a).attempts + 1, pulseEnd := some (s.now + 400) }
      bank := ⟨rest, s.bank.inFlight ++ [a], s.bank.pulseCount + 1, s.bank.pauseEnd⟩ } ∧
    (grantOne s).bank.grantable = n := by
  have may : s.bank.mayGrant = true := (mayGrant_iff s.bank).2 (by omega)
  cases queue : s.bank.queue with
  | nil => simp [Bank.mayGrant, queue] at may
  | cons a rest =>
    have given : grantOne s = { s with
        acts := put s.acts a { s.acts.get a with
          state := .firing, attempts := (s.acts.get a).attempts + 1, pulseEnd := some (s.now + 400) }
        bank := ⟨rest, s.bank.inFlight ++ [a], s.bank.pulseCount + 1, s.bank.pauseEnd⟩ } := by
      unfold grantOne
      rw [queue]
      simp only [may, if_true]
      rfl
    refine ⟨a, rest, rfl, given, ?_⟩
    rw [given]
    unfold Bank.grantable at h ⊢
    simp only [queue, List.length_cons, List.length_append, List.length_nil] at h ⊢
    split at h <;> simp_all
    omega

/-- Two grants in a row give what may be given. -/
theorem PulsesGranted.next {n : Nat} (distinct : s.bank.queue.Nodup) (h : s.bank.grantable = n + 1)
    (k : PulsesGranted n (grantOne s) t) : PulsesGranted (n + 1) s t := by
  obtain ⟨a, rest, queue, given, _⟩ := grantOne_some h
  obtain ⟨bank, fired, others, reach⟩ := k
  rw [queue, List.nodup_cons] at distinct
  have unqueued : a ∉ rest.take n := fun mem => distinct.1 (List.mem_of_mem_take mem)
  rw [given] at bank fired others reach
  dsimp only at bank fired others
  refine ⟨?_, fun b mem => ?_, fun b other => ?_, BankOnly.trans ⟨_, _, rfl⟩ reach⟩
  · simp [bank, queue, Nat.add_comm, Nat.add_left_comm]
  · rw [queue, List.take_succ_cons, List.mem_cons] at mem
    rcases mem with rfl | mem
    · rw [others b unqueued, put_get_same]
    · have differs : b ≠ a := fun same => unqueued (same ▸ mem)
      rw [fired b mem, put_get_other _ _ differs]
      rfl
  · rw [queue, List.take_succ_cons, List.mem_cons, not_or] at other
    rw [others b other.2, put_get_other _ _ other.1]

theorem grantOne_nodup (distinct : s.bank.queue.Nodup) : (grantOne s).bank.queue.Nodup := by
  rcases grantOne_cases s with same | ⟨a, rest, queue, _, given⟩
  · rwa [same]
  · rw [queue, List.nodup_cons] at distinct
    rw [given]
    exact distinct.2

theorem grantable_le (b : Bank) : b.grantable ≤ 2 := by
  unfold Bank.grantable
  split <;> omega

theorem grantPulses_granted (distinct : s.bank.queue.Nodup) : PulsesGranted s.bank.grantable s (grantPulses s) := by
  have bound := grantable_le s.bank
  unfold grantPulses
  match count : s.bank.grantable with
  | 0 =>
    rw [grantOne_none count, grantOne_none count]
    exact .none s
  | 1 =>
    obtain ⟨_, _, _, _, left⟩ := grantOne_some count
    rw [grantOne_none left]
    exact .next distinct count (.none _)
  | 2 =>
    obtain ⟨_, _, _, _, left⟩ := grantOne_some count
    obtain ⟨_, _, _, _, rest⟩ := grantOne_some left
    exact .next distinct count (.next (grantOne_nodup distinct) left (.none _))
  | n + 3 => omega

/-! ## Recharge pauses (R86) -/

theorem pauseTest_begins (empty : s.bank.inFlight = []) (full : s.bank.pulseCount = 6) (free : s.bank.pauseEnd = none) :
    pauseTest s = { s with bank := { s.bank with pauseEnd := some (s.now + 1500) } } := by
  simp [pauseTest, empty, full, free, Config.pulsesPerCharge, Config.pauseMs]

theorem pauseTest_none (h : s.bank.inFlight ≠ [] ∨ s.bank.pulseCount < 6) : pauseTest s = s := by
  unfold pauseTest
  rw [if_neg]
  intro begins
  simp only [Bool.and_eq_true, List.isEmpty_iff, Config.pulsesPerCharge] at begins
  obtain ⟨⟨empty, full⟩, _⟩ := begins
  replace full := of_decide_eq_true full
  rcases h with flying | below
  · exact flying empty
  · omega

/-! ## Continuity tests (R82, R83) -/

theorem testActuator_eq (a : ActId) (r : TestResult) (s : State) : testActuator a r s =
    (if r = .clean ∧ (s.acts.get a).fault = true then raise .actuatorRestored (.actuator a) none
      else if r ≠ .clean ∧ ((s.acts.get a).fault = false ∨ (s.acts.get a).lastTest ≠ some r) then
        raise .actuatorFault (.actuator a) (some (.named (.testResult (some r))))
      else id) { s with acts := put s.acts a { s.acts.get a with
        lastTest := some r, nextTest := some (s.now + 10000), fault := decide (r ≠ .clean) } } := by
  unfold testActuator
  by_cases clean : r = .clean
  · subst clean
    cases fault : (s.acts.get a).fault <;> simp [fault] <;> rfl
  · cases fault : (s.acts.get a).fault <;> by_cases last : (s.acts.get a).lastTest = some r <;> simp [clean, fault, last] <;> rfl

theorem testsSuspended_iff (s : State) :
    s.testsSuspended = true ↔ ∃ b, (s.acts.get b).state = .queued ∨ (s.acts.get b).state = .firing := by
  simp [State.testsSuspended, mem_every]

theorem testsSuspended_none (h : ∀ b, (s.acts.get b).state ≠ .queued ∧ (s.acts.get b).state ≠ .firing) : s.testsSuspended = false := by
  rw [← Bool.not_eq_true, testsSuspended_iff]
  rintro ⟨b, state⟩
  exact state.elim (h b).1 (h b).2

theorem exec_continuityTest (a : ActId) (r : TestResult) (on : s.powered = true) :
    exec (.continuityTest a r) s = .next (if s.testDue a then testActuator a r s else s) := powered_on on

theorem testActuator_powered (a : ActId) (r : TestResult) (s : State) : (testActuator a r s).powered = s.powered := by
  rw [testActuator_eq]
  split
  · rfl
  · split <;> rfl

/-- Tests made one after another are as many commands. -/
theorem foldl_continuityTest (coils : Vector TestResult 32) (l : List ActId) (on : s.powered = true) :
    l.foldl (fun o a => match o with
      | Host.Outcome.next t => exec (.continuityTest a (coils.get a)) t
      | other => other) (.next s) =
    .next (l.foldl (fun s a => if s.testDue a then testActuator a (coils.get a) s else s) s) := by
  induction l generalizing s with
  | nil => rfl
  | cons a rest ih =>
    simp only [List.foldl_cons]
    rw [exec_continuityTest a _ on]
    apply ih
    split
    · rw [testActuator_powered, on]
    · exact on

/-- A due test of an ARMED actuator is made unless another one is QUEUED or FIRING. -/
theorem testDue_of {a : ActId} {dl : Nat} (armed : (s.acts.get a).state = .armed) (next : (s.acts.get a).nextTest = some dl)
    (reached : dl ≤ s.now) (idle : ∀ b, (s.acts.get b).state ≠ .queued ∧ (s.acts.get b).state ≠ .firing) : s.testDue a = true := by
  simp [State.testDue, armed, next, due, reached, testsSuspended_none idle]

/-! ## ACTUATOR_REARM (R91) -/

theorem allowsRearm_iff (state : ZoneState) : state.allowsRearm = true ↔
    state = .quiet ∨ state = .isolated ∨ state = .discharged ∨ state = .releaseFailed := by
  cases state <;> simp [ZoneState.allowsRearm]

theorem rearmBlocked_iff (s : State) (a : ActId) : s.rearmBlocked a = true ↔
    ((s.acts.get a).state ≠ .fired ∧ (s.acts.get a).state ≠ .failed) ∨
      ∃ z, (s.acts.get a).zone = some z ∧ (s.zones.get z).state.allowsRearm = false := by
  unfold State.rearmBlocked
  cases zone : (s.acts.get a).zone <;> simp [zone]

theorem rearm_eq (a : ActId) (s : State) : rearm a s = { s with
    store := if (s.acts.get a).state = ActState.fired then markQueued (.spent a) false s else s.store
    acts := put s.acts a { s.acts.get a with
      state := if (s.acts.get a).zone = none then ActState.unassigned else .armed, attempts := 0, fault := false, lastTest := none
      nextTest := if (s.acts.get a).zone = none then none else some s.now
      spent := if (s.acts.get a).state = ActState.fired then false else (s.acts.get a).spent } } := by
  unfold rearm
  dsimp only
  cases zone : (s.acts.get a).zone <;> by_cases fired : (s.acts.get a).state = .fired <;>
    (simp [fired, requestMark, markQueued, State.setAct]; try rfl)

theorem exec_actuatorRearm (tag : Nat) (a : ActId) (free : s.free) : exec (.actuatorRearm tag (number a)) s =
    .next (if s.rearmBlocked a then (heard 0x44 tag s).withReply 0x44 tag .badState .none
      else (rearm a (heard 0x44 tag s)).withReply 0x44 tag .ok .none) := by
  have taken : exec (.actuatorRearm tag (number a)) s = .next (performActuatorRearm (number a) (heard 0x44 tag s)) :=
    onRequest_free 0x44 tag _ free
  have refused := answer_outstanding .badState (heard_outstanding 0x44 tag s)
  have kept : (rearm a (heard 0x44 tag s)).link.outstanding = (heard 0x44 tag s).link.outstanding := by
    rw [rearm_eq]
  have rearmed := answer_outstanding .ok (kept.trans (heard_outstanding 0x44 tag s))
  rw [taken]
  simp only [performActuatorRearm, fromOne_number, withObject_some, performed, rearmed, refused]
  rfl

/-- Settles O21: the grant by the pulses it may give, the pause by its conditions, a test by its result, a rearm by the states it asks for. -/
theorem pulsesPausesTestsAndRearm : Obligations.PulsesPausesTestsAndRearm := by
  refine ⟨?_, ⟨fun s => pauseTest_begins, fun s => pauseTest_none, ?_⟩, ?_, ?_, ?_, fun s coils => ⟨fun suspended => ?_, fun idle on => ?_⟩⟩
  · rintro s n distinct _ _ rfl
    obtain ⟨bank, fired, others, acts, b, e⟩ := grantPulses_granted distinct
    exact ⟨bank, fired, others, by rw [e]⟩
  · intro s dl on pause reached empty distinct
    have run : exec .rechargePauseEnd s = .next (endPause s) := by
      refine (powered_on on).trans (congrArg _ ?_)
      rw [pause, whenDue_some _ reached]
    have granted := grantPulses_granted (s := { s with bank := { s.bank with pulseCount := 0, pauseEnd := none } }) distinct
    have count : ({ s.bank with pulseCount := 0, pauseEnd := none } : Bank).grantable = min s.bank.queue.length 2 := by
      simp [Bank.grantable, empty]
    have taken : s.bank.queue.take (min s.bank.queue.length 2) = s.bank.queue.take 2 := by
      rw [Nat.min_comm, ← List.take_eq_take_min]
    have left : s.bank.queue.drop (min s.bank.queue.length 2) = s.bank.queue.drop 2 := by
      rw [Nat.min_comm, ← List.drop_eq_drop_min]
    rw [count] at granted
    obtain ⟨bank, fired, others, acts, b, e⟩ := granted
    dsimp only at bank fired others
    rw [taken] at bank fired others
    have final : (⟨s.bank.queue.drop (min s.bank.queue.length 2), s.bank.inFlight ++ s.bank.queue.take 2,
        0 + min s.bank.queue.length 2, none⟩ : Bank) = ⟨s.bank.queue.drop 2, s.bank.queue.take 2, min s.bank.queue.length 2, none⟩ := by
      rw [left, empty, Nat.zero_add, List.nil_append]
    refine ⟨_, run, bank.trans final, fun a mem => ?_, others, by unfold endPause; rw [e]⟩
    have record : (endPause s).acts.get a = _ := fired a mem
    rw [record]
    exact ⟨rfl, rfl⟩
  · rintro s a x r dl on rfl armed next reached idle
    rw [exec_continuityTest a r on, if_pos (testDue_of armed next reached idle), testActuator_eq]
  · rintro s tag a x free rfl state zones
    have allowed : s.rearmBlocked a = false := by
      rw [← Bool.not_eq_true, rearmBlocked_iff]
      rintro (⟨fired, failed⟩ | ⟨z, zone, barred⟩)
      · exact state.elim fired failed
      · rw [(allowsRearm_iff _).2 (zones z zone)] at barred
        cases barred
    rw [exec_actuatorRearm tag a free, allowed, rearm_eq]
    rfl
  · intro s tag a free blocked
    have barred : s.rearmBlocked a = true := (rearmBlocked_iff s a).2 (blocked.imp_right fun ⟨z, zone, states⟩ => ⟨z, zone, by
      rw [← Bool.not_eq_true, allowsRearm_iff]
      grind⟩)
    rw [exec_actuatorRearm tag a free, if_pos barred]
  · unfold resumeTests
    rw [if_pos ((testsSuspended_iff s).2 suspended)]
  · unfold resumeTests
    rw [testsSuspended_none idle]
    exact (foldl_continuityTest coils (every 32) on).symm

end Sys2Proof.Machine


/-! The end of a pulse: a retry, or the conclusion of the actuator and of its zone's release (R52, R81, R86 to R88). -/

namespace Sys2Proof.Machine

variable {s t : State}

/-! ## The conclusion of a release (R52) -/

theorem concludeRelease_open {z : ZoneId} (h : (s.zones.get z).outstanding ≠ []) : concludeRelease z s = s := by
  simp [concludeRelease, h]

theorem concludeRelease_fired {z : ZoneId} (state : (s.zones.get z).state = .release) (empty : (s.zones.get z).outstanding = [])
    (fired : (s.zones.get z).fired = true) : concludeRelease z s = handZone z { s with
      zones := put s.zones z { s.zones.get z with state := .soak, stageDl := some (s.now + (s.zoneSettings z).soak * 60000) } } := by
  unfold concludeRelease
  dsimp only
  rw [if_pos (by simp [state, empty]), if_pos fired]
  rfl

theorem concludeRelease_failed {z : ZoneId} (state : (s.zones.get z).state = .release) (empty : (s.zones.get z).outstanding = [])
    (none : (s.zones.get z).fired = false) : concludeRelease z s = handZone z (raise .releaseFailed (.zone z) .none { s with
      zones := put s.zones z { s.zones.get z with state := .releaseFailed } }) := by
  unfold concludeRelease failRelease
  dsimp only
  rw [if_pos (by simp [state, empty]), if_neg (by simp [none])]
  rfl

/-- The zone's record as a result of its last outstanding actuator, or of another one, leaves it. -/
def concludedZone (now : Nat) (soak : Nat) (y : Zone) : Zone :=
  if y.outstanding ≠ [] then y
  else if y.fired then { y with state := .soak, stageDl := some (now + soak * 60000) }
  else { y with state := .releaseFailed }

/-- What follows the record of a concluded release. -/
def concludedHanded (z : ZoneId) (y : Zone) (s : State) : State :=
  if y.outstanding ≠ [] then s else if y.fired then handZone z s else handZone z (raise .releaseFailed (.zone z) none s)

/-- A zone in RELEASE takes the result of one of its actuators. -/
theorem zoneResult_eq {z : ZoneId} {a : ActId} {fired : Bool} {y : Zone} (state : (s.zones.get z).state = .release)
    (record : { s.zones.get z with
      outstanding := (s.zones.get z).outstanding.filter (fun b => b ≠ a), fired := (s.zones.get z).fired || fired } = y) :
    zoneResult z a fired s = concludedHanded z y { s with zones := put s.zones z (concludedZone s.now (s.zoneSettings z).soak y) } := by
  have release : y.state = .release := by rw [← record]; exact state
  have told : zoneResult z a fired s = concludeRelease z { s with zones := put s.zones z y } := by rw [← record]; rfl
  have zone : ({ s with zones := put s.zones z y } : State).zones.get z = y := put_get_same ..
  unfold concludedHanded concludedZone
  by_cases empty : y.outstanding = []
  · cases fires : y.fired
    · rw [told, concludeRelease_failed (by rw [zone, release]) (by rw [zone, empty]) (by rw [zone, fires])]
      simp only [if_neg (not_not_intro empty), Bool.false_eq_true, if_false, put_get_same, put_put, fires]
    · rw [told, concludeRelease_fired (by rw [zone, release]) (by rw [zone, empty]) (by rw [zone, fires])]
      simp only [if_neg (not_not_intro empty), if_true, put_get_same, put_put, fires]
      rfl
  · rw [told, concludeRelease_open (by rw [zone]; exact empty)]
    simp only [if_pos empty]

/-! ## The end of a pulse (R81, R86 to R88) -/

/-- The pulse of the actuator has ended, its result not yet taken. -/
def pulseOff (a : ActId) (s : State) : State := { s with
  acts := put s.acts a { s.acts.get a with pulseEnd := none }
  bank := { s.bank with inFlight := s.bank.inFlight.filter (fun c => c ≠ a) } }

theorem endPulse_eq (a : ActId) (current : Bool) (coils : Vector TestResult 32) (s : State) : endPulse a current coils s =
    resumeTests coils (grantPulses (pauseTest (if current then pulseFired a (pulseOff a s) else pulseMissed a (pulseOff a s)))) := rfl

theorem exec_pulseEnd {a : ActId} {dl : Nat} (current : Bool) (coils : Vector TestResult 32) (on : s.powered = true)
    (firing : (s.acts.get a).state = .firing) (ends : (s.acts.get a).pulseEnd = some dl) (reached : dl ≤ s.now) :
    exec (.pulseEnd a current coils) s = .next (endPulse a current coils s) := by
  refine (powered_on on).trans (congrArg _ ?_)
  rw [if_pos firing, ends, whenDue_some _ reached]

/-- A pulse without current that is not the third goes to the tail of the queue. -/
theorem pulseMissed_retries {a : ActId} (below : (s.acts.get a).attempts < 3) : pulseMissed a (pulseOff a s) = { s with
    acts := put s.acts a { s.acts.get a with state := .queued, pulseEnd := none }
    bank := { s.bank with inFlight := s.bank.inFlight.filter (fun c => c ≠ a), queue := s.bank.queue ++ [a] } } := by
  have attempts : ((pulseOff a s).acts.get a).attempts < Config.maxAttempts := by
    simp only [pulseOff, put_get_same]
    exact below
  unfold pulseMissed
  rw [if_pos attempts]
  simp [pulseOff, State.setAct]

/-- The notice of a concluded actuator, and the mark of one that fired. -/
def concludedReported (a : ActId) (current : Bool) (s : State) : State :=
  if current then raise .actuatorFired (.actuator a) (some (.count (s.acts.get a).attempts)) { s with store := markQueued (.spent a) true s }
  else raise .actuatorFailed (.actuator a) (some (.named (.testResult (s.acts.get a).lastTest))) s

/-- The actuator's record is concluded, its zone still to be told. -/
def actConcluded (a : ActId) (current : Bool) (s : State) : State := { concludedReported a current s with
  acts := put s.acts a { s.acts.get a with
    state := if current then .fired else .failed, zone := s.nv.assignments.get a, pulseEnd := none
    spent := (s.acts.get a).spent || current }
  bank := { s.bank with inFlight := s.bank.inFlight.filter (fun c => c ≠ a) } }

/-- A pulse with current, or the third without, concludes its actuator. -/
theorem pulse_concludes {a : ActId} {current : Bool} {z : ZoneId} (last : current = true ∨ 3 ≤ (s.acts.get a).attempts)
    (zone : (s.acts.get a).zone = some z) :
    (if current then pulseFired a (pulseOff a s) else pulseMissed a (pulseOff a s)) = zoneResult z a current (actConcluded a current s) := by
  cases current
  · have attempts : ¬ ((pulseOff a s).acts.get a).attempts < Config.maxAttempts := by
      simp only [pulseOff, put_get_same]
      exact Nat.not_lt.2 (last.resolve_left Bool.false_ne_true)
    unfold pulseMissed
    rw [if_neg Bool.false_ne_true, if_neg attempts]
    simp [concludeActuator, pulseOff, State.setAct, actConcluded, concludedReported, zone]
    rfl
  · simp [pulseFired, concludeActuator, pulseOff, State.setAct, actConcluded, concludedReported, requestMark, zone]
    rfl

/-! ## What follows the result of a pulse (R82, R85, R86) -/

/-- `t` is `s` after continuity tests: the records of ARMED actuators and the link alone may differ. -/
structure Tested (s t : State) : Prop where
  reach  : ∃ acts link, t = { s with acts := acts, link := link }
  others : ∀ a, (s.acts.get a).state ≠ .armed → t.acts.get a = s.acts.get a

theorem Tested.refl (s : State) : Tested s s := ⟨⟨_, _, rfl⟩, fun _ _ => rfl⟩

theorem Tested.trans {u : State} (h : Tested s t) (k : Tested t u) : Tested s u := by
  refine ⟨?_, fun a other => ?_⟩
  · obtain ⟨_, _, rfl⟩ := h.reach
    obtain ⟨_, _, rfl⟩ := k.reach
    exact ⟨_, _, rfl⟩
  · have same := h.others a other
    rw [k.others a (by rw [same]; exact other), same]

theorem testActuator_tested {a : ActId} (r : TestResult) (armed : (s.acts.get a).state = .armed) : Tested s (testActuator a r s) := by
  have kept : ∀ u : State, u = { s with acts := put s.acts a { s.acts.get a with
      lastTest := some r, nextTest := some (s.now + 10000), fault := decide (r ≠ .clean) } } → Tested s u := by
    rintro u rfl
    refine ⟨⟨_, _, rfl⟩, fun b other => put_get_other _ _ ?_⟩
    rintro rfl
    exact other armed
  have told : ∀ (k : NoticeKind) (o : NoticeObject) (d : Option Detail) (u : State), Tested u (raise k o d u) :=
    fun k o d u => ⟨⟨_, _, rfl⟩, fun _ _ => rfl⟩
  rw [testActuator_eq]
  split
  · exact (kept _ rfl).trans (told ..)
  · split
    · exact (kept _ rfl).trans (told ..)
    · exact kept _ rfl

theorem testDue_armed {a : ActId} (h : s.testDue a = true) : (s.acts.get a).state = .armed := by
  simp only [State.testDue, Bool.and_eq_true, decide_eq_true_eq] at h
  exact h.1.1

theorem resumeTests_tested (coils : Vector TestResult 32) (s : State) : Tested s (resumeTests coils s) := by
  unfold resumeTests forEach
  split
  · exact .refl s
  next free =>
    clear free
    induction every 32 generalizing s with
    | nil => exact .refl s
    | cons a rest ih =>
      refine .trans (t := if s.testDue a then testActuator a (coils.get a) s else s) ?_ (ih _)
      split
      next due => exact testActuator_tested _ (testDue_armed due)
      next => exact .refl s

/-- The pause test, the pulse grant and the tests held back: what they leave of the bank and of an actuator. -/
structure PulseSettled (s t : State) : Prop where
  order  : t.bank.inFlight ++ t.bank.queue = s.bank.inFlight ++ s.bank.queue
  others : ∀ a, a ∉ s.bank.queue → (s.acts.get a).state ≠ .armed → t.acts.get a = s.acts.get a
  queued : ∀ a, (s.acts.get a).state = .queued → (t.acts.get a).state = .queued ∨ (t.acts.get a).state = .firing
  reach  : ∃ acts bank link, t = { s with acts := acts, bank := bank, link := link }

theorem pauseTest_kept (s : State) : (pauseTest s).acts = s.acts ∧ (pauseTest s).bank.queue = s.bank.queue ∧
    (pauseTest s).bank.inFlight = s.bank.inFlight := by
  unfold pauseTest
  split <;> exact ⟨rfl, rfl, rfl⟩

theorem pulse_settled (coils : Vector TestResult 32) (s : State) :
    PulseSettled s (resumeTests coils (grantPulses (pauseTest s))) := by
  obtain ⟨acts, queue, inFlight⟩ := pauseTest_kept s
  have granted := (pauseTest_reach s).trans (grantPulses_reach _)
  have tested := resumeTests_tested coils (grantPulses (pauseTest s))
  have bank : (resumeTests coils (grantPulses (pauseTest s))).bank = (grantPulses (pauseTest s)).bank := by
    obtain ⟨_, _, e⟩ := tested.reach
    rw [e]
  refine ⟨?_, fun a unqueued unarmed => ?_, fun a state => ?_, ?_⟩
  · rw [bank, grantPulses_order, queue, inFlight]
  · have kept : (grantPulses (pauseTest s)).acts.get a = s.acts.get a := by
      rw [grantPulses_acts (by rw [queue]; exact unqueued), acts]
    rw [tested.others a (by rw [kept]; exact unarmed), kept]
  · have still := grantPulses_queued (s := pauseTest s) (a := a) (by rw [acts]; exact state)
    rw [tested.others a (by rcases still with is | is <;> rw [is] <;> decide)]
    exact still
  · obtain ⟨acts', link', made⟩ := tested.reach
    rw [made]
    generalize grantPulses (pauseTest s) = u at granted
    obtain ⟨_, _, rfl⟩ := granted
    exact ⟨_, _, _, rfl⟩

/-! ## The whole end of a pulse -/

theorem concludedHanded_reach (z : ZoneId) (y : Zone) (s : State) : AccessOnly s (concludedHanded z y s) :=
  .ite (.refl s) (.ite (handZone_reach z s) ((raise_reach ..).trans (handZone_reach z _)))

/-- The actuator's record and its zone's are concluded, the other blocks still to be told. -/
def releaseConcluded (a : ActId) (current : Bool) (z : ZoneId) (y : Zone) (s : State) : State :=
  { actConcluded a current s with zones := put s.zones z (concludedZone s.now (s.zoneSettings z).soak y) }

theorem concludedReported_release (a : ActId) (current : Bool) (s : State) : ReleaseOnly s (concludedReported a current s) := by
  cases current
  · exact (raise_reach ..).release
  · exact (requestMark_reach (.spent a) true s).trans (raise_reach ..).release

theorem concludedReported_zones (a : ActId) (current : Bool) (s : State) : (concludedReported a current s).zones = s.zones := by
  cases current <;> rfl

theorem concludedReported_store (a : ActId) (current : Bool) (s : State) :
    (concludedReported a current s).store = if current then markQueued (.spent a) true s else s.store := by
  cases current <;> rfl

theorem actConcluded_now (a : ActId) (current : Bool) (s : State) : (actConcluded a current s).now = s.now := by
  cases current <;> rfl

theorem actConcluded_settings (a : ActId) (current : Bool) (z : ZoneId) (s : State) :
    (actConcluded a current s).zoneSettings z = s.zoneSettings z := by
  cases current <;> rfl

theorem endPulse_concludes {a : ActId} {current : Bool} {z : ZoneId} {y : Zone} (coils : Vector TestResult 32)
    (last : current = true ∨ 3 ≤ (s.acts.get a).attempts) (zone : (s.acts.get a).zone = some z) (state : (s.zones.get z).state = .release)
    (record : { s.zones.get z with
      outstanding := (s.zones.get z).outstanding.filter (fun b => b ≠ a), fired := (s.zones.get z).fired || current } = y) :
    endPulse a current coils s =
      resumeTests coils (grantPulses (pauseTest (concludedHanded z y (releaseConcluded a current z y s)))) := by
  have zones : (actConcluded a current s).zones = s.zones := concludedReported_zones a current s
  rw [endPulse_eq, pulse_concludes last zone, zoneResult_eq (y := y) (by rw [zones, state]) (by rw [zones]; exact record), zones,
    actConcluded_now, actConcluded_settings]
  rfl

/-- What a concluded pulse leaves: the records of actuator and zone, the order of the bank, and no other part of the state. -/
structure PulseConcluded (a : ActId) (current : Bool) (z : ZoneId) (y : Zone) (s t : State) : Prop where
  record : t.acts.get a = { s.acts.get a with
    state := if current then .fired else .failed, zone := s.nv.assignments.get a, pulseEnd := none
    spent := (s.acts.get a).spent || current }
  order  : t.bank.inFlight ++ t.bank.queue = s.bank.inFlight.filter (fun b => b ≠ a) ++ s.bank.queue
  store  : t.store = if current then markQueued (.spent a) true s else s.store
  zones  : t.zones = put s.zones z (concludedZone s.now (s.zoneSettings z).soak y)
  frame  : t = { s with
    zones := t.zones, acts := t.acts, bank := t.bank, store := t.store, grants := t.grants, doors := t.doors
    vests := t.vests, locations := t.locations, link := t.link }

theorem endPulse_concluded {a : ActId} {current : Bool} {z : ZoneId} {y : Zone} (coils : Vector TestResult 32)
    (last : current = true ∨ 3 ≤ (s.acts.get a).attempts) (zone : (s.acts.get a).zone = some z) (state : (s.zones.get z).state = .release)
    (record : { s.zones.get z with
      outstanding := (s.zones.get z).outstanding.filter (fun b => b ≠ a), fired := (s.zones.get z).fired || current } = y)
    (unqueued : a ∉ s.bank.queue) : PulseConcluded a current z y s (endPulse a current coils s) := by
  rw [endPulse_concludes coils last zone state record]
  have handed := concludedHanded_reach z y (releaseConcluded a current z y s)
  have settled := pulse_settled coils (concludedHanded z y (releaseConcluded a current z y s))
  have acts : (releaseConcluded a current z y s).acts.get a = { s.acts.get a with
      state := if current then .fired else .failed, zone := s.nv.assignments.get a, pulseEnd := none
      spent := (s.acts.get a).spent || current } := put_get_same ..
  have bank : (releaseConcluded a current z y s).bank = { s.bank with inFlight := s.bank.inFlight.filter (fun c => c ≠ a) } := rfl
  have reported : ReleaseOnly s (releaseConcluded a current z y s) := by
    obtain ⟨_, _, _, _, _, made, _, _, _, _, _, _, _, e⟩ := concludedReported_release a current s
    unfold releaseConcluded actConcluded
    rw [e, made]
    exact ⟨_, _, _, _, _, rfl, _, _, _, _, _, _, _, rfl⟩
  have store : (releaseConcluded a current z y s).store = _ := concludedReported_store a current s
  have zones : (releaseConcluded a current z y s).zones = put s.zones z (concludedZone s.now (s.zoneSettings z).soak y) := rfl
  generalize concludedHanded z y (releaseConcluded a current z y s) = v at handed settled ⊢
  generalize resumeTests coils (grantPulses (pauseTest v)) = w at settled ⊢
  obtain ⟨acts', bank', link', e⟩ := settled.reach
  refine ⟨?_, ?_, ?_, ?_, ?_⟩
  · rw [settled.others a (by rw [handed.bank, bank]; exact unqueued) (by rw [handed.acts, acts]; cases current <;> exact (nomatch ·)), handed.acts, acts]
  · rw [settled.order, handed.bank, bank]
  · rw [e, ← store, ← handed.store]
  · rw [e, ← zones, ← handed.zones]
  · have kept := reported.trans handed.release
    subst e
    obtain ⟨_, _, _, _, _, rfl, _, _, _, _, _, _, _, rfl⟩ := kept
    rfl

/-- Settles O20: the end of a pulse is a retry or a conclusion, and what follows reaches only the bank, ARMED actuators and the link. -/
theorem pulseEndConcludesOrRetries : Obligations.PulseEndConcludesOrRetries := by
  refine ⟨?_, ?_, ?_⟩
  · intro s a coils dl z rest on firing ends reached zone unqueued state left
    have run := exec_pulseEnd true coils on firing ends reached
    obtain ⟨record, order, store, zones, frame⟩ := endPulse_concluded coils (.inl rfl) zone state rfl unqueued
    refine ⟨_, run, by rw [record]; rfl, by rw [record]; exact Bool.or_true _, by rw [record], by rw [record], ?_, order, store, ?_, frame⟩
    · intro flying
      have mem := List.mem_append_left (endPulse a true coils s).bank.queue flying
      rw [order, List.mem_append, List.mem_filter] at mem
      exact mem.elim (fun inFlight => by simp at inFlight) unqueued
    · rw [zones, left]
      by_cases empty : rest = [] <;> simp [concludedZone, empty]
  · intro s a coils dl z rest on firing ends reached zone unqueued state left
    have run := exec_pulseEnd false coils on firing ends reached
    by_cases below : (s.acts.get a).attempts < 3
    · have told : endPulse a false coils s = resumeTests coils (grantPulses (pauseTest (pulseMissed a (pulseOff a s)))) := rfl
      have settled := pulse_settled coils (pulseMissed a (pulseOff a s))
      rw [← told, pulseMissed_retries below] at settled
      obtain ⟨acts, bank, link, e⟩ := settled.reach
      refine ⟨_, run, by rw [e], fun _ => ⟨?_, settled.queued a (by simp), by rw [e]⟩, fun above => absurd below (Nat.not_lt.2 above)⟩
      rw [settled.order]
      simp
    · have last := Nat.not_lt.1 below
      obtain ⟨record, order, store, zones, frame⟩ := endPulse_concluded coils (.inr last) zone state rfl unqueued
      refine ⟨_, run, store, fun above => absurd above below, fun _ => ⟨order, by rw [record]; rfl, by rw [record]; exact Bool.or_false _, ?_, ?_⟩⟩
      · rw [zones, left]
        by_cases empty : rest = [] <;> cases fired : (s.zones.get z).fired <;> simp [concludedZone, empty, fired]
      · refine frame.trans ?_
        rw [store]
        rfl
  · rintro s a coils dl x on rfl firing ends reached b rfl
    refine ⟨fun below => ?_, fun current z rest t u last zone state left told made => ?_⟩
    · rw [exec_pulseEnd false coils on firing ends reached, endPulse_eq, if_neg Bool.false_ne_true, pulseMissed_retries below]
    · subst left told
      have made := made _ rfl
      rw [exec_pulseEnd current coils on firing ends reached, endPulse_concludes coils last zone state rfl, made]
      rfl

end Sys2Proof.Machine


/-! The lone-worker timer (R103, R105 to R109). -/

namespace Sys2Proof.Machine

variable {s t : State}

theorem exec_intervalDeadline {v : RoomId} {dl : Nat} (on : s.powered = true) (lone : (s.rooms.get v).lone = .running dl)
    (reached : dl ≤ s.now) : exec (.intervalDeadline v) s = .next (startPrompt v s) := by
  refine (powered_on on).trans (congrArg _ ?_)
  simp only [lone, whenDue_some _ reached]

theorem exec_responseWindowDeadline {v : RoomId} {dl : Nat} (on : s.powered = true) (lone : (s.rooms.get v).lone = .prompt dl)
    (reached : dl ≤ s.now) : exec (.responseWindowDeadline v) s = .next (takeOverdue v s) := by
  refine (powered_on on).trans (congrArg _ ?_)
  simp only [lone, whenDue_some _ reached]

/-- A new evidence mark, with its report, reaches the strongroom and the zones. -/
theorem setEvidence_reaches (v : RoomId) (s : State) : setEvidence v s = { s with
    rooms := put s.rooms v { s.rooms.get v with evidence := true }, zones := (setEvidence v s).zones } := by
  have occupied : 1 ≤ ((put s.rooms v { s.rooms.get v with evidence := true }).get v).effective := by
    simp [Room.effective]
    omega
  have reported := reportE_occupied (s := { s with rooms := put s.rooms v { s.rooms.get v with evidence := true } }) occupied
  rw [setEvidence_eq]
  cases mark : (s.rooms.get v).evidence
  · exact reported
  · rfl

theorem startInterval_eq (v : RoomId) (s : State) : startInterval v s = { s with
    rooms := put s.rooms v { s.rooms.get v with lone := .running (s.now + (s.loneSettings v).loneInterval * 60000) } } := rfl

theorem takeOverdue_eq (v : RoomId) (s : State) : takeOverdue v s =
    { setEvidence v (raise .loneWorkerOverdue (.strongroom v) (some (.badge (s.rooms.get v).firstBadge)) s) with
      rooms := put s.rooms v { s.rooms.get v with
        evidence := true, lone := .running (s.now + (s.loneSettings v).loneInterval * 60000) } } := by
  unfold takeOverdue
  dsimp only
  rw [startInterval_eq, setEvidence_reaches]
  simp
  rfl

/-- Settles O22: presses and deadlines by the timer's state; what follows a change of records by strongroom. -/
theorem loneWorkerTimerFollowsPressesAndDeadlines : Obligations.LoneWorkerTimerFollowsPressesAndDeadlines := by
  refine ⟨fun s v => ⟨shortPress_watched v, shortPress_off v⟩, ?_, ?_, fun before s => ⟨?_, ?_, settle_rooms before s⟩⟩
  · intro s v dl e on lone reached listed
    rw [exec_intervalDeadline on lone reached]
    simp only [startPrompt, Room.firstBadge, listed]
    rfl
  · intro s v dl on lone reached
    refine ⟨_, exec_responseWindowDeadline on lone reached, ?_, ?_, fun e listed => ?_⟩
    · rw [takeOverdue_eq]
    · rw [takeOverdue_eq, setEvidence_reaches]
      rfl
    · have badge : (s.rooms.get v).firstBadge = e.badge := by rw [Room.firstBadge, listed]
      rw [takeOverdue_eq, setEvidence_eq, badge]
      cases mark : (s.rooms.get v).evidence <;> simp only [raise_rooms, mark] <;> rfl
  · rw [settle_eq]
    simp only [settleAt, evalLone_eq]
  · exact (settle_reach before s).clock

end Sys2Proof.Machine


/-! Laws of grants and places: what a cancellation leaves, and the moves of a slot in the words of the obligations. -/

namespace Sys2Proof.Machine

variable {s t u : State}

/-! ## Deferred replies (R119, R189) -/

theorem reply_none (st : Status) (data : ReplyData) (role : ReplyRole) (h : s.link.outstanding = none) : reply st data role s = s := by
  simp [reply, h]

theorem answerOwed_eq (owed : Bool) (st : Status) (data : ReplyData) (s : State) : answerOwed owed st data s = s.repliedTo owed st data := by
  unfold answerOwed State.repliedTo
  cases owed
  · rfl
  · cases outstanding : s.link.outstanding with
    | none => exact reply_none _ _ _ outstanding
    | some r => exact reply_outstanding _ _ _ outstanding

/-! ## Cancelled grants (R119, R129, R163) -/

theorem confirmDenied_none {g : Grant} {r : Reason} (h : g.recheck = none) (s : State) : State.confirmDenied g r s = s := by
  simp only [State.confirmDenied, h]

theorem confirmDenied_some {g : Grant} {r : Reason} {w : Recheck} (h : g.recheck = some w) (s : State) :
    State.confirmDenied g r s = answerOwed w.owed .denied (.reason r) s := by
  obtain ⟨owed⟩ := w
  rw [answerOwed_eq]
  cases owed <;> cases outstanding : s.link.outstanding <;> simp only [State.confirmDenied, State.repliedTo, h, outstanding]
theorem dropGrant_eq (d : DoorId) (r : Reason) (s : State) : dropGrant d r s = s.grantDropped d r := by
  unfold dropGrant State.grantDropped
  cases grant : s.grants.get d with
  | none => rfl
  | some g =>
    dsimp only
    cases recheck : g.recheck with
    | none => rw [confirmDenied_none recheck]; rfl
    | some w => rw [confirmDenied_some recheck]; rfl

theorem handRemoval_eq (v : RoomId) (slot : SlotId) (s : State) : handRemoval v slot s = s.removalHanded v slot := by
  unfold handRemoval State.removalHanded
  cases inner : s.strongroomDoor v with
  | none => rfl
  | some d =>
    cases grant : s.grants.get d with
    | none => simp [grant]
    | some g => simp [grant, Grant.holds, dropGrant_eq]

/-- `t` is `s` with some grants ended, and with what the link has been told of it. -/
def GrantsEnded (s t : State) : Prop := ∃ grants link, t = { s with grants := grants, link := link } ∧
  link.outstanding = s.link.outstanding ∧ ∀ d, grants.get d = s.grants.get d ∨ grants.get d = none

theorem GrantsEnded.refl (s : State) : GrantsEnded s s := ⟨_, _, rfl, rfl, fun _ => .inl rfl⟩

theorem GrantsEnded.trans (h : GrantsEnded s t) (k : GrantsEnded t u) : GrantsEnded s u := by
  obtain ⟨_, _, rfl, same, ends⟩ := h
  obtain ⟨_, _, rfl, still, ends'⟩ := k
  refine ⟨_, _, rfl, still.trans same, fun d => ?_⟩
  rcases ends' d with kept | none
  · exact (ends d).imp (kept.trans ·) (kept.trans ·)
  · exact .inr none

theorem raise_ends (k : NoticeKind) (o : NoticeObject) (d : Option Detail) (s : State) : GrantsEnded s (raise k o d s) :=
  ⟨_, _, rfl, (raise_reach k o d s).band.outstanding, fun _ => .inl rfl⟩

theorem repliedTo_ends (owed : Bool) (st : Status) (data : ReplyData) (s : State) : GrantsEnded s (s.repliedTo owed st data) := by
  unfold State.repliedTo
  split
  · exact ⟨_, _, rfl, rfl, fun _ => .inl rfl⟩
  · exact .refl s

theorem grantEnded (d : DoorId) (s : State) : GrantsEnded s { s with grants := put s.grants d none } := by
  refine ⟨_, _, rfl, rfl, fun e => ?_⟩
  by_cases same : e = d
  · subst same
    exact .inr (put_get_same ..)
  · exact .inl (put_get_other _ _ same)

theorem confirmDenied_ends (g : Grant) (r : Reason) (s : State) : GrantsEnded s (State.confirmDenied g r s) := by
  unfold State.confirmDenied
  split
  · exact ⟨_, _, rfl, rfl, fun _ => .inl rfl⟩
  · exact .refl s

theorem grantDropped_ends (d : DoorId) (r : Reason) (s : State) : GrantsEnded s (s.grantDropped d r) := by
  unfold State.grantDropped
  split
  · exact .refl s
  · exact (grantEnded d s).trans ((raise_ends ..).trans (confirmDenied_ends ..))
theorem removalHanded_ends (v : RoomId) (slot : SlotId) (s : State) : GrantsEnded s (s.removalHanded v slot) := by
  unfold State.removalHanded
  split
  · exact .refl s
  · split
    · exact grantDropped_ends ..
    · exact .refl s

/-! ## Slots that leave their place (R97, R163) -/

theorem vestRemove_eq (v : RoomId) (slot : SlotId) (s : State) : vestRemove v slot s =
    if ((s.vests.get v).occupants.filter (fun o => o.slot ≠ slot)).length = (s.vests.get v).occupants.length then s
    else State.removalHanded v slot { s with vests := put s.vests v {
      direction := if (s.vests.get v).occupants.filter (fun o => o.slot ≠ slot) = [] then .none else (s.vests.get v).direction
      occupants := (s.vests.get v).occupants.filter (fun o => o.slot ≠ slot) } } := by
  have absent : ((s.vests.get v).occupants.filter (fun o => o.slot ≠ slot)).length = (s.vests.get v).occupants.length ↔
      (s.vests.get v).occupants.any (fun o => o.slot = slot) = false := by
    rw [List.length_filter_eq_length_iff, List.any_eq_false]
    simp
  unfold vestRemove
  dsimp only
  cases held : (s.vests.get v).occupants.any (fun o => o.slot = slot)
  · rw [if_neg Bool.false_ne_true, if_pos (absent.2 held)]
  · rw [if_pos rfl, if_neg (by rw [absent, held]; decide), handRemoval_eq]
    simp [State.setVest, Vestibule.without, List.isEmpty_iff]

theorem takeOut_eq (slot : SlotId) (s : State) : takeOut slot s = s.slotTaken slot := by
  unfold takeOut State.slotTaken
  cases s.location slot with
  | outside => rfl
  | inStrongroom w => rfl
  | inVestibule w => exact vestRemove_eq w slot s

theorem reportCorrection_eq (found expected : Location) (v : RoomId) (badge : Nat) (s : State) :
    reportCorrection found expected v badge s = s.placeCorrected found expected v badge := by
  unfold reportCorrection State.placeCorrected
  cases found <;> rfl

theorem slotTaken_locations (slot : SlotId) (s : State) : (s.slotTaken slot).locations = s.locations := by
  unfold State.slotTaken
  dsimp only
  split
  · rfl
  · rfl
  · split
    · rfl
    · obtain ⟨_, _, e, _⟩ := removalHanded_ends ‹_› slot { s with vests := put s.vests ‹_› {
        direction := if (s.vests.get ‹_›).occupants.filter (fun o => o.slot ≠ slot) = [] then .none else (s.vests.get ‹_›).direction
        occupants := (s.vests.get ‹_›).occupants.filter (fun o => o.slot ≠ slot) } }
      rw [e]

theorem placeCorrected_with (found expected : Location) (v : RoomId) (badge : Nat) (l : List (SlotId × Location)) (s : State) :
    State.placeCorrected found expected v badge { s with locations := l } =
      { s.placeCorrected found expected v badge with locations := l } := by
  unfold State.placeCorrected
  split <;> rfl

theorem placeCorrected_kept (found expected : Location) (v : RoomId) (badge : Nat) (s : State) :
    (s.placeCorrected found expected v badge).rooms = s.rooms ∧ (s.placeCorrected found expected v badge).locations = s.locations ∧
    (s.placeCorrected found expected v badge).clockTime = s.clockTime ∧ (s.placeCorrected found expected v badge).vests = s.vests := by
  unfold State.placeCorrected
  split <;> exact ⟨rfl, rfl, rfl, rfl⟩

theorem moveTo_eq (slot : SlotId) (badge : Nat) (expected target : Location) (v : RoomId) (s : State) :
    moveTo slot badge expected target v s = s.slotMoved v slot badge expected target := by
  unfold moveTo State.slotMoved
  dsimp only
  rw [takeOut_eq, reportCorrection_eq, State.setLocation, placeCorrected_with, slotTaken_locations]

/-! ## Slots that enter a place (R98 to R100, R169, R170) -/

theorem slotTaken_clockTime (slot : SlotId) (s : State) : (s.slotTaken slot).clockTime = s.clockTime := by
  rw [← takeOut_eq, State.clockTime, State.clockTime, (takeOut_reach slot s).clock]

theorem listOne_eq (v : RoomId) (slot : SlotId) (badge : Nat) (expected : Location) (via : Bool) (s : State) :
    listOne v slot badge expected via s = s.slotListed v slot badge expected via := by
  obtain ⟨rooms, locations, time, -⟩ := placeCorrected_kept (s.location slot) expected v badge (s.slotTaken slot)
  unfold listOne State.slotListed
  dsimp only
  rw [takeOut_eq, reportCorrection_eq, rooms]
  simp only [Config.maxListed, State.setRoom, State.setLocation, State.slotMoved, rooms, locations, slotTaken_locations, time,
    slotTaken_clockTime]

theorem vestAppend_eq (v : RoomId) (slot : SlotId) (badge : Nat) (dir : Direction) (s : State) :
    vestAppend v slot badge dir s = s.chamberEntered v slot badge dir := rfl

theorem exitOne_eq (v : RoomId) (h : Holder) (s : State) : exitOne v h s = s.exitTaken v h := by
  unfold exitOne State.exitTaken
  simp only [moveTo_eq, vestAppend_eq]

theorem transfer_eq (v : RoomId) (s : State) : transfer v s =
    (s.vests.get v).occupants.foldl (fun u o => u.slotListed v o.slot o.badge (.inVestibule v) true)
      { s with vests := put s.vests v { direction := .none, occupants := [] } } := by
  unfold transfer
  simp only [listOne_eq]
  rfl

theorem entrySingle_eq (v : RoomId) (holders : List Holder) (s : State) :
    entrySingle v holders s = holders.foldl (fun u h => u.slotListed v h.slot h.badge .outside false) s := by
  simp only [entrySingle, listOne_eq]

/-! ## A vestibule that is emptied (R163, R173, R176) -/

theorem foldl_setLocation (gone : List Occupant) (s : State) : gone.foldl (fun t o => t.setLocation o.slot .outside) s =
    { s with locations := gone.foldl (fun l o => sparsePut .outside l o.slot .outside) s.locations } := by
  induction gone generalizing s with
  | nil => rfl
  | cons o rest ih => exact ih _

theorem emptyVestibule_eq (v : RoomId) (k : NoticeKind) (s : State) : emptyVestibule v k s = s.vestibuleEmptied v k := by
  unfold emptyVestibule State.vestibuleEmptied
  simp only [foldl_setLocation, handRemoval_eq]
  rfl

end Sys2Proof.Machine


/-! Laws of doors: what cancellations, throws and the release of an outer door leave of grants and places. -/

namespace Sys2Proof.Machine

variable {z : ZoneId} {s t u : State}

/-! ## What a zone's change of state may do to grants and places (R59, R135, R159, R171) -/

/-- Roles are those of `s`; where strongroom `z` has no vestibule every place stands, and else a slot may go OUTSIDE; a door that is no
outer door may lose its grant. -/
structure Withdrawn (z : ZoneId) (s t : State) : Prop where
  nv      : t.nv = s.nv
  stands  : s.hasVestibule z = false → t.locations = s.locations
  ok      : sparseOk .outside s.locations = true → sparseOk .outside t.locations = true
  cleared : sparseOk .outside s.locations = true → ∀ i, t.location i = s.location i ∨ t.location i = .outside
  grants  : ∀ d, (∀ v, s.role d ≠ .vestibuleOuter v) → t.grants.get d = s.grants.get d ∨ t.grants.get d = none

theorem role_eq_of_nv (h : t.nv = s.nv) (d : DoorId) : t.role d = s.role d := by
  rw [State.role, State.role, State.doorSettings, State.doorSettings, h]

theorem outerDoor_of_nv (h : t.nv = s.nv) (v : RoomId) : t.outerDoor v = s.outerDoor v := by
  simp only [State.outerDoor, role_eq_of_nv h]

theorem hasVestibule_of_nv (h : t.nv = s.nv) (v : RoomId) : t.hasVestibule v = s.hasVestibule v := by
  rw [State.hasVestibule, State.hasVestibule, outerDoor_of_nv h]

theorem Withdrawn.of_same (nv : t.nv = s.nv) (locations : t.locations = s.locations) (grants : t.grants = s.grants) : Withdrawn z s t :=
  ⟨nv, fun _ => locations, fun ok => locations ▸ ok, fun _ i => .inl (by rw [State.location, State.location, locations]),
    fun d _ => .inl (by rw [grants])⟩

theorem Withdrawn.refl (s : State) : Withdrawn z s s := .of_same rfl rfl rfl

theorem Withdrawn.trans (h : Withdrawn z s t) (k : Withdrawn z t u) : Withdrawn z s u := by
  refine ⟨k.nv.trans h.nv, fun none => ?_, fun ok => k.ok (h.ok ok), fun ok i => ?_, fun d inner => ?_⟩
  · rw [k.stands (by rw [hasVestibule_of_nv h.nv]; exact none), h.stands none]
  · rcases k.cleared (h.ok ok) i with kept | outside
    · exact (h.cleared ok i).imp kept.trans kept.trans
    · exact .inr outside
  · rcases k.grants d (fun v => by rw [role_eq_of_nv h.nv]; exact inner v) with kept | none
    · exact (h.grants d inner).imp kept.trans kept.trans
    · exact .inr none

theorem Withdrawn.ite {c : Prop} [Decidable c] (ht : c → Withdrawn z s t) (hu : ¬c → Withdrawn z s u) :
    Withdrawn z s (if c then t else u) := by
  split
  · exact ht ‹_›
  · exact hu ‹_›

theorem Withdrawn.foldl {α : Type} {f : State → α → State} (l : List α) (h : ∀ s, ∀ a ∈ l, Withdrawn z s (f s a)) (s : State) :
    Withdrawn z s (l.foldl f s) := by
  induction l generalizing s with
  | nil => exact .refl s
  | cons a rest ih => exact (h s a List.mem_cons_self).trans (ih (fun t b mem => h t b (List.mem_cons_of_mem a mem)) _)

theorem GrantsEnded.withdrawn (h : GrantsEnded s t) : Withdrawn z s t := by
  obtain ⟨_, _, rfl, _, ends⟩ := h
  exact ⟨rfl, fun _ => rfl, id, fun _ _ => .inl rfl, fun d _ => ends d⟩

theorem dropGrant_withdrawn (d : DoorId) (r : Reason) (s : State) : Withdrawn z s (dropGrant d r s) := by
  rw [dropGrant_eq]
  exact (grantDropped_ends d r s).withdrawn

theorem raise_withdrawn (k : NoticeKind) (o : NoticeObject) (d : Option Detail) (s : State) : Withdrawn z s (raise k o d s) :=
  (raise_ends k o d s).withdrawn

theorem raiseDoor_withdrawn (k : NoticeKind) (d : DoorId) (det : Option Detail) (s : State) : Withdrawn z s (raiseDoor k d det s) :=
  .ite (fun _ => raise_withdrawn ..) (fun _ => .refl s)

theorem setDoor_withdrawn (d : DoorId) (x : Door) (s : State) : Withdrawn z s (s.setDoor d x) := .of_same rfl rfl rfl

/-- The grant of an outer door may be anything. -/
theorem setGrant_withdrawn {d : DoorId} {v : RoomId} (outer : s.role d = .vestibuleOuter v) (g : Option Grant) :
    Withdrawn z s (s.setGrant d g) := by
  refine ⟨rfl, fun _ => rfl, id, fun _ _ => .inl rfl, fun e inner => .inl (put_get_other _ _ ?_)⟩
  rintro rfl
  exact inner v outer

theorem setLocations_withdrawn (exists_ : s.hasVestibule z = true) (gone : List Occupant) :
    Withdrawn z s (gone.foldl (fun s o => s.setLocation o.slot .outside) s) := by
  induction gone generalizing s with
  | nil => exact .refl s
  | cons o rest ih =>
    refine .trans (t := s.setLocation o.slot .outside) ?_ (ih exists_)
    refine ⟨rfl, fun none => absurd (exists_.symm.trans none) (by decide), fun ok => sparsePut_ok o.slot Location.outside ok, fun ok i => ?_, fun d _ => .inl rfl⟩
    by_cases same : i = o.slot
    · subst same
      exact .inr (State.location_setLocation_same _ _ ok)
    · exact .inl (State.location_setLocation_other _ same)

theorem emptyVestibule_withdrawn {v : RoomId} (k : NoticeKind) (exists_ : s.hasVestibule z = true) :
    Withdrawn z s (emptyVestibule v k s) := by
  have emptied : Withdrawn z s (s.setVest v Vestibule.empty) := .of_same rfl rfl rfl
  have moved := setLocations_withdrawn (s := s.setVest v Vestibule.empty) exists_ (s.vests.get v).occupants
  refine ((emptied.trans moved).trans (.foldl _ (fun t o _ => ?_) _)).trans (.foldl _ (fun t o _ => raise_withdrawn ..) _)
  rw [handRemoval_eq]
  exact (removalHanded_ends ..).withdrawn

/-! ## Bolts (R142, R145, R148, R151, R171) -/

theorem beginWithdraw_withdrawn {d : DoorId} {v : RoomId} (outer : s.role d = .vestibuleOuter v) : Withdrawn z s (beginWithdraw d s) := by
  unfold beginWithdraw
  refine .ite (fun _ => ?_) (fun _ => setDoor_withdrawn ..)
  have stopped : Withdrawn z s (stopAtTarget d .withdrawn s) := setDoor_withdrawn ..
  exact stopped.trans ((setDoor_withdrawn (s := stopAtTarget d .withdrawn s) ..).trans (setGrant_withdrawn (v := v) (by exact outer) _))

theorem autoRelease_withdrawn (s : State) : Withdrawn z s (autoRelease z s) := by
  unfold autoRelease
  split
  next i o _ outer =>
    have role := outerDoor_role outer
    have exists_ : s.hasVestibule z = true := by rw [State.hasVestibule, outer]; rfl
    dsimp only
    split
    · have dropped := dropGrant_withdrawn (z := z) o .direction s
      generalize dropGrant o .direction s = t at dropped ⊢
      have granted : ∀ g : Option Grant, Withdrawn z s (startRelease o (t.setGrant o g)) := fun g =>
        (dropped.trans (setGrant_withdrawn ((role_eq_of_nv dropped.nv o).trans role) g)).trans
          ((setDoor_withdrawn ..).trans (beginWithdraw_withdrawn (v := z) ((role_eq_of_nv dropped.nv o).trans role)))
      split
      · have released := granted (some ⟨(s.vests.get z).occupants.map (fun p => ⟨p.slot, p.badge⟩), .exit, .inside, .releasing, none, none⟩)
        generalize startRelease o _ = w at released ⊢
        have opened : Withdrawn z w (enterOpen o w) := setDoor_withdrawn ..
        have ended := setGrant_withdrawn (z := z) (s := enterOpen o w) ((role_eq_of_nv released.nv o).trans role) none
        refine (released.trans (opened.trans ended)).trans (emptyVestibule_withdrawn _ ?_)
        have same : State.hasVestibule _ z = _ := hasVestibule_of_nv (released.trans (opened.trans ended)).nv z
        exact same.trans exists_
      · exact granted _
    · exact .refl s
  next => exact .refl s

theorem handSecure_withdrawn {d : DoorId} (here : (s.role d).room = some z) (rederived : Bool) : Withdrawn z s (handSecure d rederived s) := by
  unfold handSecure
  split
  next v role =>
    rw [role] at here
    cases here
    exact autoRelease_withdrawn s
  next v role =>
    rw [role] at here
    cases here
    exact .ite (fun _ => autoRelease_withdrawn s) (fun _ => .refl s)
  next => exact .refl s

theorem enterSecure_withdrawn {d : DoorId} (here : (s.role d).room = some z) (rederived : Bool) :
    Withdrawn z s (enterSecure d rederived s) := by
  unfold enterSecure
  dsimp only
  generalize shut : s.setDoor d _ = t
  have closed : Withdrawn z s t := shut ▸ setDoor_withdrawn ..
  have told : Withdrawn z s (if (s.doors.get d).alarm = true then raiseDoor .doorSecured d none t else t) :=
    closed.trans (.ite (fun _ => raiseDoor_withdrawn ..) (fun _ => .refl t))
  exact .ite (fun _ => told) (fun _ => told.trans (handSecure_withdrawn (by rw [role_eq_of_nv told.nv]; exact here) rederived))

theorem beginThrow_withdrawn {d : DoorId} (here : (s.role d).room = some z) : Withdrawn z s (beginThrow d s) := by
  have stopped : Withdrawn z s (stopAtTarget d .thrown s) := setDoor_withdrawn ..
  exact .ite (fun _ => stopped.trans (enterSecure_withdrawn (by rw [role_eq_of_nv stopped.nv]; exact here) false)) (fun _ => setDoor_withdrawn ..)

theorem throwKeepingTrips_withdrawn {d : DoorId} (here : (s.role d).room = some z) : Withdrawn z s (throwKeepingTrips d s) := by
  unfold throwKeepingTrips throwInto
  dsimp only
  generalize relocking : s.setDoor d _ = t
  have closed : Withdrawn z s t := relocking ▸ setDoor_withdrawn ..
  exact closed.trans ((beginThrow_withdrawn (by rw [role_eq_of_nv closed.nv]; exact here)).trans (setDoor_withdrawn ..))

theorem doorCancelled_withdrawn {d : DoorId} (here : (s.role d).room = some z) : Withdrawn z s (doorCancelled d s) := by
  unfold doorCancelled
  dsimp only
  split
  · exact setDoor_withdrawn ..
  · exact throwKeepingTrips_withdrawn here
  · exact throwKeepingTrips_withdrawn here
  · exact .refl s

theorem cancelGrant_withdrawn {d : DoorId} (here : (s.role d).room = some z) (r : Reason) : Withdrawn z s (cancelGrant d r s) := by
  have dropped := dropGrant_withdrawn (z := z) d r s
  exact .ite (fun _ => dropped.trans (doorCancelled_withdrawn (by rw [role_eq_of_nv dropped.nv]; exact here))) (fun _ => dropped)

/-! ## The zone's moves (R50, R59, R75) -/

theorem cancelHazard_withdrawn (z : ZoneId) (s : State) : Withdrawn z s (cancelHazard z s) := by
  refine .foldl _ (fun t d _ => ?_) s
  dsimp only
  split
  next reached =>
    rw [Bool.and_eq_true, decide_eq_true_eq] at reached
    exact cancelGrant_withdrawn reached.1 _
  next => exact .refl t

theorem handZone_withdrawn (z : ZoneId) (s : State) : Withdrawn z s (handZone z s) := by
  have cancelled := cancelHazard_withdrawn z s
  unfold handZone
  dsimp only
  split
  · refine cancelled.trans (.foldl _ (fun t d _ => ?_) _)
    dsimp only
    split
    next throws =>
      simp only [State.throwsAtRelease, Bool.and_eq_true, decide_eq_true_eq] at throws
      exact beginThrow_withdrawn throws.1.1.1
    next => exact .refl t
  · exact cancelled

theorem BankOnly.withdrawn (h : BankOnly s t) : Withdrawn z s t := by
  obtain ⟨_, _, rfl⟩ := h
  exact .of_same rfl rfl rfl

theorem reportOpenDoor_withdrawn (d : Option DoorId) (s : State) : Withdrawn z s (reportOpenDoor d s) := by
  unfold reportOpenDoor
  split
  · exact .ite (fun _ => .refl s) (fun _ => raise_withdrawn ..)
  · exact .refl s

theorem setZone_withdrawn (x : Zone) (s : State) : Withdrawn z s (s.setZone z x) := .of_same rfl rfl rfl

theorem failRelease_withdrawn (z : ZoneId) (s : State) : Withdrawn z s (failRelease z s) :=
  (setZone_withdrawn _ s).trans ((raise_withdrawn ..).trans (handZone_withdrawn z _))

theorem enterRelease_withdrawn (z : ZoneId) (s : State) : Withdrawn z s (enterRelease z s) := by
  have recorded : Withdrawn z s (releaseRecorded z s) := by
    refine .trans ?_ (.trans (reportOpenDoor_withdrawn ..) (reportOpenDoor_withdrawn ..))
    have marked : ∀ t : State, Withdrawn z t (requestMark (.discharge z) true t) := fun t => .of_same rfl rfl rfl
    exact (setZone_withdrawn _ s).trans ((raise_withdrawn ..).trans (marked _))
  have handed : Withdrawn z s (releaseHanded z s) :=
    recorded.trans (((queueAll_reach ..).withdrawn.trans (grantPulses_reach _).withdrawn).trans (handZone_withdrawn z _))
  rw [enterRelease_eq]
  exact .ite (fun _ => handed.trans (failRelease_withdrawn z _)) (fun _ => handed)

theorem reportE_withdrawn (z : ZoneId) (s : State) : Withdrawn z s (reportE z s) := by
  unfold reportE
  dsimp only
  split
  · exact .ite (fun _ => enterRelease_withdrawn z s) (fun _ => .refl s)
  · exact .ite (fun _ => setZone_withdrawn _ s) (fun _ => .refl s)
  · exact .ite (fun _ => setZone_withdrawn _ s) (fun _ => .refl s)
  · exact .refl s

theorem settleAt_withdrawn (before : Vector Room 12) (z : RoomId) (s : State) : Withdrawn z s (settleAt before z s) := by
  have reported : Withdrawn z s (if (before.get z).effective ≠ (s.rooms.get z).effective then reportE z s else s) :=
    .ite (fun _ => reportE_withdrawn z s) (fun _ => .refl s)
  exact reported.trans (.ite (fun _ => by rw [evalLone_eq]; exact .of_same rfl rfl rfl) (fun _ => .refl _))

end Sys2Proof.Machine


/-! Passages: slots that are listed, taken out and transferred (R94, R96 to R101, R134, R169). -/

namespace Sys2Proof.Machine

variable {s t : State}

/-! ## Many places set in turn -/

theorem sparseGet_put_some {n : Nat} {α : Type} [DecidableEq α] {dflt y : α} (t : List (Fin n × α)) (i : Fin n) (h : y ≠ dflt) :
    sparseGet dflt (sparsePut dflt t i y) i = y := by
  rw [sparsePut, if_neg h]
  exact sparseGet_insert_same t i y

/-- The places of a list of slots have been set one after another. -/
def placesSet (p : Location) (slots : List SlotId) (l : List (SlotId × Location)) : List (SlotId × Location) :=
  slots.foldl (fun l i => sparsePut .outside l i p) l

theorem placesSet_ok {p : Location} (slots : List SlotId) {l : List (SlotId × Location)} (ok : sparseOk .outside l = true) :
    sparseOk .outside (placesSet p slots l) = true := by
  induction slots generalizing l with
  | nil => exact ok
  | cons i rest ih => exact ih (sparsePut_ok i p ok)

theorem placesSet_other {p : Location} {slots : List SlotId} {i : SlotId} (h : i ∉ slots) (l : List (SlotId × Location)) :
    sparseGet .outside (placesSet p slots l) i = sparseGet .outside l i := by
  induction slots generalizing l with
  | nil => rfl
  | cons j rest ih =>
    rw [List.mem_cons, not_or] at h
    exact (ih h.2 _).trans (sparseGet_put_other p h.1)

theorem placesSet_mem {p : Location} {slots : List SlotId} {i : SlotId} (h : i ∈ slots) {l : List (SlotId × Location)}
    (ok : p ≠ .outside ∨ sparseOk .outside l = true) : sparseGet .outside (placesSet p slots l) i = p := by
  induction slots generalizing l with
  | nil => cases h
  | cons j rest ih =>
    by_cases later : i ∈ rest
    · exact ih later (ok.imp_right (sparsePut_ok j p))
    · obtain rfl := (List.mem_cons.1 h).resolve_right later
      refine (placesSet_other later _).trans ?_
      rcases ok with set | ok
      · exact sparseGet_put_some l i set
      · exact sparseGet_put_same i p ok

/-! ## Slots that are listed in turn (R98, R99) -/

section
variable {α : Type} (slot : α → SlotId) (badge : α → Nat)

/-- A notice of strongroom `v` with its badge has been raised for each of a list. -/
def State.toldAll (k : NoticeKind) (v : RoomId) (gone : List α) (s : State) : State :=
  gone.foldl (fun u o => raise k (.strongroom v) (some (.badge (badge o))) u) s

/-- The state with other strongroom records and other places. -/
def State.withPlaces (rooms : Vector Room 12) (l : List (SlotId × Location)) (s : State) : State := { s with rooms := rooms, locations := l }

/-- Each of a list has left for strongroom `v`: `k` of them are listed, the rest find the list full. -/
def State.arrived (v : RoomId) (via : Bool) (k : Nat) (gone : List α) (s : State) : State :=
  ((s.toldAll badge .entry v (gone.take k)).toldAll badge .strongroomOverflow v (gone.drop k)).withPlaces
    (put s.rooms v { s.rooms.get v with
      listed := (s.rooms.get v).listed ++ (gone.take k).map (fun o => ⟨slot o, badge o, s.clockTime, via⟩)
      unknown := (s.rooms.get v).unknown || decide (k < gone.length) })
    (placesSet .outside ((gone.drop k).map slot) (placesSet (.inStrongroom v) ((gone.take k).map slot) s.locations))

/-- Nothing has to be taken out of the place: OUTSIDE, or a vestibule that is empty by now. -/
def State.vacant (s : State) (p : Location) : Prop := p = .outside ∨ ∃ w, p = .inVestibule w ∧ (s.vests.get w).occupants = []

theorem slotTaken_vacant {i : SlotId} {p : Location} (here : s.location i = p) (vacant : s.vacant p) : s.slotTaken i = s := by
  unfold State.slotTaken
  rcases vacant with rfl | ⟨w, rfl, empty⟩
  · simp [here]
  · simp [here, empty]

theorem slotListed_vacant {v : RoomId} {i : SlotId} {n : Nat} {p : Location} {via : Bool} (here : s.location i = p) (vacant : s.vacant p) :
    s.slotListed v i n p via =
      if (s.rooms.get v).listed.length < 16 then
        raise .entry (.strongroom v) (some (.badge n)) { s with
          locations := sparsePut .outside s.locations i (.inStrongroom v)
          rooms := put s.rooms v { s.rooms.get v with listed := (s.rooms.get v).listed ++ [⟨i, n, s.clockTime, via⟩] } }
      else
        raise .strongroomOverflow (.strongroom v) (some (.badge n)) { s with
          locations := sparsePut .outside s.locations i .outside
          rooms := put s.rooms v { s.rooms.get v with unknown := true } } := by
  simp only [State.slotListed, State.slotMoved, slotTaken_vacant here vacant, here, State.placeCorrected, if_true]

theorem toldAll_with (k : NoticeKind) (v : RoomId) (gone : List α) (rooms : Vector Room 12) (l : List (SlotId × Location)) (s : State) :
    State.toldAll badge k v gone (s.withPlaces rooms l) = (s.toldAll badge k v gone).withPlaces rooms l := by
  unfold State.toldAll
  induction gone generalizing s with
  | nil => rfl
  | cons o rest ih => exact ih (raise k (.strongroom v) (some (.badge (badge o))) s)

theorem arrived_nil (v : RoomId) (via : Bool) (k : Nat) (s : State) : s.arrived slot badge v via k [] = s := by
  have unchanged : put s.rooms v (s.rooms.get v) = s.rooms := put_same ..
  simp [State.arrived, State.toldAll, State.withPlaces, placesSet, unchanged]

theorem arrived_with (v : RoomId) (via : Bool) (k : Nat) (gone : List α) (rooms : Vector Room 12) (l : List (SlotId × Location)) (s : State) :
    State.arrived slot badge v via k gone (s.withPlaces rooms l) =
    ((s.toldAll badge .entry v (gone.take k)).toldAll badge .strongroomOverflow v (gone.drop k)).withPlaces
      (put rooms v { rooms.get v with
        listed := (rooms.get v).listed ++ (gone.take k).map (fun o => ⟨slot o, badge o, s.clockTime, via⟩)
        unknown := (rooms.get v).unknown || decide (k < gone.length) })
      (placesSet .outside ((gone.drop k).map slot) (placesSet (.inStrongroom v) ((gone.take k).map slot) l)) := by
  unfold State.arrived
  rw [toldAll_with, toldAll_with]
  rfl

theorem arrived_listed (v : RoomId) (via : Bool) (k : Nat) (o : α) (rest : List α) (s : State) :
    State.arrived slot badge v via k rest (raise .entry (.strongroom v) (some (.badge (badge o))) { s with
      locations := sparsePut .outside s.locations (slot o) (.inStrongroom v)
      rooms := put s.rooms v { s.rooms.get v with listed := (s.rooms.get v).listed ++ [⟨slot o, badge o, s.clockTime, via⟩] } }) =
      s.arrived slot badge v via (k + 1) (o :: rest) := by
  refine (arrived_with slot badge v via k rest _ _ (raise .entry (.strongroom v) (some (.badge (badge o))) s)).trans ?_
  simp only [put_get_same, put_put, List.append_assoc]
  unfold State.arrived
  simp only [List.take_succ_cons, List.drop_succ_cons, List.map_cons, List.length_cons, Nat.add_lt_add_iff_right]
  rfl

theorem arrived_full (v : RoomId) (via : Bool) (o : α) (rest : List α) (s : State) :
    State.arrived slot badge v via 0 rest (raise .strongroomOverflow (.strongroom v) (some (.badge (badge o))) { s with
      locations := sparsePut .outside s.locations (slot o) .outside
      rooms := put s.rooms v { s.rooms.get v with unknown := true } }) = s.arrived slot badge v via 0 (o :: rest) := by
  refine (arrived_with slot badge v via 0 rest _ _ (raise .strongroomOverflow (.strongroom v) (some (.badge (badge o))) s)).trans ?_
  simp only [put_get_same, put_put, Bool.true_or]
  unfold State.arrived
  simp only [List.take_zero, List.drop_zero, List.length_cons, Nat.zero_lt_succ, decide_true, Bool.or_true]
  rfl

/-- Slots whose places need no correction and hold nothing back are listed while the strongroom has room. -/
theorem foldl_slotListed {v : RoomId} {via : Bool} {p : Location} {k : Nat} {gone : List α} (distinct : (gone.map slot).Nodup)
    (room : 16 - (s.rooms.get v).listed.length = k) (bound : (s.rooms.get v).listed.length ≤ 16)
    (here : ∀ o ∈ gone, s.location (slot o) = p) (vacant : s.vacant p) :
    gone.foldl (fun u o => u.slotListed v (slot o) (badge o) p via) s = s.arrived slot badge v via k gone := by
  induction gone generalizing s k with
  | nil => exact (arrived_nil ..).symm
  | cons o rest ih =>
    rw [List.map_cons, List.nodup_cons] at distinct
    have apart : ∀ q ∈ rest, ∀ target : Location, sparseGet .outside (sparsePut .outside s.locations (slot o) target) (slot q) = p := by
      intro q mem target
      have other : slot q ≠ slot o := fun same => distinct.1 (same ▸ List.mem_map_of_mem mem)
      exact (sparseGet_put_other target other).trans (here q (List.mem_cons_of_mem o mem))
    rw [List.foldl_cons, slotListed_vacant (here o List.mem_cons_self) vacant]
    by_cases few : (s.rooms.get v).listed.length < 16
    · obtain ⟨j, rfl⟩ : ∃ j, k = j + 1 := ⟨k - 1, by omega⟩
      rw [if_pos few, ← arrived_listed]
      refine ih distinct.2 ?_ ?_ ?_ vacant
      · simp only [raise_rooms, put_get_same, List.length_append, List.length_singleton]
        omega
      · simp only [raise_rooms, put_get_same, List.length_append, List.length_singleton]
        omega
      · exact fun q mem => apart q mem (.inStrongroom v)
    · obtain rfl : k = 0 := by omega
      rw [if_neg few, ← arrived_full]
      refine ih distinct.2 ?_ ?_ ?_ vacant
      · simp only [raise_rooms, put_get_same]
        omega
      · simp only [raise_rooms, put_get_same]
        exact bound
      · exact fun q mem => apart q mem .outside

/-- Where each of them is in the end. -/
theorem arrived_location {v : RoomId} {via : Bool} {k : Nat} {gone : List α} (distinct : (gone.map slot).Nodup) :
    (∀ o ∈ gone.take k, (s.arrived slot badge v via k gone).location (slot o) = .inStrongroom v) ∧
    (sparseOk .outside s.locations = true → ∀ o ∈ gone.drop k, (s.arrived slot badge v via k gone).location (slot o) = .outside) ∧
    (∀ i, (∀ o ∈ gone, slot o ≠ i) → (s.arrived slot badge v via k gone).location i = s.location i) := by
  have parts : ((gone.take k).map slot ++ (gone.drop k).map slot).Nodup := by
    rw [← List.map_append, List.take_append_drop]
    exact distinct
  have apart := (List.nodup_append.1 parts).2.2
  refine ⟨fun o mem => ?_, fun ok o mem => ?_, fun i none => ?_⟩
  · have listed : slot o ∈ (gone.take k).map slot := List.mem_map_of_mem mem
    have stays : slot o ∉ (gone.drop k).map slot := fun later => apart _ listed _ later rfl
    exact (placesSet_other stays _).trans (placesSet_mem listed (.inl (by simp)))
  · exact placesSet_mem (List.mem_map_of_mem mem) (.inr (placesSet_ok _ ok))
  · have absent : ∀ l : List α, (∀ o ∈ l, o ∈ gone) → i ∉ l.map slot := by
      intro l sub mem
      obtain ⟨o, within, rfl⟩ := List.mem_map.1 mem
      exact none o (sub o within) rfl
    exact (placesSet_other (absent _ fun o mem => List.mem_of_mem_drop mem) _).trans
      (placesSet_other (absent _ fun o mem => List.mem_of_mem_take mem) _)

end

/-! ## Passages (R98 to R101, R134) -/

theorem passage_granted {d : DoorId} {g : Grant} (grant : s.grants.get d = some g) :
    passage d s = settle s.rooms (movePassage d g { s with grants := put s.grants d none }) := by
  simp only [passage, grant]
  rfl

theorem passage_none {d : DoorId} (grant : s.grants.get d = none) : passage d s = s := by
  simp only [passage, grant]

theorem movePassage_entry {d : DoorId} {v : RoomId} {g : Grant} (role : s.role d = .strongroom v) (purpose : g.purpose = .entry) :
    movePassage d g s = if s.hasVestibule v then transfer v s
      else g.holders.foldl (fun u h => u.slotListed v h.slot h.badge .outside false) s := by
  simp only [movePassage, role, purpose, entrySingle_eq]

theorem movePassage_exit {d : DoorId} {v : RoomId} {g : Grant} (role : s.role d = .strongroom v) (purpose : g.purpose = .exit) :
    movePassage d g s = g.holders.foldl (fun u h => u.exitTaken v h) s := by
  simp only [movePassage, role, purpose, exitOne_eq]

/-- The grant of door `d` is at its end. -/
def State.ungranted (d : DoorId) (s : State) : State := { s with grants := put s.grants d none }

theorem passage_listed {d : DoorId} {v : RoomId} {g : Grant} (role : s.role d = .strongroom v) (none : s.hasVestibule v = false)
    (grant : s.grants.get d = some g) (purpose : g.purpose = .entry) (here : ∀ h ∈ g.holders, s.location h.slot = .outside)
    (distinct : (g.holders.map (fun h => h.slot)).Nodup) (bound : (s.rooms.get v).listed.length ≤ 16) :
    passage d s = settle s.rooms ((s.ungranted d).arrived Holder.slot Holder.badge v false (16 - (s.rooms.get v).listed.length) g.holders) := by
  have listed := foldl_slotListed Holder.slot Holder.badge (s := s.ungranted d) (v := v) (via := false) distinct rfl bound here (.inl rfl)
  have moved : movePassage d g (s.ungranted d) = _ := movePassage_entry role purpose
  have absent : (s.ungranted d).hasVestibule v = false := none
  rw [absent, if_neg Bool.false_ne_true, listed] at moved
  exact (passage_granted grant).trans (congrArg (settle s.rooms) moved)

theorem exitTaken_listed {v : RoomId} {h : Holder} (none : s.hasVestibule v = false) (here : s.location h.slot = .inStrongroom v) :
    s.exitTaken v h = raise .exit (.strongroom v) (some (.badge h.badge)) { s with
      rooms := put s.rooms v { s.rooms.get v with listed := (s.rooms.get v).listed.filter (fun e => e.slot ≠ h.slot) }
      locations := sparsePut .outside s.locations h.slot .outside } := by
  simp [State.exitTaken, none, here, State.slotMoved, State.slotTaken, State.placeCorrected]

theorem egressStrongroom_empty {v : RoomId} (h : (s.rooms.get v).listed = []) : egressStrongroom v s = s := by
  simp only [egressStrongroom, h]

theorem joinRing_eq (x : AssumedOut) (ring : List AssumedOut) :
    joinRing x ring = (if ring.length < 8 then ring else ring.drop 1) ++ [x] := by
  unfold joinRing Config.maxAssumedOut
  split <;> rfl

theorem egressStrongroom_oldest {v : RoomId} {e : ListedEntry} {rest : List ListedEntry} (h : (s.rooms.get v).listed = e :: rest) :
    egressStrongroom v s = raise .assumedOut (.strongroom v) (some (.badge e.badge)) { s with
      locations := sparsePut .outside s.locations e.slot .outside
      rooms := put s.rooms v { s.rooms.get v with
        listed := rest
        assumedOut := (if (s.rooms.get v).assumedOut.length < 8 then (s.rooms.get v).assumedOut
          else (s.rooms.get v).assumedOut.drop 1) ++ [⟨e.slot, e.badge, e.time, s.clockTime⟩] } } := by
  simp only [egressStrongroom, h, joinRing_eq, State.setRoom, State.setLocation]

theorem transfer_arrived {v : RoomId} {gone : List Occupant} (occupants : (s.vests.get v).occupants = gone)
    (here : ∀ o ∈ gone, s.location o.slot = .inVestibule v) (distinct : (gone.map (fun o => o.slot)).Nodup)
    (bound : (s.rooms.get v).listed.length ≤ 16) :
    transfer v s = State.arrived Occupant.slot Occupant.badge v true (16 - (s.rooms.get v).listed.length) gone
      { s with vests := put s.vests v { direction := .none, occupants := [] } } := by
  rw [transfer_eq, occupants]
  exact foldl_slotListed Occupant.slot Occupant.badge (s := { s with vests := put s.vests v { direction := .none, occupants := [] } })
    distinct rfl bound here (.inr ⟨v, rfl, by simp⟩)

theorem toldAll_link {α : Type} (badge : α → Nat) (k : NoticeKind) (v : RoomId) (gone : List α) (s : State) :
    ∃ link, s.toldAll badge k v gone = { s with link := link } := by
  unfold State.toldAll
  induction gone generalizing s with
  | nil => exact ⟨_, rfl⟩
  | cons o rest ih => exact ih (raise k (.strongroom v) (some (.badge (badge o))) s)

/-- Notices do not read the vestibules. -/
theorem toldAll_vests {α : Type} (badge : α → Nat) (k : NoticeKind) (v : RoomId) (gone : List α) (vests : Vector Vestibule 12) (s : State) :
    State.toldAll badge k v gone { s with vests := vests } = { s.toldAll badge k v gone with vests := vests } := by
  unfold State.toldAll
  induction gone generalizing s with
  | nil => rfl
  | cons o rest ih => exact ih (raise k (.strongroom v) (some (.badge (badge o))) s)

theorem arrived_kept {α : Type} (slot : α → SlotId) (badge : α → Nat) (v : RoomId) (via : Bool) (k : Nat) (gone : List α) (s : State) :
    (s.arrived slot badge v via k gone).grants = s.grants ∧ (s.arrived slot badge v via k gone).vests = s.vests ∧
    (s.arrived slot badge v via k gone).nv = s.nv := by
  unfold State.arrived
  obtain ⟨_, entries⟩ := toldAll_link badge .entry v (gone.take k) s
  obtain ⟨_, overflows⟩ := toldAll_link badge .strongroomOverflow v (gone.drop k) (s.toldAll badge .entry v (gone.take k))
  rw [overflows, entries]
  exact ⟨rfl, rfl, rfl⟩

/-- What follows a change of the records of strongroom `v` alone. -/
theorem settle_alone {before : Vector Room 12} {v : RoomId} (others : ∀ w, w ≠ v → before.get w = s.rooms.get w) :
    Withdrawn v s (settle before s) ∧ ∀ w, w ≠ v → (settle before s).rooms.get w = s.rooms.get w := by
  refine ⟨?_, fun w other => ?_⟩
  · rw [settle_one fun w other => by rw [others w other]; exact ⟨rfl, rfl⟩]
    exact settleAt_withdrawn before v s
  · rw [settle_rooms, others w other, if_neg (not_not_intro rfl)]

theorem Withdrawn.ungranted {d : DoorId} {v : RoomId} {z : ZoneId} (h : Withdrawn z s t) (role : s.role d = .strongroom v)
    (free : s.grants.get d = none) : t.grants.get d = none := by
  rcases h.grants d (fun w outer => by rw [role] at outer; cases outer) with kept | ended
  · exact kept.trans free
  · exact ended

/-- Settles O23: the passages in the words of the obligation, the settled lists from the fold over the slots, and what follows from the
report of one strongroom. -/
theorem passagesMoveSlots : Obligations.PassagesMoveSlots := by
  refine ⟨?_, ?_, fun s v => ⟨egressStrongroom_empty, fun e rest => egressStrongroom_oldest⟩, ?_, ?_, ?_, fun s v => transfer_eq v s, ?_⟩
  · intro s d v g role none grant purpose here distinct ok bound
    have locations := arrived_location Holder.slot Holder.badge (s := s.ungranted d) (v := v) (via := false)
      (k := 16 - (s.rooms.get v).listed.length) distinct
    obtain ⟨grants, _, nv⟩ := arrived_kept Holder.slot Holder.badge v false (16 - (s.rooms.get v).listed.length) g.holders (s.ungranted d)
    have rooms : ((s.ungranted d).arrived Holder.slot Holder.badge v false (16 - (s.rooms.get v).listed.length) g.holders).rooms = put _ v _ := rfl
    rw [passage_listed role none grant purpose here distinct bound]
    generalize State.arrived _ _ _ _ _ _ (s.ungranted d) = u at *
    obtain ⟨withdrawn, others⟩ := settle_alone (before := s.rooms) (s := u) (v := v) fun w other => by rw [rooms, put_get_other _ _ other]; rfl
    have stands : (settle s.rooms u).locations = u.locations := withdrawn.stands ((hasVestibule_of_nv nv v).trans none)
    have place : ∀ i, (settle s.rooms u).location i = u.location i := fun i => by rw [State.location, State.location, stands]
    refine ⟨withdrawn.ungranted ((role_eq_of_nv nv d).trans role) (by rw [grants]; exact put_get_same ..), ?_, ?_, ?_, ?_, ?_, ?_⟩
    · rw [settle_rooms, rooms, put_get_same]
      rfl
    · rw [settle_rooms, rooms, put_get_same]
      have full : 16 - (s.rooms.get v).listed.length < g.holders.length ↔ 16 < (s.rooms.get v).listed.length + g.holders.length := by omega
      exact congrArg ((s.rooms.get v).unknown || ·) (decide_eq_decide.2 full)
    · exact fun h mem => (place h.slot).trans (locations.1 h mem)
    · exact fun h mem => (place h.slot).trans (locations.2.1 ok h mem)
    · exact fun i absent => (place i).trans (locations.2.2 i absent)
    · intro w other
      rw [others w other, rooms, put_get_other _ _ other]
      rfl
  · intro s d v g h role absent grant holders purpose here ok
    have moved : movePassage d g (s.ungranted d) = _ := movePassage_exit role purpose
    rw [holders, List.foldl_cons, List.foldl_nil] at moved
    have told := exitTaken_listed (s := s.ungranted d) (v := v) (h := h) absent here
    have gone : passage d s = settle s.rooms ((s.ungranted d).exitTaken v h) := (passage_granted grant).trans (congrArg (settle s.rooms) moved)
    have rooms := congrArg State.rooms told
    have places := congrArg State.locations told
    have grants := congrArg State.grants told
    simp only [raise_rooms] at rooms
    have nv : ((s.ungranted d).exitTaken v h).nv = s.nv := by rw [told]; rfl
    rw [gone]
    generalize (s.ungranted d).exitTaken v h = u at *
    obtain ⟨withdrawn, others⟩ := settle_alone (before := s.rooms) (s := u) (v := v) fun w other => by rw [rooms, put_get_other _ _ other]; rfl
    have stands : (settle s.rooms u).locations = u.locations := withdrawn.stands ((hasVestibule_of_nv nv v).trans absent)
    have place : ∀ i, (settle s.rooms u).location i = sparseGet .outside (sparsePut .outside s.locations h.slot .outside) i := fun i => by
      rw [State.location, stands, places]
      rfl
    refine ⟨withdrawn.ungranted ((role_eq_of_nv nv d).trans role) (by rw [grants]; exact put_get_same ..), ?_, ?_, ?_, ?_⟩
    · rw [settle_rooms, rooms, put_get_same]
      rfl
    · exact (place h.slot).trans (sparseGet_put_same _ _ ok)
    · exact fun i other => (place i).trans (sparseGet_put_other _ other)
    · intro w other
      rw [others w other, rooms, put_get_other _ _ other]
      rfl
  · intro s v gone occupants here distinct bound
    have kept := arrived_kept Occupant.slot Occupant.badge v true (16 - (s.rooms.get v).listed.length) gone
      { s with vests := put s.vests v { direction := .none, occupants := [] } }
    have locations := arrived_location Occupant.slot Occupant.badge (v := v) (via := true) (k := 16 - (s.rooms.get v).listed.length)
      (s := { s with vests := put s.vests v { direction := .none, occupants := [] } }) distinct
    rw [transfer_arrived occupants here distinct (by omega)]
    have all : gone.take (16 - (s.rooms.get v).listed.length) = gone := List.take_of_length_le (by omega)
    rw [all] at locations
    refine ⟨by rw [kept.2.1, put_get_same], by rw [kept.2.1, put_get_same], ?_, locations.1, locations.2.2, fun w other => ⟨?_, ?_⟩, kept.1⟩
    · simp only [State.arrived, State.withPlaces, put_get_same, all]
      rfl
    · simp only [State.arrived, State.withPlaces]
      rw [put_get_other _ _ other]
    · rw [kept.2.1, put_get_other _ _ other]
  · intro s d v role
    refine ⟨fun g grant => passage_granted grant, fun g grant vestibule purpose => ?_, passage_none, ?_⟩
    · have moved : movePassage d g (s.ungranted d) = _ := movePassage_entry role purpose
      have present : (s.ungranted d).hasVestibule v = true := vestibule
      rw [present, if_pos rfl] at moved
      exact (passage_granted grant).trans (congrArg (settle s.rooms) moved)
    · simp only [egressPassage, role]
      rfl
  · intro s d v g role grant
    refine ⟨fun purpose absent => ?_, fun purpose => ?_⟩
    · have moved : movePassage d g (s.ungranted d) = _ := movePassage_entry role purpose
      have none : (s.ungranted d).hasVestibule v = false := absent
      rw [none, if_neg Bool.false_ne_true] at moved
      exact (passage_granted grant).trans (congrArg (settle s.rooms) moved)
    · have moved : movePassage d g (s.ungranted d) = _ := movePassage_exit role purpose
      exact (passage_granted grant).trans (congrArg (settle s.rooms) moved)
  · rintro s v gone k occupants here distinct ok bound rfl t rfl
    have locations := arrived_location Occupant.slot Occupant.badge (v := v) (via := true) (k := 16 - (s.rooms.get v).listed.length)
      (s := { s with vests := put s.vests v { direction := .none, occupants := [] } }) distinct
    have arrived := transfer_arrived occupants here distinct bound
    refine ⟨?_, ?_, ?_, ?_⟩
    · rw [arrived]
      exact locations.1
    · rw [arrived]
      exact locations.2.1 ok
    · rw [arrived]
      exact locations.2.2
    · rw [arrived]
      have entries := toldAll_vests Occupant.badge .entry v (gone.take (16 - (s.rooms.get v).listed.length))
        (put s.vests v { direction := .none, occupants := [] }) s
      have overflows := toldAll_vests Occupant.badge .strongroomOverflow v (gone.drop (16 - (s.rooms.get v).listed.length))
        (put s.vests v { direction := .none, occupants := [] })
        (s.toldAll Occupant.badge .entry v (gone.take (16 - (s.rooms.get v).listed.length)))
      unfold State.arrived
      rw [entries, overflows]
      rfl

end Sys2Proof.Machine


/-! OCCUPANT_CLEAR and VESTIBULE_FLUSH (R104, R163, R176). -/

namespace Sys2Proof.Machine

variable {s t : State}

/-! ## OCCUPANT_CLEAR (R104) -/

theorem exec_occupantClear (tag : Nat) (v : RoomId) {target slot : Nat} {c : ClearTarget} (free : s.free)
    (known : clearTargetOf target slot = some c) : exec (.occupantClear tag (number v) target slot) s =
    .next (match c with
      | .slot i => if (s.rooms.get v).lists i then performed (clearSlot v i) (heard 0x37 tag s) else answer .badState (heard 0x37 tag s)
      | .evidence => performed (clearEvidence v) (heard 0x37 tag s)
      | .unknown => performed (clearUnknown v) (heard 0x37 tag s)) := by
  have taken : exec (.occupantClear tag (number v) target slot) s = .next (performOccupantClear (number v) target slot (heard 0x37 tag s)) :=
    onRequest_free 0x37 tag _ free
  rw [taken]
  simp only [performOccupantClear, checkClear, fromOne_number, known, withObject_some]
  cases c <;> rfl

theorem clearTargetOf_slot (slot : SlotId) : clearTargetOf 0 slot.val = some (.slot slot) := by
  simp [clearTargetOf, fromZero_val]

theorem lists_iff (i : SlotId) (r : Room) : r.lists i = true ↔ ∃ e ∈ r.listed, e.slot = i := by
  simp [Room.lists]

/-- The listed slot has been taken out and its notice raised, what follows still to come. -/
def slotCleared (v : RoomId) (i : SlotId) (badge : Nat) (s : State) : State :=
  raise .occupantCleared (.strongroom v) (some (.badge badge)) { s with
    rooms := put s.rooms v { s.rooms.get v with listed := (s.rooms.get v).listed.filter (fun e => e.slot ≠ i) }
    locations := sparsePut .outside s.locations i .outside }

theorem clearSlot_eq (v : RoomId) (i : SlotId) (s : State) :
    clearSlot v i s = settle s.rooms (slotCleared v i ((s.rooms.get v).badgeOf i) s) := rfl

theorem exec_clearSlot {tag : Nat} {v : RoomId} {i : SlotId} (free : s.free) (listed : (s.rooms.get v).lists i = true) :
    exec (.occupantClear tag (number v) 0 i.val) s =
      .next ((settle s.rooms (slotCleared v i ((s.rooms.get v).badgeOf i) (heard 0x37 tag s))).withReply 0x37 tag .ok .none) := by
  have reach : RoomsOnly (slotCleared v i ((s.rooms.get v).badgeOf i) (heard 0x37 tag s)) _ := settle_reach s.rooms _
  have outstanding : (settle s.rooms (slotCleared v i ((s.rooms.get v).badgeOf i) (heard 0x37 tag s))).link.outstanding = some ⟨0x37, tag⟩ :=
    reach.band.outstanding.trans (raise_reach ..).band.outstanding
  have replied := answer_outstanding .ok outstanding
  rw [exec_occupantClear tag v free (clearTargetOf_slot i)]
  dsimp only
  rw [if_pos listed]
  exact congrArg _ replied

/-- The cleared slot is OUTSIDE, the marks of its strongroom and the other strongrooms stand. -/
theorem slotCleared_settled {v : RoomId} {i : SlotId} (badge : Nat) (ok : sparseOk .outside s.locations = true) (t : State)
    (e : settle s.rooms (slotCleared v i badge s) = t) :
    (t.rooms.get v).listed = (s.rooms.get v).listed.filter (fun e => e.slot ≠ i) ∧
    (t.rooms.get v).evidence = (s.rooms.get v).evidence ∧ (t.rooms.get v).unknown = (s.rooms.get v).unknown ∧
    t.location i = .outside ∧ (∀ j, j ≠ i → t.location j = s.location j ∨ t.location j = .outside) ∧
    (∀ w, w ≠ v → t.rooms.get w = s.rooms.get w) := by
  subst e
  have rooms : ∀ w, w ≠ v → s.rooms.get w = (slotCleared v i badge s).rooms.get w := fun w other => (put_get_other _ _ other).symm
  have room : (slotCleared v i badge s).rooms.get v =
      { s.rooms.get v with listed := (s.rooms.get v).listed.filter (fun e => e.slot ≠ i) } := put_get_same ..
  have there : (slotCleared v i badge s).location i = .outside := sparseGet_put_same i Location.outside ok
  have apart : ∀ j, j ≠ i → (slotCleared v i badge s).location j = s.location j := fun j other => sparseGet_put_other Location.outside other
  have cleared : sparseOk .outside (slotCleared v i badge s).locations = true := sparsePut_ok i Location.outside ok
  obtain ⟨withdrawn, others⟩ := settle_alone rooms
  have place := withdrawn.cleared cleared
  refine ⟨by rw [settle_rooms, room], by rw [settle_rooms, room], by rw [settle_rooms, room], ?_, fun j other => ?_, fun w other => ?_⟩
  · exact (place i).elim (·.trans there) id
  · exact (place j).imp_left (·.trans (apart j other))
  · rw [others w other, rooms w other]

/-- A mark of a strongroom has been cleared, the record otherwise as `x` has it. -/
def markCleared (v : RoomId) (mark : Named) (x : Room) (s : State) : State :=
  raise .occupantCleared (.strongroom v) (some (.named mark)) { s with rooms := put s.rooms v x }

theorem clearEvidence_eq (v : RoomId) (s : State) : clearEvidence v s = if (s.rooms.get v).evidence then
    settle s.rooms (markCleared v .evidence { s.rooms.get v with evidence := false } s) else s := rfl

theorem clearUnknown_eq (v : RoomId) (s : State) : clearUnknown v s = if (s.rooms.get v).unknown then
    settle s.rooms (markCleared v .unknown { s.rooms.get v with unknown := false } s) else s := rfl

theorem markCleared_settled (v : RoomId) (mark : Named) {x : Room} (list : x.listed = (s.rooms.get v).listed) :
    (settle s.rooms (markCleared v mark x s)).rooms = put s.rooms v x := by
  refine table_ext fun w => ?_
  rw [settle_rooms]
  have rooms : (markCleared v mark x s).rooms = put s.rooms v x := rfl
  rw [rooms]
  by_cases here : w = v
  · subst here
    rw [put_get_same, list, if_neg (not_not_intro rfl)]
  · rw [put_get_other _ _ here, if_neg (not_not_intro rfl)]

theorem markCleared_outstanding (v : RoomId) (mark : Named) (x : Room) (s : State) :
    (settle s.rooms (markCleared v mark x s)).link.outstanding = s.link.outstanding :=
  (settle_reach s.rooms _).band.outstanding.trans (raise_reach ..).band.outstanding

theorem clearEvidence_rooms (v : RoomId) (s : State) : (clearEvidence v s).rooms = put s.rooms v { s.rooms.get v with evidence := false } := by
  rw [clearEvidence_eq]
  cases mark : (s.rooms.get v).evidence
  · have same : { s.rooms.get v with evidence := false } = s.rooms.get v := by rw [← mark]
    rw [if_neg Bool.false_ne_true, same, put_same]
  · rw [if_pos rfl, markCleared_settled]
    rfl

theorem clearUnknown_rooms (v : RoomId) (s : State) : (clearUnknown v s).rooms = put s.rooms v { s.rooms.get v with unknown := false } := by
  rw [clearUnknown_eq]
  cases mark : (s.rooms.get v).unknown
  · have same : { s.rooms.get v with unknown := false } = s.rooms.get v := by rw [← mark]
    rw [if_neg Bool.false_ne_true, same, put_same]
  · rw [if_pos rfl, markCleared_settled]
    rfl

theorem clearEvidence_outstanding (v : RoomId) (s : State) : (clearEvidence v s).link.outstanding = s.link.outstanding := by
  rw [clearEvidence_eq]
  split
  · exact markCleared_outstanding ..
  · rfl

theorem clearUnknown_outstanding (v : RoomId) (s : State) : (clearUnknown v s).link.outstanding = s.link.outstanding := by
  rw [clearUnknown_eq]
  split
  · exact markCleared_outstanding ..
  · rfl

theorem exec_clearEvidence (tag : Nat) (v : RoomId) (slot : Nat) (free : s.free) :
    exec (.occupantClear tag (number v) 1 slot) s = .next ((clearEvidence v (heard 0x37 tag s)).withReply 0x37 tag .ok .none) := by
  have replied := answer_outstanding .ok ((clearEvidence_outstanding v (heard 0x37 tag s)).trans (heard_outstanding 0x37 tag s))
  rw [exec_occupantClear tag v free (c := .evidence) rfl]
  exact congrArg _ replied

theorem exec_clearUnknown (tag : Nat) (v : RoomId) (slot : Nat) (free : s.free) :
    exec (.occupantClear tag (number v) 2 slot) s = .next ((clearUnknown v (heard 0x37 tag s)).withReply 0x37 tag .ok .none) := by
  have replied := answer_outstanding .ok ((clearUnknown_outstanding v (heard 0x37 tag s)).trans (heard_outstanding 0x37 tag s))
  rw [exec_occupantClear tag v free (c := .unknown) rfl]
  exact congrArg _ replied

theorem exec_clearAbsent {tag : Nat} {v : RoomId} {i : SlotId} (free : s.free) (absent : (s.rooms.get v).lists i = false) :
    exec (.occupantClear tag (number v) 0 i.val) s = .next ((heard 0x37 tag s).withReply 0x37 tag .badState .none) := by
  rw [exec_occupantClear tag v free (clearTargetOf_slot i)]
  dsimp only
  rw [if_neg (by rw [absent]; decide)]
  exact congrArg _ (answer_outstanding .badState (heard_outstanding 0x37 tag s))

/-! ## VESTIBULE_FLUSH (R163, R176) -/

theorem exec_vestibuleFlush (tag : Nat) (v : RoomId) (free : s.free) : exec (.vestibuleFlush tag (number v)) s =
    .next (if s.flushRefused v then (heard 0x36 tag s).withReply 0x36 tag .badState .none
      else (State.vestibuleEmptied v .vestibuleFlushed (heard 0x36 tag s)).withReply 0x36 tag .ok (.flushed (s.vests.get v).occupants)) := by
  have taken : exec (.vestibuleFlush tag (number v)) s = .next (performVestibuleFlush (number v) (heard 0x36 tag s)) :=
    onRequest_free 0x36 tag _ free
  have reach := emptyVestibule_reach v .vestibuleFlushed (heard 0x36 tag s)
  have flushed := answerData_outstanding (.flushed (s.vests.get v).occupants)
    (reach.band.outstanding.trans (heard_outstanding 0x36 tag s))
  have refused := answer_outstanding .badState (heard_outstanding 0x36 tag s)
  rw [taken]
  simp only [performVestibuleFlush, fromOne_number, withObject_some]
  rw [refused]
  rw [emptyVestibule_eq] at flushed ⊢
  exact congrArg _ (congrArg _ flushed)

theorem grantMoving_iff (s : State) (d : DoorId) : s.grantMoving d = true ↔
    ∃ g, s.grants.get d = some g ∧ (g.stage = .releasing ∨ g.stage = .released) := by
  unfold State.grantMoving
  cases s.grants.get d with
  | none => simp
  | some g => cases stage : g.stage <;> simp [GrantStage.waits, stage]

theorem flushRefused_none {v : RoomId} (h : s.hasVestibule v = false) : s.flushRefused v = true := by
  unfold State.flushRefused
  rw [Option.isSome_eq_false_iff.1 h |> Option.isNone_iff_eq_none.1]

theorem flushRefused_iff {v : RoomId} {o : DoorId} (outer : s.outerDoor v = some o) : s.flushRefused v = true ↔
    s.grantMoving o = true ∨ ∃ i, s.strongroomDoor v = some i ∧ s.grantMoving i = true := by
  unfold State.flushRefused
  rw [outer]
  cases inner : s.strongroomDoor v <;> simp

/-- With no grant at the inner door a removal is handed to nobody. -/
theorem removalHanded_free {v : RoomId} {i : DoorId} (slot : SlotId) (inner : s.strongroomDoor v = some i) (free : s.grants.get i = none) :
    s.removalHanded v slot = s := by
  simp [State.removalHanded, inner, free]

theorem raise_tx (k : NoticeKind) (o : NoticeObject) (d : Option Detail) (s : State) : (raise k o d s).link.tx = s.link.tx := by
  obtain ⟨q, lost, e⟩ := take_reach ⟨k, o, d, s.now, s.clockMinute, 1, false⟩ s.link
  rw [raise, e]

theorem toldAll_tx {α : Type} (badge : α → Nat) (k : NoticeKind) (v : RoomId) (gone : List α) (s : State) :
    (s.toldAll badge k v gone).link.tx = s.link.tx := by
  unfold State.toldAll
  induction gone generalizing s with
  | nil => rfl
  | cons o rest ih => exact (ih _).trans (raise_tx ..)

/-- The vestibule is empty and its occupants are OUTSIDE, nobody told of it yet. -/
def vacated (v : RoomId) (s : State) : State := { s with
  vests := put s.vests v { direction := .none, occupants := [] }
  locations := placesSet .outside ((s.vests.get v).occupants.map Occupant.slot) s.locations }

theorem foldl_removalHanded_free {v : RoomId} {i : DoorId} (gone : List Occupant) (inner : s.strongroomDoor v = some i)
    (free : s.grants.get i = none) : gone.foldl (fun t o => t.removalHanded v o.slot) s = s :=
  foldl_fixed gone fun o _ => removalHanded_free o.slot inner free

theorem vestibuleEmptied_free {v : RoomId} {i : DoorId} (k : NoticeKind) (inner : s.strongroomDoor v = some i) (free : s.grants.get i = none) :
    s.vestibuleEmptied v k = (vacated v s).toldAll Occupant.badge k v (s.vests.get v).occupants := by
  have places : (s.vests.get v).occupants.foldl (fun l o => sparsePut .outside l o.slot .outside) s.locations =
      placesSet .outside ((s.vests.get v).occupants.map Occupant.slot) s.locations := by
    rw [placesSet, List.foldl_map]
  unfold State.vestibuleEmptied
  dsimp only
  rw [places]
  exact congrArg (State.toldAll Occupant.badge k v (s.vests.get v).occupants)
    (foldl_removalHanded_free (s := vacated v s) (s.vests.get v).occupants inner free)

/-- Settles O24: each clearing by what it finds, with what follows it; a flush by the doors of the vestibule. -/
theorem clearAndFlushRemoveOccupants : Obligations.ClearAndFlushRemoveOccupants := by
  refine ⟨fun s tag v free => ⟨fun slot listed ok => ?_, fun slot absent => ?_, fun slot => ?_, fun slot => ?_⟩,
    fun s tag v free => ⟨fun none => ?_, fun i o outer inner idle still ok => ?_⟩, ?_, ?_, ?_⟩
  · have cleared := slotCleared_settled (s := heard 0x37 tag s) (v := v) (i := slot) ((s.rooms.get v).badgeOf slot) ok _ rfl
    exact ⟨_, exec_clearSlot free ((lists_iff ..).2 listed), cleared⟩
  · refine exec_clearAbsent free ?_
    rw [← Bool.not_eq_true, lists_iff]
    rintro ⟨e, mem, same⟩
    exact absent e mem same
  · exact ⟨_, exec_clearEvidence tag v slot free, clearEvidence_rooms v (heard 0x37 tag s)⟩
  · exact ⟨_, exec_clearUnknown tag v slot free, clearUnknown_rooms v (heard 0x37 tag s)⟩
  · rw [exec_vestibuleFlush tag v free, flushRefused_none none, if_pos rfl]
  · have kept : s.flushRefused v = false := by
      rw [← Bool.not_eq_true, flushRefused_iff outer, still]
      rintro (moving | ⟨j, same, moving⟩)
      · cases moving
      · obtain rfl := Option.some.inj (inner.symm.trans same)
        obtain ⟨g, grant, _⟩ := (grantMoving_iff s i).1 moving
        rw [idle] at grant
        cases grant
    have emptied := vestibuleEmptied_free (s := heard 0x36 tag s) .vestibuleFlushed inner idle
    obtain ⟨link, told⟩ := toldAll_link Occupant.badge .vestibuleFlushed v (s.vests.get v).occupants (vacated v (heard 0x36 tag s))
    have tx := toldAll_tx Occupant.badge .vestibuleFlushed v (s.vests.get v).occupants (vacated v (heard 0x36 tag s))
    have run := exec_vestibuleFlush tag v free
    rw [kept, if_neg Bool.false_ne_true, emptied] at run
    change exec _ s = .next (State.withReply _ _ _ _ (State.toldAll _ _ _ (s.vests.get v).occupants (vacated v (heard 0x36 tag s)))) at run
    rw [told] at run tx
    refine ⟨_, run, rfl, rfl, fun x mem => ?_, fun slot absent => ?_, ?_, rfl⟩
    · exact placesSet_mem (List.mem_map_of_mem mem) (.inr ok)
    · refine placesSet_other (fun mem => ?_) s.locations
      obtain ⟨x, within, same⟩ := List.mem_map.1 mem
      exact absent x within same
    · exact congrArg (· ++ _) tx
  · rintro s tag v i o free outer inner ⟨d, g, door, grant, stage⟩
    have refused : s.flushRefused v = true := by
      have moving : s.grantMoving d = true := (grantMoving_iff s d).2 ⟨g, grant, stage⟩
      rw [flushRefused_iff outer]
      rcases door with rfl | rfl
      · exact .inr ⟨d, inner, moving⟩
      · exact .inl moving
    rw [exec_vestibuleFlush tag v free, if_pos refused]
  · rintro s tag v free x rfl
    refine ⟨fun slot e found => ?_, fun slot => ?_, fun slot => ?_⟩
    · have listed : (s.rooms.get v).lists slot = true :=
        (lists_iff ..).2 ⟨e, List.mem_of_find?_eq_some found, by simpa using List.find?_some found⟩
      have badge : (s.rooms.get v).badgeOf slot = e.badge := by rw [Room.badgeOf, found]
      rw [exec_clearSlot free listed, badge]
      rfl
    · exact exec_clearEvidence tag v slot free
    · exact exec_clearUnknown tag v slot free
  · intro s tag v o free outer still
    have kept : s.flushRefused v = false := by
      rw [← Bool.not_eq_true, flushRefused_iff outer]
      rintro (moving | ⟨i, inner, moving⟩)
      · obtain ⟨g, grant, stage⟩ := (grantMoving_iff s o).1 moving
        exact stage.elim (still o g (.inl rfl) grant).1 (still o g (.inl rfl) grant).2
      · obtain ⟨g, grant, stage⟩ := (grantMoving_iff s i).1 moving
        exact stage.elim (still i g (.inr inner) grant).1 (still i g (.inr inner) grant).2
    rw [exec_vestibuleFlush tag v free, kept, if_neg Bool.false_ne_true]

end Sys2Proof.Machine


/-! Row programming (R112, R115 to R118). -/

namespace Sys2Proof.Machine

variable {s t : State}

/-! ## ROW_OPEN, SLOT_STAGE and ROW_DISCARD (R115, R116) -/

theorem answer_heard (kind tag : Nat) (st : Status) (s : State) : answer st (heard kind tag s) = (heard kind tag s).withReply kind tag st .none :=
  answer_outstanding st (heard_outstanding kind tag s)

theorem exec_rowOpen_idle {tag : Nat} (row : RowId) (free : s.free) (idle : s.stage = .idle) : exec (.rowOpen tag row.val) s =
    .next (({ heard 0x20 tag s with
      stage := .opened row (Vector.ofFn (fun j => s.nv.credential (rowSlot row j))) (Vector.replicate 8 false) }).withReply 0x20 tag .ok .none) := by
  have taken : exec (.rowOpen tag row.val) s = .next (performRowOpen row.val (heard 0x20 tag s)) := onRequest_free 0x20 tag _ free
  have stage : (heard 0x20 tag s).stage = .idle := idle
  rw [taken]
  simp only [performRowOpen, fromZero_val, withObject_some, stage, performed]
  exact congrArg _ (answer_outstanding .ok (r := ⟨0x20, tag⟩) rfl)

theorem exec_rowOpen_busy {tag : Nat} (row : RowId) (free : s.free) (busy : s.stage ≠ .idle) : exec (.rowOpen tag row.val) s =
    .next ((heard 0x20 tag s).withReply 0x20 tag .rowState .none) := by
  have taken : exec (.rowOpen tag row.val) s = .next (performRowOpen row.val (heard 0x20 tag s)) := onRequest_free 0x20 tag _ free
  rw [taken]
  simp only [performRowOpen, fromZero_val, withObject_some]
  split
  · exact absurd ‹_› busy
  · exact congrArg _ (answer_heard ..)

/-- The operands of a record within its ranges are read back as that record. -/
theorem checkStaging_record (slot : SlotId) {badge priv win : Nat} (st : CredState) (f : CredFlags) (inBadge : badge < 4294967295)
    (inPriv : priv < 4096) (inWin : win < 65536) :
    checkStaging slot.val badge (if st = .active then 0 else 1) priv win
      (switchCode f.afterHours + 2 * switchCode f.emergencyCrew + 4 * switchCode f.solo + 8 * switchCode f.perimeter) =
      some (slot, ⟨badge, st, BitVec.ofNat 12 priv, BitVec.ofNat 16 win, f⟩) := by
  have state : credStateOf (if st = .active then 0 else 1) = some st := by cases st <;> rfl
  obtain ⟨a, e, o, p⟩ := f
  have flags : (switchCode a + 2 * switchCode e + 4 * switchCode o + 8 * switchCode p).testBit 0 = a ∧
      (switchCode a + 2 * switchCode e + 4 * switchCode o + 8 * switchCode p).testBit 1 = e ∧
      (switchCode a + 2 * switchCode e + 4 * switchCode o + 8 * switchCode p).testBit 2 = o ∧
      (switchCode a + 2 * switchCode e + 4 * switchCode o + 8 * switchCode p).testBit 3 = p ∧
      switchCode a + 2 * switchCode e + 4 * switchCode o + 8 * switchCode p < 16 := by
    revert a e o p
    decide
  simp only [checkStaging, checkRecord, fromZero_val, state, flags, Config.badBadge, inBadge, inPriv, inWin, decide_true, Bool.and_self,
    if_true]

/-- The record stands in the stage of its row, its slot touched. -/
def slotStaged (row : RowId) (staged : Vector Credential 8) (touched : Vector Bool 8) (slot : SlotId) (c : Credential) (s : State) : State :=
  { s with stage := .opened row (put staged (slotPlace slot) c) (put touched (slotPlace slot) true) }

theorem exec_slotStage {tag : Nat} (slot : SlotId) {badge priv win : Nat} (st : CredState) (f : CredFlags) (free : s.free)
    (inBadge : badge < 4294967295) (inPriv : priv < 4096) (inWin : win < 65536) :
    exec (.slotStage tag slot.val badge (if st = .active then 0 else 1) priv win
      (switchCode f.afterHours + 2 * switchCode f.emergencyCrew + 4 * switchCode f.solo + 8 * switchCode f.perimeter)) s =
    .next (match s.stage with
      | .opened row staged touched =>
        if slotRow slot = row then
          (slotStaged row staged touched slot ⟨badge, st, BitVec.ofNat 12 priv, BitVec.ofNat 16 win, f⟩ (heard 0x21 tag s)).withReply
            0x21 tag .ok .none
        else (heard 0x21 tag s).withReply 0x21 tag .rowState .none
      | _ => (heard 0x21 tag s).withReply 0x21 tag .rowState .none) := by
  have taken : exec (.slotStage tag slot.val badge (if st = .active then 0 else 1) priv win
      (switchCode f.afterHours + 2 * switchCode f.emergencyCrew + 4 * switchCode f.solo + 8 * switchCode f.perimeter)) s =
      .next (performSlotStage slot.val badge (if st = .active then 0 else 1) priv win
        (switchCode f.afterHours + 2 * switchCode f.emergencyCrew + 4 * switchCode f.solo + 8 * switchCode f.perimeter)
        (heard 0x21 tag s)) := onRequest_free 0x21 tag _ free
  rw [taken]
  simp only [performSlotStage, checkStaging_record slot st f inBadge inPriv inWin, withObject_some, answer_heard, performed]
  have stages : (heard 0x21 tag s).stage = s.stage := rfl
  rw [stages]
  cases s.stage with
  | opened row staged touched =>
    dsimp only
    split
    · exact congrArg _ (answer_outstanding .ok (r := ⟨0x21, tag⟩) rfl)
    · rfl
  | _ => rfl

theorem exec_rowDiscard (tag : Nat) (free : s.free) : exec (.rowDiscard tag) s = .next (match s.stage with
    | .opened _ _ _ => ({ heard 0x23 tag s with stage := .idle }).withReply 0x23 tag .ok .none
    | _ => (heard 0x23 tag s).withReply 0x23 tag .rowState .none) := by
  have taken : exec (.rowDiscard tag) s = .next (performRowDiscard (heard 0x23 tag s)) := onRequest_free 0x23 tag _ free
  have stages : (heard 0x23 tag s).stage = s.stage := rfl
  rw [taken]
  simp only [performRowDiscard, answer_heard, performed]
  rw [stages]
  cases s.stage with
  | opened row staged touched => exact congrArg _ (answer_outstanding .ok (r := ⟨0x23, tag⟩) rfl)
  | _ => rfl

/-! ## ROW_COMMIT (R117, R118) -/

/-- The commit of the open row has begun. -/
def commitBegun (row : RowId) (staged : Vector Credential 8) (touched : Vector Bool 8) (s : State) : State :=
  { s with stage := .committing row staged touched, store := hostQueued (.commit row) s }

theorem exec_rowCommit (tag : Nat) (free : s.free) : exec (.rowCommit tag) s = .next (match s.stage with
    | .opened row staged touched =>
      if s.duplicates row staged then (heard 0x22 tag s).withReply 0x22 tag .duplicateBadge .none
      else if s.occupantBlocks row staged touched then (heard 0x22 tag s).withReply 0x22 tag .occupantPresent .none
      else (commitBegun row staged touched (heard 0x22 tag s)).withReply 0x22 tag .ok .none
    | _ => (heard 0x22 tag s).withReply 0x22 tag .rowState .none) := by
  have taken : exec (.rowCommit tag) s = .next (performRowCommit (heard 0x22 tag s)) := onRequest_free 0x22 tag _ free
  have stages : (heard 0x22 tag s).stage = s.stage := rfl
  rw [taken]
  simp only [performRowCommit, answer_heard]
  rw [stages]
  cases s.stage with
  | opened row staged touched =>
    dsimp only
    have duplicates : (heard 0x22 tag s).duplicates row staged = s.duplicates row staged := rfl
    have blocks : (heard 0x22 tag s).occupantBlocks row staged touched = s.occupantBlocks row staged touched := rfl
    rw [duplicates, blocks]
    split
    · rfl
    · split
      · rfl
      · have replied := answer_outstanding (s := { heard 0x22 tag s with stage := .committing row staged touched }) .ok (r := ⟨0x22, tag⟩) rfl
        exact congrArg (fun u => Host.Outcome.next (requestHost (.commit row) u)) replied
  | _ => rfl

theorem duplicates_of_twice {row : RowId} {staged : Vector Credential 8} {i j : Fin 8} (other : i ≠ j) (filled : (staged.get i).badge ≠ 0)
    (same : (staged.get i).badge = (staged.get j).badge) : s.duplicates row staged = true := by
  refine Classical.byContradiction fun none => ?_
  exact other ((duplicates_eq_false (Bool.not_eq_true _ ▸ none) filled).2 j same.symm).symm

theorem sparseGet_mem {n : Nat} {α : Type} {dflt : α} {t : List (Fin n × α)} {i : Fin n} (h : sparseGet dflt t i ≠ dflt) :
    (i, sparseGet dflt t i) ∈ t := by
  induction t with
  | nil => exact absurd rfl h
  | cons e rest ih =>
    obtain ⟨k, x⟩ := e
    simp only [sparseGet] at h ⊢
    split
    next here => exact here ▸ List.mem_cons_self
    next other =>
      rw [if_neg other] at h
      exact List.mem_cons_of_mem _ (ih h)

theorem duplicates_of_held {row : RowId} {staged : Vector Credential 8} {j : Fin 8} {slot : SlotId} (filled : (staged.get j).badge ≠ 0)
    (outside : slotRow slot ≠ row) (same : (s.nv.credential slot).badge = (staged.get j).badge) : s.duplicates row staged = true := by
  refine Classical.byContradiction fun none => ?_
  have stored : s.nv.credential slot ≠ Credential.empty := by
    intro empty
    rw [empty] at same
    exact filled same.symm
  exact outside ((duplicates_eq_false (Bool.not_eq_true _ ▸ none) filled).1 _ (sparseGet_mem stored) same)

theorem occupantBlocks_iff (row : RowId) (staged : Vector Credential 8) (touched : Vector Bool 8) : s.occupantBlocks row staged touched = true ↔
    ∃ j, touched.get j = true ∧ (staged.get j).badge ≠ (s.nv.credential (rowSlot row j)).badge ∧
      (s.location (rowSlot row j) ≠ .outside ∨ ∃ d g, s.grants.get d = some g ∧ ∃ h ∈ g.holders, h.slot = rowSlot row j) := by
  have holder : ∀ slot, (s.holderOf slot).isEmpty = false ↔ ∃ d g, s.grants.get d = some g ∧ ∃ h ∈ g.holders, h.slot = slot := by
    intro slot
    rw [List.isEmpty_eq_false_iff_exists_mem]
    simp only [State.holderOf, List.mem_filter, mem_every, true_and]
    refine exists_congr fun d => ?_
    cases s.grants.get d <;> simp [Grant.holds]
  simp [State.occupantBlocks, mem_every, holder, and_assoc]

/-! ## COMMIT_DONE (R118) -/

theorem writeRow_others (nv : Nv) (row : RowId) (staged : Vector Credential 8) (touched : Vector Bool 8) :
    nv.writeRow row staged touched = { nv with credentials := (nv.writeRow row staged touched).credentials } := by
  unfold Nv.writeRow
  induction every 8 generalizing nv with
  | nil => rfl
  | cons j rest ih =>
    rw [List.foldl_cons]
    refine (ih _).trans ?_
    split <;> rfl

theorem exec_commitDone {row row' : RowId} {staged : Vector Credential 8} {touched : Vector Bool 8} {dl : Nat} (on : s.powered = true)
    (running : s.store.running = some ⟨.commit row', dl⟩) (reached : dl ≤ s.now) (stage : s.stage = .committing row staged touched) :
    exec .commitDone s = .next { raise .commitDone .none none s with
      stage := .idle, nv := s.nv.writeRow row staged touched, store := ({ s.store with running := none }).startNext s.now } := by
  have due : runningDue s = some (.commit row') := by
    rw [runningDue, running]
    exact if_pos reached
  refine (powered_on on).trans (congrArg _ ?_)
  simp only [due, finishCommit, Nv.writeOp, stage]
  rfl

/-- Settles O25: each request by the stage it finds, the checks of a commit by what they look at, and the write of the touched slots. -/
theorem rowProgrammingCommitsTouchedSlots : Obligations.RowProgrammingCommitsTouchedSlots := by
  refine ⟨fun s tag free => ⟨fun row idle => ?_, ?_, fun row staged touched stage => ?_, fun row busy => exec_rowOpen_busy row free busy⟩,
    fun s tag row staged touched free stage => ⟨?_, ?_, ?_, ?_, fun once outside => ?_⟩, ?_, fun s tag free => ⟨?_, fun closed => ⟨?_, ?_⟩⟩⟩
  · exact ⟨_, fun j => by rw [ofFn_get], exec_rowOpen_idle row free idle⟩
  · rintro row staged touched slot badge priv win st f stage rfl inBadge inPriv inWin
    rw [exec_slotStage slot st f free inBadge inPriv inWin, stage]
    exact congrArg _ (if_pos rfl)
  · rw [exec_rowDiscard tag free, stage]
  · rintro ⟨i, j, other, filled, same⟩
    simp only [exec_rowCommit tag free, stage, duplicates_of_twice other filled same, if_true]
  · rintro ⟨j, slot, filled, outside, same⟩
    simp only [exec_rowCommit tag free, stage, duplicates_of_held filled outside same, if_true]
  · rintro once ⟨j, d, g, touch, differs, grant, holds⟩
    have blocks := (occupantBlocks_iff row staged touched (s := s)).2 ⟨j, touch, differs, .inr ⟨d, g, grant, holds⟩⟩
    simp only [exec_rowCommit tag free, stage, once, blocks, if_true, Bool.false_eq_true, if_false]
  · rintro once ⟨j, touch, differs, place⟩
    have blocks := (occupantBlocks_iff row staged touched (s := s)).2 ⟨j, touch, differs, .inl place⟩
    simp only [exec_rowCommit tag free, stage, once, blocks, if_true, Bool.false_eq_true, if_false]
  · simp only [exec_rowCommit tag free, stage, once, outside, Bool.false_eq_true, if_false]
    rfl
  · intro s row row' staged touched dl on running reached stage ok
    refine ⟨_, exec_commitDone on running reached stage, rfl, fun j touch => ?_, fun j untouched => ?_, fun slot outside => ?_,
      writeRow_others .., rfl⟩
    · refine (writeRow_credential ok row staged touched _).trans ?_
      rw [slotRow_rowSlot, slotPlace_rowSlot, if_pos ⟨rfl, touch⟩]
      rfl
    · refine (writeRow_credential ok row staged touched _).trans (if_neg ?_)
      rw [slotPlace_rowSlot, untouched]
      exact fun both => absurd both.2 (by decide)
    · exact (writeRow_credential ok row staged touched _).trans (if_neg fun both => outside both.1)
  · intro slot badge priv win st f inBadge inPriv inWin closed
    rw [exec_slotStage slot st f free inBadge inPriv inWin]
    cases stage : s.stage with
    | opened row staged touched => exact congrArg _ (if_neg (closed row staged touched stage))
    | _ => rfl
  · rw [exec_rowCommit tag free]
    cases stage : s.stage with
    | opened row staged touched => exact absurd stage (closed row staged touched)
    | _ => rfl
  · rw [exec_rowDiscard tag free]
    cases stage : s.stage with
    | opened row staged touched => exact absurd stage (closed row staged touched)
    | _ => rfl

end Sys2Proof.Machine


/-! Laws of the entry chains: what steps 2 to 11 and the vestibule checks say of a badge, and the release of a door. -/

namespace Sys2Proof.Machine

variable {s t : State}

/-! ## Steps 3 to 11 (R123 to R125, R133) -/

/-- A chain of refusals goes on where its first part refuses nothing. -/
theorem ite_some_or {p : Prop} [Decidable p] (r : Reason) (x y : Option Reason) :
    (if p then some r else x).or y = if p then some r else x.or y := by
  split <;> rfl

theorem outsideWindows_iff (s : State) (c : Credential) : s.outsideWindows c = true ↔
    c.windows ≠ 0 ∧ ¬(s.clock.valid = true ∧ ∃ w : WindowId, c.windows.getLsbD w.val = true ∧ s.clock.windows.get w = true) := by
  simp only [State.outsideWindows, ne_eq, Bool.and_eq_true, decide_eq_true_eq, Bool.not_eq_true', ← Bool.not_eq_true, List.any_eq_true,
    mem_every, true_and]

theorem outOfHours_iff (s : State) (c : Credential) :
    s.outOfHours (some c) = true ↔ s.clock.mode = .afterHours ∧ c.flags.afterHours = false := by
  simp [State.outOfHours]

theorem doorFree_iff (s : State) (d : DoorId) : s.doorFree d = true ↔ s.doorReady d := by
  simp [State.doorFree]

theorem zoneRefuses_iff (s : State) (z : ZoneId) (c : Credential) : s.zoneRefuses z (some c) = true ↔
    ¬((s.zones.get z).state = .quiet ∨ (s.zones.get z).state = .isolated ∨
      c.flags.emergencyCrew = true ∧ ((s.zones.get z).state = .alert ∨ (s.zones.get z).state = .discharged)) := by
  unfold State.zoneRefuses isCrew
  cases (s.zones.get z).state <;> simp [ZoneState.refusesEntry, ZoneState.refusesAll]

theorem isSecure_iff (s : State) (d : Option DoorId) : s.isSecure d = true ↔ s.secureAt d := by
  cases d <;> simp [State.isSecure, State.secureAt]

/-- Steps 8 to 11 for a found record. -/
def State.placeRefusal (s : State) (d : DoorId) (k : EntryKind) (own : Bool) (holders : Nat) (slot : SlotId) (c : Credential) : Option Reason :=
  if s.step8Fails k c then some .zoneHazard
  else if s.step9Fails k slot then some .passback
  else if s.step10Fails k holders then some .strongroomFull
  else if !own && s.doorTaken d then some .doorBusy
  else if ¬s.doorReady d then some .doorUnavailable
  else none

theorem failingStep_eq (s : State) (d : DoorId) (k : EntryKind) (own : Bool) (holders : Nat) (slot : SlotId) (c : Credential) :
    s.failingStep d k own holders slot c = (s.recordRefusal c (k.privileged c)).or (s.placeRefusal d k own holders slot c) := by
  simp only [State.failingStep, State.recordRefusal, State.placeRefusal, ite_some_or, Option.none_or, outsideWindows_iff, outOfHours_iff,
    Bool.not_eq_true', ← doorFree_iff, Bool.not_eq_true, Bool.and_eq_true]

/-- Steps 3 to 11 at a door of strongroom `v`: the steps on the record and the zone, and then those on the place of the slot. -/
theorem failingStep_entry {d : DoorId} {k : EntryKind} {own : Bool} {holders : Nat} {slot : SlotId} {c : Credential} (v : RoomId)
    (privilege : k.privileged c = c.privileges.getLsbD v.val) (zone : s.step8Fails k c = s.zoneRefuses v (some c)) :
    s.failingStep d k own holders slot c = (s.entryRefusal v c).or
      (if s.step9Fails k slot then some .passback
      else if s.step10Fails k holders then some .strongroomFull
      else if !own && s.doorTaken d then some .doorBusy
      else if ¬s.doorReady d then some .doorUnavailable
      else none) := by
  have hazard : (if (s.zones.get v).state = .quiet ∨ (s.zones.get v).state = .isolated ∨
        c.flags.emergencyCrew = true ∧ ((s.zones.get v).state = .alert ∨ (s.zones.get v).state = .discharged) then none
      else some Reason.zoneHazard) = if s.zoneRefuses v (some c) then some .zoneHazard else none := by
    by_cases refuses : s.zoneRefuses v (some c) = true
    · rw [if_pos refuses, if_neg ((zoneRefuses_iff ..).1 refuses)]
    · rw [if_neg refuses, if_pos (Classical.not_not.1 fun other => refuses ((zoneRefuses_iff ..).2 other))]
  rw [failingStep_eq, State.entryRefusal, hazard, Option.or_assoc, ite_some_or, Option.none_or, State.placeRefusal, privilege, zone]

theorem failingStep_single (s : State) (d : DoorId) (v : RoomId) (own : Bool) (holders : Nat) (slot : SlotId) (c : Credential) :
    s.failingStep d (.single v) own holders slot c = (s.entryRefusal v c).or
      (if s.location slot ≠ .outside then some .passback
      else if 16 < (s.rooms.get v).listed.length + holders then some .strongroomFull
      else if !own && s.doorTaken d then some .doorBusy
      else if ¬s.doorReady d then some .doorUnavailable
      else none) := by
  rw [failingStep_entry v rfl rfl]
  simp only [State.step9Fails, State.step10Fails, decide_eq_true_eq]
  rfl

theorem failingStep_outer (s : State) (d : DoorId) (v : RoomId) (own : Bool) (holders : Nat) (slot : SlotId) (c : Credential) :
    s.failingStep d (.outer v) own holders slot c = (s.entryRefusal v c).or
      (if s.location slot ≠ .outside then some .passback
      else if 16 < (s.rooms.get v).listed.length + (s.vests.get v).occupants.length + holders then some .strongroomFull
      else if !own && s.doorTaken d then some .doorBusy
      else if ¬s.doorReady d then some .doorUnavailable
      else none) := by
  rw [failingStep_entry v rfl rfl]
  simp only [State.step9Fails, State.step10Fails, decide_eq_true_eq, ← Nat.add_assoc]
  rfl

theorem failingStep_inner (s : State) (d : DoorId) (v : RoomId) (own : Bool) (holders : Nat) (slot : SlotId) (c : Credential) :
    s.failingStep d (.inner v) own holders slot c = (s.entryRefusal v c).or
      (if ∀ o ∈ (s.vests.get v).occupants, o.slot ≠ slot then some .passback
      else if 16 < (s.rooms.get v).listed.length + (s.vests.get v).occupants.length then some .strongroomFull
      else if !own && s.doorTaken d then some .doorBusy
      else if ¬s.doorReady d then some .doorUnavailable
      else none) := by
  have absent : (!(s.vests.get v).has slot) = true ↔ ∀ o ∈ (s.vests.get v).occupants, o.slot ≠ slot := by simp [Vestibule.has]
  rw [failingStep_entry v rfl rfl]
  simp only [State.step9Fails, State.step10Fails, decide_eq_true_eq, absent]
  rfl

theorem failingStep_perimeter (s : State) (d : DoorId) (own : Bool) (holders : Nat) (slot : SlotId) (c : Credential) :
    s.failingStep d .perimeter own holders slot c = (s.recordRefusal c c.flags.perimeter).or
      (if !own && s.doorTaken d then some .doorBusy
      else if ¬s.doorReady d then some .doorUnavailable
      else none) := by
  rw [failingStep_eq]
  rfl

/-! ## Steps 2 to 11 and the vestibule checks (R113, R123, R165, R167) -/

theorem judge_eq (s : State) (d : DoorId) (k : EntryKind) (own : Bool) (holders badge : Nat) :
    s.judge d k own holders badge = s.verdictBy badge (s.failingStep d k own holders) := rfl

theorem judge_single (s : State) (d : DoorId) (v : RoomId) (holders badge : Nat) :
    s.judge d (.single v) true holders badge = s.verdictBy badge (s.singleRefusal d v holders) := by
  rw [judge_eq]
  exact congrArg _ (funext fun slot => funext fun c => failingStep_single s d v true holders slot c)

theorem judge_inner (s : State) (d : DoorId) (v : RoomId) (holders badge : Nat) :
    s.judge d (.inner v) true holders badge = s.verdictBy badge (s.innerStepRefusal d v) := by
  rw [judge_eq]
  exact congrArg _ (funext fun slot => funext fun c => failingStep_inner s d v true holders slot c)

theorem judge_outer (s : State) (d : DoorId) (v : RoomId) (holders badge : Nat) :
    s.judge d (.outer v) true holders badge = s.verdictBy badge (s.outerStepRefusal d v holders) := by
  rw [judge_eq]
  exact congrArg _ (funext fun slot => funext fun c => failingStep_outer s d v true holders slot c)

theorem judge_perimeter (s : State) (d : DoorId) (holders badge : Nat) :
    s.judge d .perimeter true holders badge = s.verdictBy badge (fun _ c => s.perimeterStepRefusal d c) := by
  rw [judge_eq]
  exact congrArg _ (funext fun slot => funext fun c => failingStep_perimeter s d true holders slot c)

theorem vestibuleFails_outer (s : State) (v : RoomId) : s.vestibuleFails (.outer v) = s.outerRefusal v := by
  have room : (Config.maxOccupants < (s.vests.get v).occupants.length + 1) ↔ 2 ≤ (s.vests.get v).occupants.length := Nat.lt_add_one_iff
  simp only [State.vestibuleFails, State.outerRefusal, Bool.not_eq_true', ← isSecure_iff, Bool.not_eq_true, room]

theorem vestibuleFails_inner (s : State) (v : RoomId) : s.vestibuleFails (.inner v) = s.innerRefusal v := by
  simp only [State.vestibuleFails, State.innerRefusal, Bool.not_eq_true', ← isSecure_iff, Bool.not_eq_true]

/-! ## The kind of a presentation (R123) -/

theorem entryKind_single {d : DoorId} {v : RoomId} (role : s.role d = .strongroom v) (none : s.hasVestibule v = false) :
    s.entryKind d = some (.single v) := by
  simp [State.entryKind, role, none]

theorem entryKind_inner {d : DoorId} {v : RoomId} (role : s.role d = .strongroom v) (vestibule : s.hasVestibule v = true) :
    s.entryKind d = some (.inner v) := by
  simp [State.entryKind, role, vestibule]

theorem entryKind_outer {d : DoorId} {v : RoomId} (role : s.role d = .vestibuleOuter v) : s.entryKind d = some (.outer v) := by
  simp [State.entryKind, role]

theorem entryKind_perimeter {d : DoorId} (role : s.role d = .perimeter) : s.entryKind d = some .perimeter := by
  simp [State.entryKind, role]

/-! ## The release of a door (R134, R145, R147) -/

/-- A withdraw shows its target at UNBOLTED, OPEN and EGRESS. -/
theorem reachedAt_withdrawn (b : Band) : Bolt.reachedAt .withdrawn b = true ↔ b = .unbolted ∨ b = .egress ∨ b = .opened := by
  cases b <;> simp [Bolt.reachedAt]

theorem reachedAt_thrown (b : Band) : Bolt.reachedAt .thrown b = true ↔ b = .bolted := by
  cases b <;> simp [Bolt.reachedAt]

/-- The state with this grant and this record at one door. -/
def State.atDoor (d : DoorId) (g : Option Grant) (x : Door) (s : State) : State :=
  { s with grants := put s.grants d g, doors := put s.doors d x }

section AtDoor

variable (d e : DoorId) (g h : Option Grant) (x y : Door) (s : State)

@[simp] theorem atDoor_setGrant : (s.atDoor d g x).setGrant d h = s.atDoor d h x :=
  congrArg (fun v => { s with grants := v, doors := put s.doors d x }) (put_put ..)

@[simp] theorem atDoor_setDoor : (s.atDoor d g x).setDoor d y = s.atDoor d g y :=
  congrArg (fun v => { s with grants := put s.grants d g, doors := v }) (put_put ..)

@[simp] theorem atDoor_grant : (s.atDoor d g x).grants.get d = g := put_get_same ..

@[simp] theorem atDoor_door : (s.atDoor d g x).doors.get d = x := put_get_same ..

@[simp] theorem atDoor_doorBand : (s.atDoor d g x).doorBand e = s.doorBand e := rfl

@[simp] theorem atDoor_doorSettings : (s.atDoor d g x).doorSettings e = s.doorSettings e := rfl

@[simp] theorem atDoor_now : (s.atDoor d g x).now = s.now := rfl

theorem setGrant_atDoor : s.setGrant d g = s.atDoor d g (s.doors.get d) :=
  congrArg (fun v => { s with grants := put s.grants d g, doors := v }) (put_same ..).symm

theorem setDoor_atDoor : s.setDoor d x = s.atDoor d (s.grants.get d) x :=
  congrArg (fun v => { s with grants := v, doors := put s.doors d x }) (put_same ..).symm

end AtDoor

theorem enterReleased_atDoor (d : DoorId) (g : Grant) (x : Door) (s : State) : enterReleased d (s.atDoor d (some g) x) =
    s.atDoor d (some { g with stage := .released })
      { x with state := .released, motion := .idle, releaseDl := some (s.now + (s.doorSettings d).releaseTime * 1000) } := by
  simp [enterReleased]

/-- A grant has been handed to a door whose line shows OPEN: the passage is made at once. -/
theorem passage_atDoor (d : DoorId) (g : Grant) (x : Door) (s : State) :
    passage d (s.atDoor d (some g) x) = settle s.rooms (movePassage d g (s.atDoor d none x)) := by
  rw [passage_granted (atDoor_grant ..)]
  exact congrArg (fun u => settle s.rooms (movePassage d g u)) (atDoor_setGrant ..)

theorem releaseDoor_eq (d : DoorId) (g : Grant) (s : State) : releaseDoor d g s = s.releaseTo d g.holders g.purpose g.reader := by
  simp only [releaseDoor, startRelease, beginWithdraw, setGrant_atDoor, atDoor_setDoor, atDoor_doorBand, atDoor_door, State.releaseTo]
  by_cases away : Bolt.reachedAt .withdrawn (s.doorBand d) = true
  · rw [if_pos away]
    simp only [stopAtTarget, atDoor_door, atDoor_setDoor, enterReleased_atDoor, passIfOpen, atDoor_doorBand]
    by_cases opened : s.doorBand d = .opened
    · simp [opened, openPassage, enterOpen, passage_atDoor]
      rfl
    · have shows : s.doorBand d = .unbolted ∨ s.doorBand d = .egress := by
        rcases (reachedAt_withdrawn _).1 away with b | b | b
        · exact .inl b
        · exact .inr b
        · exact absurd b opened
      simp only [opened, decide_false, Bool.and_false, Bool.false_eq_true, if_false, shows, if_true]
      rfl
  · have shows := mt (reachedAt_withdrawn _).2 away
    rw [if_neg away]
    simp only [not_or] at shows
    simp only [startMotion, atDoor_door, atDoor_setDoor, passIfOpen, shows, or_false, if_false]
    rfl

end Sys2Proof.Machine


/-! Presentations from the request to the chain that takes them (R113, R119, R123, R136, R172). -/

namespace Sys2Proof.Machine

variable {s t : State}

/-! ## PRESENT and its chain (R123) -/

theorem exec_present {side : Nat} {reader : Reader} (tag badge : Nat) (d : DoorId) (free : s.free) (ready : s.sup.ready = true)
    (named : readerOf side = some reader) :
    exec (.present tag (number d) side badge) s = .next (presentChain ⟨d, reader, badge, true⟩ (heard 0x30 tag s)) := by
  have taken : exec (.present tag (number d) side badge) s = .next (performPresent (number d) side badge (heard 0x30 tag s)) :=
    onRequest_free 0x30 tag _ free
  have heardReady : (heard 0x30 tag s).sup.ready = true := ready
  rw [taken]
  simp only [performPresent, heardReady, checkPresent, fromOne_number, named, withObject_some]
  rfl

theorem exec_present_early (tag door reader badge : Nat) (free : s.free) (early : s.sup.ready = false) :
    exec (.present tag door reader badge) s = .next ((heard 0x30 tag s).withReply 0x30 tag .notReady .none) := by
  have taken : exec (.present tag door reader badge) s = .next (performPresent door reader badge (heard 0x30 tag s)) :=
    onRequest_free 0x30 tag _ free
  have heardEarly : (heard 0x30 tag s).sup.ready = false := early
  rw [taken]
  simp only [performPresent, heardEarly]
  exact congrArg _ (answer_heard ..)

theorem exec_deferredPresent {i : Nat} {w : WaitingPresent} (on : s.powered = true) (still : s.commitRunning = false)
    (waits : s.waitPresents[i]? = some w) :
    exec (.deferredPresent i) s = .next (presentChain w { s with waitPresents := s.waitPresents.eraseIdx i }) := by
  refine (powered_on on).trans ?_
  simp only [still, waits]
  rfl

theorem presentChain_exit {w : WaitingPresent} {v : RoomId} (ready : s.sup.ready = true) (role : s.role w.door = .strongroom v)
    (inside : w.reader = .inside) : presentChain w s = exitChain w v s := by
  simp [presentChain, ready, role, inside]

theorem presentChain_outerExit {w : WaitingPresent} {v : RoomId} (ready : s.sup.ready = true)
    (role : s.role w.door = .vestibuleOuter v) (inside : w.reader = .inside) : presentChain w s = outerExitChain w v s := by
  simp [presentChain, ready, role, inside]

theorem presentChain_entry {w : WaitingPresent} {k : EntryKind} (ready : s.sup.ready = true) (kind : s.entryKind w.door = some k)
    (entry : w.reader = .outside ∨ s.role w.door = .perimeter) : presentChain w s = entryChain w k s := by
  rcases entry with outside | perimeter
  · simp [presentChain, ready, kind, outside]
  · simp [presentChain, ready, kind, perimeter]

theorem presentChain_unused {w : WaitingPresent} (ready : s.sup.ready = true) (role : s.role w.door = .unused) :
    presentChain w s = deny w.owed .doorUnavailable s := by
  simp [presentChain, ready, State.entryKind, role]

/-- A presentation at a used door goes by one of three chains. -/
theorem presentChain_used {w : WaitingPresent} (ready : s.sup.ready = true) (used : s.role w.door ≠ .unused) :
    (∃ v, presentChain w s = exitChain w v s) ∨ (∃ v, presentChain w s = outerExitChain w v s) ∨
    ∃ k, presentChain w s = entryChain w k s := by
  have entered : ∀ k, s.entryKind w.door = some k → w.reader = .outside ∨ s.role w.door = .perimeter →
      ∃ k, presentChain w s = entryChain w k s := fun k kind entry => ⟨k, presentChain_entry ready kind entry⟩
  cases role : s.role w.door with
  | strongroom v =>
    cases reader : w.reader with
    | inside => exact .inl ⟨v, presentChain_exit ready role reader⟩
    | outside =>
      exact .inr (.inr (entered (if s.hasVestibule v then .inner v else .single v) (by simp only [State.entryKind, role]) (.inl reader)))
  | vestibuleOuter v =>
    cases reader : w.reader with
    | inside => exact .inr (.inl ⟨v, presentChain_outerExit ready role reader⟩)
    | outside => exact .inr (.inr (entered _ (entryKind_outer role) (.inl reader)))
  | perimeter => exact .inr (.inr (entered _ (entryKind_perimeter role) (.inr role)))
  | unused => exact absurd role used

/-! ## Badges under a commit and badges of no record (R113, R119) -/

theorem conflicts_committing {row : RowId} {staged : Vector Credential 8} {touched : Vector Bool 8} (badge : Nat)
    (stage : s.stage = .committing row staged touched) : s.conflicts badge = true ↔
      ∃ j, (s.nv.credential (rowSlot row j)).badge = badge ∨ touched.get j = true ∧ (staged.get j).badge = badge := by
  simp [State.conflicts, stage, mem_every]

theorem conflicts_still (badge : Nat) (still : s.commitRunning = false) : s.conflicts badge = false := by
  unfold State.commitRunning at still
  unfold State.conflicts
  split <;> simp_all

theorem findBadge_none {badge : Nat} (unknown : badge = 0 ∨ 4294967295 ≤ badge ∨ ∀ e ∈ s.nv.credentials, e.2.badge ≠ badge) :
    s.nv.findBadge badge = none := by
  unfold Nv.findBadge
  split
  · have proper : badge ≠ 0 ∧ badge < 4294967295 := by
      have := ‹badgeMatches badge = true›
      simp only [badgeMatches, Bool.and_eq_true, decide_eq_true_eq] at this
      exact this
    rcases unknown with zero | above | absent
    · exact absurd zero proper.1
    · exact absurd above (Nat.not_le.2 proper.2)
    · exact List.find?_eq_none.2 fun e mem => by simpa using absent e mem
  · rfl

theorem presentChain_defers {w : WaitingPresent} (ready : s.sup.ready = true) (used : s.role w.door ≠ .unused)
    (conflicts : s.conflicts w.badge = true) : presentChain w s = deferPresent w s := by
  rcases presentChain_used ready used with ⟨v, chain⟩ | ⟨v, chain⟩ | ⟨k, chain⟩
  · rw [chain, exitChain, if_pos conflicts]
  · rw [chain, outerExitChain, if_pos conflicts]
  · rw [chain, entryChain, State.judge, if_pos conflicts]

theorem presentChain_unknown {w : WaitingPresent} (ready : s.sup.ready = true) (used : s.role w.door ≠ .unused)
    (clear : s.conflicts w.badge = false) (unknown : s.nv.findBadge w.badge = none) :
    presentChain w s = deny w.owed .unknownBadge s := by
  have notDeferred : ¬s.conflicts w.badge = true := by rw [clear]; decide
  rcases presentChain_used ready used with ⟨v, chain⟩ | ⟨v, chain⟩ | ⟨k, chain⟩
  · rw [chain, exitChain, if_neg notDeferred, unknown]
  · rw [chain, outerExitChain, if_neg notDeferred, unknown]
  · rw [chain, entryChain, State.judge, if_neg notDeferred, unknown]

/-! ## Replies to a request just heard (R190) -/

theorem repliedTo_owed {r : Request} (st : Status) (data : ReplyData) (h : s.link.outstanding = some r) :
    s.repliedTo true st data = s.withReply r.kind r.tag st data := by
  simp only [State.repliedTo, h]

theorem deny_eq (owed : Bool) (r : Reason) (s : State) : deny owed r s = s.repliedTo owed .denied (.reason r) := answerOwed_eq ..

theorem deny_heard (kind tag : Nat) (r : Reason) (s : State) :
    deny true r (heard kind tag s) = (heard kind tag s).withReply kind tag .denied (.reason r) :=
  (deny_eq ..).trans (repliedTo_owed _ _ (heard_outstanding kind tag s))

/-- Settles O31. -/
theorem deferredRequestsAreTakenAfresh : Obligations.DeferredRequestsAreTakenAfresh := by
  refine ⟨⟨fun s i w => exec_deferredPresent, fun s tag badge d free ready =>
    ⟨exec_present tag badge d free ready rfl, exec_present tag badge d free ready rfl⟩,
    fun s tag door reader badge => exec_present_early tag door reader badge, ?_⟩, ?_, ?_⟩
  · intro s tag badge side d reader free ready used named
    have reads : readerOf side = some reader := by
      rcases named with ⟨rfl, rfl⟩ | ⟨rfl, rfl⟩ <;> rfl
    rw [exec_present tag badge d free ready reads]
    constructor
    · intro row staged touched j stage held
      exact congrArg _ (presentChain_defers (s := heard 0x30 tag s) ready used ((conflicts_committing (s := s) badge stage).2 ⟨j, held⟩))
    · intro still unknown
      have denied := presentChain_unknown (s := heard 0x30 tag s) (w := ⟨d, reader, badge, true⟩) ready used
        (conflicts_still (s := s) badge still) (findBadge_none (s := s) unknown)
      exact congrArg _ (denied.trans (deny_heard ..))
  · intro s tag slot free committing
    have taken : exec (.getCredential tag slot.val) s = .next (performGetCredential slot.val (heard 0x09 tag s)) :=
      onRequest_free 0x09 tag _ free
    have waits : (heard 0x09 tag s).slotCommitting slot = true := committing
    rw [taken]
    simp only [performGetCredential, fromZero_val, withObject_some, waits]
    rfl
  · intro s i w r on still waits outstanding
    refine (powered_on on).trans ?_
    simp only [still, waits, Bool.false_eq_true, if_false]
    rw [answerOwed_eq]
    cases w.owed
    · rfl
    · exact congrArg _ (repliedTo_owed _ _ outstanding)

end Sys2Proof.Machine


/-! Entry presentations at a door where nobody waits for a partner (R123 to R126, R128, R145, R164, R165, R167). -/

namespace Sys2Proof.Machine

variable {s t : State}

/-! ## A door without a pair (R126, R129) -/

theorem pendingPair_alone {d : DoorId} (alone : ∀ g, s.grants.get d = some g → g.stage ≠ .awaitPartner) : s.pendingPair d = none := by
  unfold State.pendingPair
  split
  · exact if_neg (alone _ ‹_›)
  · rfl

theorem doorTaken_alone {d : DoorId} (alone : ∀ g, s.grants.get d = some g → g.stage ≠ .awaitPartner) :
    s.doorTaken d = true ↔ s.grants.get d ≠ none := by
  unfold State.doorTaken
  cases grant : s.grants.get d with
  | none => simp
  | some g => simpa using alone g grant

theorem alone_of_free {d : DoorId} (free : s.grants.get d = none) : ∀ g, s.grants.get d = some g → g.stage ≠ .awaitPartner := by
  simp [free]

/-! ## The chain of a badge that finds a record (R123, R126, R128) -/

theorem step12_eq (d : DoorId) (k : EntryKind) (reader : Reader) (h : Holder) (c : Credential) (owed : Bool) (s : State) :
    step12 d k reader h c owed s =
      match s.vestibuleFails k with
      | some r => deny owed r s
      | none =>
        if s.needsPartner k c then answerPending owed .awaitPartner h.slot (awaitPartner d h s)
        else grantMode d [h] reader h.slot owed s := rfl

theorem presenterPassed_alone {w : WaitingPresent} {k : EntryKind} {slot : SlotId} {c : Credential} (alone : s.pendingPair w.door = none) :
    presenterPassed w k slot c s = step12 w.door k w.reader ⟨slot, w.badge⟩ c w.owed s := by
  rw [step12_eq]
  simp only [presenterPassed, alone]
  cases checks : s.vestibuleFails k with
  | none => simp only [step12_eq, checks]
  | some r => rfl

theorem entryChain_found {w : WaitingPresent} {slot : SlotId} {c : Credential} (k : EntryKind) (clear : s.conflicts w.badge = false)
    (found : s.nv.findBadge w.badge = some (slot, c)) : entryChain w k s =
      match s.failingStep w.door k false (s.presentHolders w.door w.badge) slot c with
      | some r => deny w.owed r s
      | none => presenterPassed w k slot c s := by
  simp only [entryChain, State.judge, clear, found, Bool.false_eq_true, if_false]
  cases s.failingStep w.door k false (s.presentHolders w.door w.badge) slot c <;> rfl

theorem entryChain_alone {w : WaitingPresent} {slot : SlotId} {c : Credential} {why : Option Reason} (k : EntryKind)
    (clear : s.conflicts w.badge = false) (found : s.nv.findBadge w.badge = some (slot, c)) (alone : s.pendingPair w.door = none)
    (steps : (s.failingStep w.door k false 1 slot c).or (s.vestibuleFails k) = why) : entryChain w k s =
      match (generalizing := false) why with
      | some r => deny w.owed r s
      | none =>
        if s.needsPartner k c then answerPending w.owed .awaitPartner slot (awaitPartner w.door ⟨slot, w.badge⟩ s)
        else grantMode w.door [⟨slot, w.badge⟩] w.reader slot w.owed s := by
  subst steps
  have one : s.presentHolders w.door w.badge = 1 := by simp only [State.presentHolders, alone]
  rw [entryChain_found k clear found, one]
  cases s.failingStep w.door k false 1 slot c with
  | some r => rfl
  | none =>
    dsimp only [Option.none_or]
    rw [presenterPassed_alone alone, step12_eq]

theorem grantMode_release {d : DoorId} (holders : List Holder) (reader : Reader) (slot : SlotId) (owed : Bool)
    (mode : (s.doorSettings d).grantMode = .auto ∨ (s.doorSettings d).grantMode = .delayed ∧ s.hostPresent = false) :
    grantMode d holders reader slot owed s = (s.releaseTo d holders .entry reader).repliedTo owed .ok (.outcome .granted slot) := by
  have released : releaseDoor d ⟨holders, .entry, reader, .releasing, none, none⟩ s = s.releaseTo d holders .entry reader :=
    releaseDoor_eq ..
  rw [← released, ← answerOwed_eq]
  unfold grantMode
  rcases mode with mode | ⟨mode, absent⟩
  · simp only [mode]
    rfl
  · simp only [mode, absent]
    rfl

theorem releaseTo_outstanding (d : DoorId) (holders : List Holder) (p : Purpose) (reader : Reader) (s : State) :
    (s.releaseTo d holders p reader).link.outstanding = s.link.outstanding := by
  have released : releaseDoor d ⟨holders, p, reader, .releasing, none, none⟩ s = s.releaseTo d holders p reader := releaseDoor_eq ..
  rw [← released]
  exact (releaseDoor_reach ..).band.outstanding

/-- The door, at rest with its bolt thrown, begins its withdraw. -/
theorem releaseTo_bolted {d : DoorId} (holders : List Holder) (p : Purpose) (reader : Reader) (band : s.doorBand d = .bolted) :
    s.releaseTo d holders p reader = { s with
      grants := put s.grants d (some ⟨holders, p, reader, .releasing, none, none⟩)
      doors := put s.doors d { s.doors.get d with
        state := .releasing, bolt := .withdrawn, motion := .moving .withdrawn (s.now + 3000) } } := by
  simp [State.releaseTo, band]

/-! ## PRESENT at a door without a pair -/

/-- Step 12 and 13 of one presenter, answered at once. -/
theorem exec_present_alone {side tag badge : Nat} {reader : Reader} {d : DoorId} {slot : SlotId} {c : Credential} {k : EntryKind}
    {why : Option Reason} (free : s.free) (ready : s.sup.ready = true) (clear : s.conflicts badge = false)
    (found : s.nv.findBadge badge = some (slot, c)) (alone : s.pendingPair d = none) (named : readerOf side = some reader)
    (kind : s.entryKind d = some k) (entry : reader = .outside ∨ s.role d = .perimeter)
    (steps : (s.failingStep d k false 1 slot c).or (s.vestibuleFails k) = why) :
    exec (.present tag (number d) side badge) s = .next
      (match (generalizing := false) why with
        | some r => (heard 0x30 tag s).withReply 0x30 tag .denied (.reason r)
        | none =>
          if s.needsPartner k c = true then
            ({ heard 0x30 tag s with grants := put s.grants d (some ⟨[⟨slot, badge⟩], .entry, .outside, .awaitPartner,
              some (s.now + (s.doorSettings d).pairWindow * 1000), none⟩) }).withReply 0x30 tag .pending
                (.waiting .awaitPartner slot)
          else if (s.doorSettings d).grantMode = .auto then
            ((heard 0x30 tag s).releaseTo d [⟨slot, badge⟩] .entry reader).withReply 0x30 tag .ok (.outcome .granted slot)
          else grantMode d [⟨slot, badge⟩] reader slot true (heard 0x30 tag s)) := by
  have taken := presentChain_entry (s := heard 0x30 tag s) (w := ⟨d, reader, badge, true⟩) ready kind entry
  have decided := entryChain_alone (s := heard 0x30 tag s) (w := ⟨d, reader, badge, true⟩) k clear found alone steps
  rw [exec_present tag badge d free ready named, taken, decided]
  clear steps
  cases why with
  | some r => exact congrArg _ (deny_heard ..)
  | none =>
    have partner : (heard 0x30 tag s).needsPartner k c = s.needsPartner k c := rfl
    dsimp only
    rw [partner]
    by_cases needs : s.needsPartner k c = true
    · rw [if_pos needs, if_pos needs]
      rfl
    · rw [if_neg needs, if_neg needs]
      by_cases auto : (s.doorSettings d).grantMode = .auto
      · rw [if_pos auto, grantMode_release (s := heard 0x30 tag s) _ _ _ _ (.inl auto)]
        exact congrArg _ (repliedTo_owed _ _ ((releaseTo_outstanding ..).trans (heard_outstanding 0x30 tag s)))
      · rw [if_neg auto]

theorem needsPartner_single (s : State) (v : RoomId) (c : Credential) : s.needsPartner (.single v) c = true ↔
    s.clock.mode = .afterHours ∧ (s.rooms.get v).listed = [] ∧ c.flags.solo = false ∧ c.flags.emergencyCrew = false := by
  simp [State.needsPartner, excused, and_assoc]

theorem needsPartner_inner (s : State) (v : RoomId) (c : Credential) : s.needsPartner (.inner v) c = true ↔
    s.clock.mode = .afterHours ∧ c.flags.solo = false ∧ c.flags.emergencyCrew = false := by
  simp [State.needsPartner, excused]

/-- Settles O28. -/
theorem vestibuleAndPerimeterEntriesFollowTheirSteps : Obligations.VestibuleAndPerimeterEntriesFollowTheirSteps := by
  intro s tag badge d slot c free ready clear found unpaired u same
  subst same
  have alone := pendingPair_alone unpaired
  have taken := doorTaken_alone unpaired
  refine ⟨?_, ?_, ?_, ?_⟩
  · intro v why role steps
    refine (exec_present_alone (why := why) free ready clear found alone rfl (entryKind_outer role) (.inl rfl) ?_).trans ?_
    · rw [← steps, failingStep_outer, vestibuleFails_outer, Option.or_assoc]
      simp only [ite_some_or, Option.none_or, Bool.not_false, Bool.true_and, taken, State.outerRefusal]
    · cases why <;> rfl
  · intro v why role vestibule steps
    refine (exec_present_alone (why := why) free ready clear found alone rfl (entryKind_inner role vestibule) (.inl rfl) ?_).trans ?_
    · rw [← steps, failingStep_inner, vestibuleFails_inner, Option.or_assoc]
      simp only [ite_some_or, Option.none_or, Bool.not_false, Bool.true_and, taken, State.innerRefusal]
    · cases why <;> simp only [needsPartner_inner]
  · intro v why role none steps
    refine (exec_present_alone (why := why) free ready clear found alone rfl (entryKind_single role none) (.inl rfl) ?_).trans ?_
    · rw [← steps, failingStep_single, Option.or_assoc]
      simp only [ite_some_or, Option.none_or, Bool.not_false, Bool.true_and, taken]
      rfl
    · cases why <;> simp only [needsPartner_single]
  · intro side reader why role named steps
    have reads : readerOf side = some reader := by
      rcases named with ⟨rfl, rfl⟩ | ⟨rfl, rfl⟩ <;> rfl
    refine (exec_present_alone (why := why) free ready clear found alone reads (entryKind_perimeter role) (.inr role) ?_).trans ?_
    · rw [← steps, failingStep_perimeter, Option.or_assoc]
      simp only [ite_some_or, Option.none_or, Bool.not_false, Bool.true_and, taken]
      rfl
    · cases why <;> rfl

end Sys2Proof.Machine


/-! The single door at work: the presentations it releases, and the refusals that leave everything as it was (R123, R124, R136, R164). -/

namespace Sys2Proof.Machine

variable {s t : State}

/-! ## A waiting grant dropped (R129, R136) -/

theorem cancelGrant_free {d : DoorId} (r : Reason) (free : s.grants.get d = none) : cancelGrant d r s = s := by
  simp [cancelGrant, State.grantMoving, dropGrant, free]

/-- A grant that has not been handed to its door is cancelled without it. -/
theorem cancelGrant_waiting {d : DoorId} (r : Reason) (still : s.grantMoving d = false) : cancelGrant d r s = s.grantDropped d r := by
  simp [cancelGrant, still, dropGrant_eq]

/-- What a cancellation leaves alone: all but grants and link. -/
theorem GrantsEnded.kept (h : GrantsEnded s t) : t.doors = s.doors ∧ t.vests = s.vests ∧ t.rooms = s.rooms := by
  obtain ⟨_, _, rfl, _⟩ := h
  exact ⟨rfl, rfl, rfl⟩

/-! ## Exits (R136, R137, R170, R172) -/

theorem exitBusy_iff (s : State) (d : DoorId) : s.exitBusy d = true ↔
    (s.grants.get d).any (fun g => g.purpose = .exit || g.stage = .releasing || g.stage = .released) = true := by
  unfold State.exitBusy
  cases s.grants.get d with
  | none => simp
  | some g => cases stage : g.stage <;> simp [stage, GrantStage.waits]

/-- A door that is not taken for an exit holds no moving grant. -/
theorem grantMoving_of_exitFree {d : DoorId} (free : s.exitBusy d = false) : s.grantMoving d = false := by
  unfold State.exitBusy at free
  unfold State.grantMoving
  split
  · simp_all
  · rfl

theorem exitDoorFit_false_iff (s : State) (d : DoorId) : s.exitDoorFit d = false ↔
    (s.doors.get d).state ≠ .secure ∧ (s.doors.get d).state ≠ .driverLatched ∧ (s.doors.get d).state ≠ .lineFault ∧
      (s.doors.get d).mode = .automatic := by
  have mode : (s.doors.get d).mode ≠ .manual ↔ (s.doors.get d).mode = .automatic := by
    cases (s.doors.get d).mode <;> simp
  simp [State.exitDoorFit, ← mode, and_assoc]

/-- A notice that may be raised leaves the door as it was. -/
theorem unlessListed_kept {listed : Bool} (k : NoticeKind) (o : NoticeObject) (x : Option Detail) (s : State) :
    GrantsEnded s ((if listed then id else raise k o x) s) := by
  cases listed
  · exact raise_ends ..
  · exact .refl s

theorem passExit_eq {w : WaitingPresent} {slot : SlotId} {listed : Bool} (free : s.exitBusy w.door = false) :
    passExit w ⟨slot, w.badge⟩ listed s = s.exitPassed w slot listed := by
  have cancelled := cancelGrant_waiting .doorBusy (grantMoving_of_exitFree free)
  have unlisted : ∀ u : State, (if listed = true then u else raise .exitUnlisted (.door w.door) (some (.badge w.badge)) u) =
      (if listed then id else raise .exitUnlisted (.door w.door) (some (.badge w.badge))) u := by
    intro u
    cases listed <;> rfl
  obtain ⟨doors, _, _⟩ := ((grantDropped_ends w.door .doorBusy s).trans
    (unlessListed_kept (listed := listed) .exitUnlisted (.door w.door) (some (.badge w.badge)) (s.grantDropped w.door .doorBusy))).kept
  simp only [passExit, State.exitPassed, cancelled, unlisted, answerOutcome, answerOwed_eq, releaseDoor_eq, doorFree_iff, State.doorReady, doors]

/-- The refusals of an exit at the strongroom door, in the words of the rules. -/
theorem exitFails_eq (s : State) (d : DoorId) (v : RoomId) : s.exitFails d v =
    if s.exitBusy d then some .doorBusy
    else if s.hasVestibule v = true ∧ (s.vests.get v).direction = .inbound then some .direction
    else if s.hasVestibule v = true ∧ 2 ≤ (s.vests.get v).occupants.length then some .vestibuleFull
    else if s.hasVestibule v = true ∧ ¬s.secureAt (s.outerDoor v) then some .interlock
    else if s.exitDoorFit d then none
    else some .doorUnavailable := by
  unfold State.exitFails State.exitVestibuleFails
  cases s.hasVestibule v
  · simp
  · by_cases inbound : (s.vests.get v).direction = .inbound
    · simp [inbound]
    · by_cases full : 2 ≤ (s.vests.get v).occupants.length
      · simp [inbound, full, Config.maxOccupants]
      · by_cases locked : s.isSecure (s.outerDoor v) = true
        · simp [inbound, full, Config.maxOccupants, locked, (isSecure_iff ..).1 locked]
        · simp [inbound, full, Config.maxOccupants, locked, mt (isSecure_iff ..).2 locked]

theorem outerExitFails_eq (s : State) (d : DoorId) (v : RoomId) : s.outerExitFails d v =
    if s.exitBusy d then some .doorBusy
    else if ¬s.secureAt (s.strongroomDoor v) then some .interlock
    else if s.exitDoorFit d then none
    else some .doorUnavailable := by
  simp only [State.outerExitFails, Bool.not_eq_true', ← isSecure_iff, Bool.not_eq_true]

theorem exitChain_found {w : WaitingPresent} {slot : SlotId} {c : Credential} {v : RoomId} {why : Option Reason}
    (clear : s.conflicts w.badge = false) (found : s.nv.findBadge w.badge = some (slot, c)) (steps : s.exitFails w.door v = why) :
    exitChain w v s =
      match (generalizing := false) why with
      | some r => deny w.owed r s
      | none => s.exitPassed w slot (s.location slot = .inStrongroom v) := by
  subst steps
  simp only [exitChain, clear, found, Bool.false_eq_true, if_false]
  cases fails : s.exitFails w.door v with
  | some r => rfl
  | none =>
    refine passExit_eq (Bool.eq_false_iff.2 fun busy => ?_)
    simp [State.exitFails, busy] at fails

theorem outerExitChain_found {w : WaitingPresent} {slot : SlotId} {c : Credential} {v : RoomId} {why : Option Reason}
    (clear : s.conflicts w.badge = false) (found : s.nv.findBadge w.badge = some (slot, c)) (steps : s.outerExitFails w.door v = why) :
    outerExitChain w v s =
      match (generalizing := false) why with
      | some r => deny w.owed r s
      | none => s.exitPassed w slot ((s.vests.get v).occupants.any (fun o => o.slot = slot)) := by
  subst steps
  simp only [outerExitChain, clear, found, Bool.false_eq_true, if_false]
  cases fails : s.outerExitFails w.door v with
  | some r => rfl
  | none =>
    refine passExit_eq (Bool.eq_false_iff.2 fun busy => ?_)
    simp [State.outerExitFails, busy] at fails

/-! ## A single door in SECURE and AUTOMATIC (R123, R124, R126, R136) -/

theorem recordRefusal_none {c : Credential} {privileged : Bool} (active : c.state = .active)
    (windows : c.windows = 0 ∨ s.clock.valid = true ∧ ∃ w : WindowId, c.windows.getLsbD w.val = true ∧ s.clock.windows.get w = true)
    (hours : s.clock.mode = .day ∨ c.flags.afterHours = true) (privilege : privileged = true)
    (freeze : s.freeze = false ∨ c.flags.emergencyCrew = true) : s.recordRefusal c privileged = none := by
  have open_ : ¬(c.windows ≠ 0 ∧ ¬(s.clock.valid = true ∧ ∃ w : WindowId, c.windows.getLsbD w.val = true ∧ s.clock.windows.get w = true)) :=
    fun ⟨proper, outside⟩ => windows.elim proper outside
  have day : ¬(s.clock.mode = .afterHours ∧ c.flags.afterHours = false) := by
    rintro ⟨mode, flag⟩
    rcases hours with other | other
    · exact absurd (other.symm.trans mode) (by decide)
    · exact absurd (other.symm.trans flag) (by decide)
  have thawed : ¬(s.freeze = true ∧ c.flags.emergencyCrew = false) := by
    rintro ⟨frozen, flag⟩
    rcases freeze with other | other
    · exact absurd (other.symm.trans frozen) (by decide)
    · exact absurd (other.symm.trans flag) (by decide)
  have suspended : c.state ≠ .suspended := by rw [active]; decide
  simp only [State.recordRefusal, suspended, open_, day, thawed, privilege, Bool.true_eq_false, if_false]

/-- Settles O26. -/
theorem presentReleasesDoor : Obligations.PresentReleasesDoor := by
  constructor
  · intro s tag badge d v slot c free ready role single auto clear found active windows hours privilege freeze zone outside room secure mode
      unheld band excused
    have steps : (s.failingStep d (.single v) false 1 slot c).or (s.vestibuleFails (.single v)) = none := by
      have doorReady : s.doorReady d := ⟨secure, mode⟩
      have untaken : s.doorTaken d = false := Bool.eq_false_iff.2 fun taken => (doorTaken_alone (alone_of_free unheld)).1 taken unheld
      have places : ¬16 < (s.rooms.get v).listed.length + 1 := by omega
      rw [failingStep_single, State.entryRefusal, recordRefusal_none active windows hours privilege freeze, if_pos zone]
      simp only [outside, places, untaken, State.vestibuleFails, ne_eq, not_true_eq_false, Bool.and_false, Bool.false_eq_true,
        if_false, Option.none_or]
      rw [if_neg (not_not_intro doorReady)]
      rfl
    have alone : ¬s.needsPartner (.single v) c = true := by
      rw [needsPartner_single]
      rintro ⟨after, empty, solo, crew⟩
      rcases excused with other | other | other | other
      · exact absurd (other.symm.trans after) (by decide)
      · exact other empty
      · exact absurd (other.symm.trans solo) (by decide)
      · exact absurd (other.symm.trans crew) (by decide)
    rw [exec_present_alone (side := 0) (tag := tag) free ready clear found (pendingPair_alone (alone_of_free unheld)) rfl (entryKind_single role single) (.inl rfl) steps]
    dsimp only
    rw [if_neg alone, if_pos auto, releaseTo_bolted (s := heard 0x30 tag s) _ _ _ band]
    rfl
  · intro s tag badge d v slot c free ready role single clear found unheld inside secure mode band
    have passes : s.exitFails d v = none := by
      have unbusy : s.exitBusy d = false := by simp only [State.exitBusy, unheld]
      have fit : s.exitDoorFit d = true := by simp [State.exitDoorFit, secure]
      simp [exitFails_eq, unbusy, single, fit]
    have chain := exitChain_found (s := heard 0x30 tag s) (w := ⟨d, .inside, badge, true⟩) (v := v) clear found passes
    rw [exec_present tag badge d free ready rfl,
      presentChain_exit (s := heard 0x30 tag s) (w := ⟨d, .inside, badge, true⟩) (v := v) ready role rfl, chain]
    have kept : (heard 0x30 tag s).grantDropped d .doorBusy = heard 0x30 tag s := by
      have unheld' : (heard 0x30 tag s).grants.get d = none := unheld
      simp only [State.grantDropped, unheld']
    have listed : decide ((heard 0x30 tag s).location slot = .inStrongroom v) = true := decide_eq_true inside
    have doorReady : (heard 0x30 tag s).doorReady d := ⟨secure, mode⟩
    simp only [State.exitPassed, kept, listed, if_true, id]
    rw [if_pos doorReady]
    have released := releaseTo_bolted (s := heard 0x30 tag s) [⟨slot, badge⟩] .exit .inside band
    refine congrArg _ ((repliedTo_owed _ _ ((releaseTo_outstanding ..).trans (heard_outstanding 0x30 tag s))).trans ?_)
    exact congrArg (State.withReply 0x30 tag .ok _) released

end Sys2Proof.Machine


/-! Refusals of a presentation, and exits (R123, R124, R136, R137, R164, R170, R172). -/

namespace Sys2Proof.Machine

variable {s t : State}

/-! ## Refused presentations (R123, R124, R164) -/

/-- `t` is `s` but for a reply in the transmit queue or a presentation that waits. -/
def Answered (s t : State) : Prop := ∃ link waits, t = { s with link := link, waitPresents := waits }

theorem answerOwed_answered (owed : Bool) (st : Status) (data : ReplyData) (s : State) : Answered s (answerOwed owed st data s) := by
  rw [answerOwed_eq]
  unfold State.repliedTo
  split
  · exact ⟨_, _, rfl⟩
  · exact ⟨_, _, rfl⟩

theorem deny_answered (owed : Bool) (r : Reason) (s : State) : Answered s (deny owed r s) := answerOwed_answered ..

theorem deferPresent_answered (w : WaitingPresent) (s : State) : Answered s (deferPresent w s) := ⟨_, _, rfl⟩

theorem presenterPassed_refused {w : WaitingPresent} {k : EntryKind} {slot : SlotId} {c : Credential} {r : Reason}
    (refuses : s.vestibuleFails k = some r) : presenterPassed w k slot c s = deny w.owed r s := by
  simp only [presenterPassed, refuses]

theorem entryChain_answered {w : WaitingPresent} {k : EntryKind} (refuses : s.vestibuleFails k ≠ none) : Answered s (entryChain w k s) := by
  obtain ⟨r, refuses⟩ := Option.ne_none_iff_exists'.1 refuses
  unfold entryChain
  split
  · exact deferPresent_answered ..
  · exact deny_answered ..
  · rw [presenterPassed_refused refuses]
    exact deny_answered ..

theorem exitChain_answered {w : WaitingPresent} {v : RoomId} (refuses : s.exitFails w.door v ≠ none) : Answered s (exitChain w v s) := by
  obtain ⟨r, refuses⟩ := Option.ne_none_iff_exists'.1 refuses
  unfold exitChain
  split
  · exact deferPresent_answered ..
  · split
    · exact deny_answered ..
    · rw [refuses]
      exact deny_answered ..

theorem outerExitChain_answered {w : WaitingPresent} {v : RoomId} (refuses : s.outerExitFails w.door v ≠ none) :
    Answered s (outerExitChain w v s) := by
  obtain ⟨r, refuses⟩ := Option.ne_none_iff_exists'.1 refuses
  unfold outerExitChain
  split
  · exact deferPresent_answered ..
  · split
    · exact deny_answered ..
    · rw [refuses]
      exact deny_answered ..

/-- A presentation at one door of a vestibule whose other door is not SECURE is answered or waits, and no more. -/
theorem presentChain_interlocked {w : WaitingPresent} {v : RoomId} {i o : DoorId} (inner : s.strongroomDoor v = some i)
    (outer : s.outerDoor v = some o)
    (open_ : w.door = i ∧ (s.doors.get o).state ≠ .secure ∨ w.door = o ∧ (s.doors.get i).state ≠ .secure) :
    Answered s (presentChain w s) := by
  by_cases ready : s.sup.ready = true
  · have vestibule : s.hasVestibule v = true := by rw [State.hasVestibule, outer]; rfl
    rcases open_ with ⟨here, other⟩ | ⟨here, other⟩
    · have role : s.role w.door = .strongroom v := by rw [here]; exact strongroomDoor_role inner
      have locked : ¬s.secureAt (s.outerDoor v) := by simpa [State.secureAt, outer] using other
      cases reader : w.reader with
      | inside =>
        rw [presentChain_exit ready role reader]
        refine exitChain_answered ?_
        rw [exitFails_eq]
        exact fun fit => (passes_ite (passes_ite (passes_ite (passes_ite fit).2).2).2).1 ⟨vestibule, locked⟩
      | outside =>
        rw [presentChain_entry ready (entryKind_inner role vestibule) (.inl reader)]
        refine entryChain_answered ?_
        rw [vestibuleFails_inner, State.innerRefusal]
        exact fun passes => (passes_ite (passes_ite passes).2).1 locked
    · have role : s.role w.door = .vestibuleOuter v := by rw [here]; exact outerDoor_role outer
      have locked : ¬s.secureAt (s.strongroomDoor v) := by simpa [State.secureAt, inner] using other
      cases reader : w.reader with
      | inside =>
        rw [presentChain_outerExit ready role reader]
        refine outerExitChain_answered ?_
        rw [outerExitFails_eq]
        exact fun fit => (passes_ite (passes_ite fit).2).1 locked
      | outside =>
        rw [presentChain_entry ready (entryKind_outer role) (.inl reader)]
        refine entryChain_answered ?_
        rw [vestibuleFails_outer, State.outerRefusal]
        exact fun passes => (passes_ite (passes_ite (passes_ite passes).2).2).1 locked
  · have early : presentChain w s = answerOwed w.owed .notReady .none s := by simp [presentChain, ready]
    rw [early]
    exact answerOwed_answered ..

/-- Settles O27. -/
theorem presentDeniedByFirstFailingStep : Obligations.PresentDeniedByFirstFailingStep := by
  refine ⟨?_, ?_, ?_⟩
  · intro s tag badge d v slot c r free ready role single unheld clear found fails
    have steps : (s.failingStep d (.single v) false 1 slot c).or (s.vestibuleFails (.single v)) = some r := by
      have untaken : s.doorTaken d = false := Bool.eq_false_iff.2 fun taken => (doorTaken_alone (alone_of_free unheld)).1 taken unheld
      have unready : ¬s.doorReady d ↔ (s.doors.get d).state ≠ .secure ∨ (s.doors.get d).mode = .manual := by
        rw [State.doorReady, Classical.not_and_iff_not_or_not]
        cases (s.doors.get d).mode <;> simp
      have full : 16 < (s.rooms.get v).listed.length + 1 ↔ 16 ≤ (s.rooms.get v).listed.length := Nat.lt_add_one_iff
      have privilege : (EntryKind.single v).privileged c = c.privileges.getLsbD v.val := rfl
      rw [← fails, failingStep_eq, privilege]
      simp only [State.recordRefusal, State.placeRefusal, ite_some_or, Option.none_or, Option.or_none,
        State.step8Fails, State.step9Fails, State.step10Fails, decide_eq_true_eq, untaken, Bool.and_false, Bool.false_eq_true, if_false,
        unready, State.vestibuleFails, full, State.zoneRefuses, isCrew, Config.maxListed]
    exact exec_present_alone free ready clear found (pendingPair_alone (alone_of_free unheld)) rfl (entryKind_single role single) (.inl rfl)
      steps
  · intro s w v i o inner outer open_
    obtain ⟨_, _, same⟩ := presentChain_interlocked inner outer open_
    rw [same]
    exact ⟨rfl, rfl, rfl⟩
  · intro s tag badge side d free ready role named
    obtain ⟨reader, reads⟩ : ∃ reader, readerOf side = some reader := by
      rcases named with rfl | rfl
      · exact ⟨_, rfl⟩
      · exact ⟨_, rfl⟩
    rw [exec_present tag badge d free ready reads,
      presentChain_unused (s := heard 0x30 tag s) (w := ⟨d, reader, badge, true⟩) ready role]
    exact congrArg _ (deny_heard ..)

/-! ## Exits at once and after a commit (R119, R136, R137, R170, R172) -/

/-- The refusals of an exit at the strongroom door, with the door's condition in the words of the rule. -/
theorem exitFails_words {d : DoorId} {v : RoomId} {busy unfit : Bool}
    (taken : busy = (s.grants.get d).any (fun g => g.purpose = .exit || g.stage = .releasing || g.stage = .released))
    (shut : unfit = true ↔ (s.doors.get d).state ≠ .secure ∧ (s.doors.get d).state ≠ .driverLatched ∧
      (s.doors.get d).state ≠ .lineFault ∧ (s.doors.get d).mode = .automatic) :
    s.exitFails d v =
      if busy then some .doorBusy
      else if s.hasVestibule v = true ∧ (s.vests.get v).direction = .inbound then some .direction
      else if s.hasVestibule v = true ∧ 2 ≤ (s.vests.get v).occupants.length then some .vestibuleFull
      else if s.hasVestibule v = true ∧ ¬s.secureAt (s.outerDoor v) then some .interlock
      else if unfit then some .doorUnavailable
      else none := by
  have same : s.exitBusy d = busy := by rw [Bool.eq_iff_iff, exitBusy_iff, taken]
  have fit : s.exitDoorFit d = !unfit := by
    rw [← Bool.not_eq_eq_eq_not, Bool.eq_iff_iff, Bool.not_eq_true', exitDoorFit_false_iff, shut]
  rw [exitFails_eq, same, fit]
  cases unfit <;> rfl

theorem outerExitFails_words {d : DoorId} {v : RoomId} {busy unfit : Bool}
    (taken : busy = (s.grants.get d).any (fun g => g.purpose = .exit || g.stage = .releasing || g.stage = .released))
    (shut : unfit = true ↔ (s.doors.get d).state ≠ .secure ∧ (s.doors.get d).state ≠ .driverLatched ∧
      (s.doors.get d).state ≠ .lineFault ∧ (s.doors.get d).mode = .automatic) :
    s.outerExitFails d v =
      if busy then some .doorBusy
      else if ¬s.secureAt (s.strongroomDoor v) then some .interlock
      else if unfit then some .doorUnavailable
      else none := by
  have same : s.exitBusy d = busy := by rw [Bool.eq_iff_iff, exitBusy_iff, taken]
  have fit : s.exitDoorFit d = !unfit := by
    rw [← Bool.not_eq_eq_eq_not, Bool.eq_iff_iff, Bool.not_eq_true', exitDoorFit_false_iff, shut]
  rw [outerExitFails_eq, same, fit]
  cases unfit <;> rfl

/-- Settles O29. -/
theorem exitsFollowTheirSteps : Obligations.ExitsFollowTheirSteps := by
  constructor
  · intro s tag badge d slot c free ready clear found busy unfit taken shut
    constructor
    · intro v why role steps
      have fails : s.exitFails d v = why := (exitFails_words taken shut).trans steps
      rw [exec_present tag badge d free ready rfl, presentChain_exit (s := heard 0x30 tag s) (w := ⟨d, .inside, badge, true⟩) ready role rfl,
        exitChain_found (s := heard 0x30 tag s) (w := ⟨d, .inside, badge, true⟩) clear found fails]
      cases why with
      | some r => exact congrArg _ (deny_heard ..)
      | none => rfl
    · intro v why role steps
      have fails : s.outerExitFails d v = why := (outerExitFails_words taken shut).trans steps
      rw [exec_present tag badge d free ready rfl,
        presentChain_outerExit (s := heard 0x30 tag s) (w := ⟨d, .inside, badge, true⟩) ready role rfl,
        outerExitChain_found (s := heard 0x30 tag s) (w := ⟨d, .inside, badge, true⟩) clear found fails]
      cases why with
      | some r => exact congrArg _ (deny_heard ..)
      | none => rfl
  · intro s i w slot c on ready still waits inside found d here u same busy unfit taken shut
    subst here same
    have clear := conflicts_still (s := s) w.badge still
    rw [exec_deferredPresent on still waits]
    generalize rest : ({ s with waitPresents := s.waitPresents.eraseIdx i } : State) = u
    have clearThere : u.conflicts w.badge = false := by subst rest; exact clear
    constructor
    · intro v why role steps
      have fails : s.exitFails w.door v = why := (exitFails_words taken shut).trans steps
      rw [presentChain_exit (s := u) (v := v) (by subst rest; exact ready) (by subst rest; exact role) inside,
        exitChain_found (s := u) (why := why) clearThere (by subst rest; exact found) (by subst rest; exact fails)]
      cases why with
      | some r => exact congrArg _ (deny_eq ..)
      | none => subst rest; rfl
    · intro v why role steps
      have fails : s.outerExitFails w.door v = why := (outerExitFails_words taken shut).trans steps
      rw [presentChain_outerExit (s := u) (v := v) (by subst rest; exact ready) (by subst rest; exact role) inside,
        outerExitChain_found (s := u) (why := why) clearThere (by subst rest; exact found) (by subst rest; exact fails)]
      cases why with
      | some r => exact congrArg _ (deny_eq ..)
      | none => subst rest; rfl

end Sys2Proof.Machine


/-! The grant mode, the two-person rule, and the pair (R126 to R129, R167). -/

namespace Sys2Proof.Machine

variable {s t : State}

/-! ## The grant mode (R128) -/

theorem answerPending_owed {r : Request} (st : GrantStage) (slot : SlotId) (h : s.link.outstanding = some r) :
    answerPending true st slot s = s.withReply r.kind r.tag .pending (.waiting st slot) :=
  (answerOwed_eq ..).trans (repliedTo_owed _ _ h)

theorem deny_owed {r : Request} (why : Reason) (h : s.link.outstanding = some r) :
    deny true why s = s.withReply r.kind r.tag .denied (.reason why) :=
  (deny_eq ..).trans (repliedTo_owed _ _ h)

section GrantMode

variable {d : DoorId} {r : Request} (holders : List Holder) (reader : Reader) (slot : SlotId) (outstanding : s.link.outstanding = some r)

include outstanding

theorem grantMode_delayed (mode : (s.doorSettings d).grantMode = .delayed) (host : s.hostPresent = true) :
    grantMode d holders reader slot true s =
      ({ s with grants := put s.grants d (some ⟨holders, .entry, reader, .awaitDelay,
          some (s.now + (s.doorSettings d).delayHold * 1000), none⟩) }).withReply r.kind r.tag .pending (.waiting .awaitDelay slot) := by
  have held : grantMode d holders reader slot true s = answerPending true .awaitDelay slot (s.setGrant d
      (some ⟨holders, .entry, reader, .awaitDelay, some (s.now + (s.doorSettings d).delayHold * 1000), none⟩)) := by
    simp only [grantMode, mode, host]
  exact held.trans (answerPending_owed .awaitDelay slot (s := s.setGrant d _) outstanding)

theorem grantMode_confirm (mode : (s.doorSettings d).grantMode = .confirm) (host : s.hostPresent = true) :
    grantMode d holders reader slot true s =
      ({ s with grants := put s.grants d (some ⟨holders, .entry, reader, .awaitConfirm,
          some (s.now + (s.doorSettings d).confirmTimeout * 1000), none⟩) }).withReply r.kind r.tag .pending (.waiting .awaitConfirm slot) := by
  have held : grantMode d holders reader slot true s = answerPending true .awaitConfirm slot (s.setGrant d
      (some ⟨holders, .entry, reader, .awaitConfirm, some (s.now + (s.doorSettings d).confirmTimeout * 1000), none⟩)) := by
    simp only [grantMode, mode, host]
  exact held.trans (answerPending_owed .awaitConfirm slot (s := s.setGrant d _) outstanding)

omit outstanding in
theorem grantMode_absent (mode : (s.doorSettings d).grantMode = .confirm) (host : s.hostPresent = false) :
    grantMode d holders reader slot true s = deny true .hostAbsent (cancelGrant d .hostAbsent s) := by
  simp only [grantMode, mode, host]

theorem grantMode_released (mode : (s.doorSettings d).grantMode = .auto ∨ (s.doorSettings d).grantMode = .delayed ∧ s.hostPresent = false) :
    grantMode d holders reader slot true s =
      (s.releaseTo d holders .entry reader).withReply r.kind r.tag .ok (.outcome .granted slot) :=
  (grantMode_release holders reader slot true mode).trans (repliedTo_owed _ _ ((releaseTo_outstanding ..).trans outstanding))

end GrantMode

/-! ## The pair (R126, R127, R129) -/

/-- A waiting record without a re-check is cancelled with its notice alone. -/
theorem grantDropped_plain {d : DoorId} {g : Grant} (why : Reason) (grant : s.grants.get d = some g) (plain : g.recheck = none) :
    s.grantDropped d why = raise .grantCancelled (.door d) (some (.reason why)) { s with grants := put s.grants d none } := by
  simp only [State.grantDropped, grant]
  exact confirmDenied_none plain _

theorem grantMoving_waiting {d : DoorId} {g : Grant} (grant : s.grants.get d = some g) (waits : g.stage.waits = true) :
    s.grantMoving d = false := by
  simp [State.grantMoving, grant, waits]

theorem cancelGrant_plain {d : DoorId} {g : Grant} (why : Reason) (grant : s.grants.get d = some g) (waits : g.stage.waits = true)
    (plain : g.recheck = none) :
    cancelGrant d why s = raise .grantCancelled (.door d) (some (.reason why)) { s with grants := put s.grants d none } :=
  (cancelGrant_waiting why (grantMoving_waiting grant waits)).trans (grantDropped_plain why grant plain)

theorem pendingPair_some {d : DoorId} {g : Grant} {first : Holder} (grant : s.grants.get d = some g) (stage : g.stage = .awaitPartner)
    (head : g.holders.head? = some first) : s.pendingPair d = some first := by
  simp only [State.pendingPair, grant, Grant.pair, stage, if_true, head]

theorem presenterPassed_pair {w : WaitingPresent} {k : EntryKind} {slot : SlotId} {c : Credential} {first : Holder}
    (checks : s.vestibuleFails k = none) (pair : s.pendingPair w.door = some first) :
    presenterPassed w k slot c s =
      if first.badge = w.badge then answerPending w.owed .awaitPartner slot s else completePair w k first ⟨slot, w.badge⟩ c s := by
  simp only [presenterPassed, checks, pair]

/-- The presenter waits for a partner at a door whose record has just ended or that holds none. -/
theorem awaitPartner_eq (d : DoorId) (h : Holder) (s : State) : awaitPartner d h s = { s with
    grants := put s.grants d (some ⟨[h], .entry, .outside, .awaitPartner, some (s.now + (s.doorSettings d).pairWindow * 1000), none⟩) } := rfl

/-- The first holder fails: the record is cancelled, and the presenter waits in its place or goes by the grant mode. -/
theorem completePair_denied {w : WaitingPresent} {k : EntryKind} {slot : SlotId} {c : Credential} {first : Holder} {g : Grant} {r : Request}
    {why : Reason} (outstanding : s.link.outstanding = some r) (owed : w.owed = true) (grant : s.grants.get w.door = some g)
    (stage : g.stage = .awaitPartner) (plain : g.recheck = none) (checks : s.vestibuleFails k = none)
    (fails : s.judge w.door k true 2 first.badge = .denied why) :
    completePair w k first ⟨slot, w.badge⟩ c s =
      if s.needsPartner k c = true then
        ({ raise .grantCancelled (.door w.door) (some (.reason why)) s with
          grants := put s.grants w.door (some ⟨[⟨slot, w.badge⟩], .entry, .outside, .awaitPartner,
            some (s.now + (s.doorSettings w.door).pairWindow * 1000), none⟩) }).withReply r.kind r.tag .pending (.waiting .awaitPartner slot)
      else grantMode w.door [⟨slot, w.badge⟩] w.reader slot true
        (raise .grantCancelled (.door w.door) (some (.reason why)) { s with grants := put s.grants w.door none }) := by
  have cancelled := cancelGrant_plain why grant (by rw [stage]; rfl) plain
  have still : State.vestibuleFails (raise .grantCancelled (.door w.door) (some (.reason why)) { s with grants := put s.grants w.door none }) k =
      none := checks
  have partner : State.needsPartner (raise .grantCancelled (.door w.door) (some (.reason why)) { s with grants := put s.grants w.door none }) k c =
      s.needsPartner k c := rfl
  have outstanding' : (raise .grantCancelled (.door w.door) (some (.reason why)) { s with grants := put s.grants w.door none }).link.outstanding =
      some r := (raise_reach ..).band.outstanding.trans outstanding
  simp only [completePair, fails, cancelled, step12_eq, still, partner, owed]
  by_cases needs : s.needsPartner k c = true
  · rw [if_pos needs, if_pos needs]
    refine (answerPending_owed _ _ (by exact outstanding')).trans ?_
    refine congrArg _ (congrArg (fun v => { raise .grantCancelled (.door w.door) (some (.reason why)) s with grants := v }) (put_put ..))
  · rw [if_neg needs, if_neg needs]

/-! ## PRESENT at a door that holds a pair (R124, R127) -/

theorem presentHolders_pair {d : DoorId} {badge : Nat} {first : Holder} (pair : s.pendingPair d = some first) :
    s.presentHolders d badge = if first.badge = badge then 1 else 2 := by
  simp only [State.presentHolders, pair]

theorem doorTaken_pair {d : DoorId} {g : Grant} (grant : s.grants.get d = some g) (stage : g.stage = .awaitPartner) :
    s.doorTaken d = false := by
  simp [State.doorTaken, grant, stage]

theorem exec_present_pair {tag badge : Nat} {d : DoorId} {slot : SlotId} {c : Credential} {k : EntryKind} {why : Option Reason}
    {first : Holder} (free : s.free) (ready : s.sup.ready = true) (clear : s.conflicts badge = false)
    (found : s.nv.findBadge badge = some (slot, c)) (kind : s.entryKind d = some k) (pair : s.pendingPair d = some first)
    (steps : s.failingStep d k false (if first.badge = badge then 1 else 2) slot c = why) :
    exec (.present tag (number d) 0 badge) s = .next
      (match (generalizing := false) why with
        | some r => (heard 0x30 tag s).withReply 0x30 tag .denied (.reason r)
        | none => presenterPassed ⟨d, .outside, badge, true⟩ k slot c (heard 0x30 tag s)) := by
  have decided := entryChain_found (s := heard 0x30 tag s) (w := ⟨d, .outside, badge, true⟩) k clear found
  have counted : (heard 0x30 tag s).presentHolders d badge = if first.badge = badge then 1 else 2 := presentHolders_pair (s := s) pair
  have fails : (heard 0x30 tag s).failingStep d k false (if first.badge = badge then 1 else 2) slot c = why := steps
  rw [exec_present tag badge d free ready rfl,
    presentChain_entry (s := heard 0x30 tag s) (w := ⟨d, .outside, badge, true⟩) ready kind (.inl rfl), decided]
  dsimp only
  rw [counted, fails]
  clear fails steps
  cases why with
  | some r => exact congrArg _ (deny_heard ..)
  | none => rfl

/-- The presenter who completes a pair that waits: the first holder is judged again, both counted. -/
theorem completePair_other {w : WaitingPresent} {k : EntryKind} {slot : SlotId} {c : Credential} {first : Holder} (owed : w.owed = true) :
    (s.judge w.door k true 2 first.badge = .deferred →
      completePair w k first ⟨slot, w.badge⟩ c s = { s with waitPresents := s.waitPresents ++ [w] }) ∧
    (∀ i l, s.judge w.door k true 2 first.badge = .passed i l →
      completePair w k first ⟨slot, w.badge⟩ c s = grantMode w.door [first, ⟨slot, w.badge⟩] .outside slot true
        (raise .grantOutcome (.door w.door) (some (.badge first.badge)) s)) := by
  constructor
  · intro deferred
    simp only [completePair, deferred]
    rfl
  · intro i l passed
    simp only [completePair, passed, owed]

/-- Settles O30. -/
theorem grantModeAndPairDecideEntry : Obligations.GrantModeAndPairDecideEntry := by
  refine ⟨?_, ?_, ?_, ⟨fun s d v holders badge =>
    ⟨judge_single s d v holders badge, judge_inner s d v holders badge, judge_outer s d v holders badge, judge_perimeter s d holders badge⟩,
    fun s d hs reader slot r outstanding => ⟨grantMode_delayed hs reader slot outstanding, grantMode_confirm hs reader slot outstanding,
      grantMode_released hs reader slot outstanding⟩⟩, ?_, ?_⟩
  · intro s d h reader r outstanding
    refine ⟨grantMode_delayed [h] reader h.slot outstanding, grantMode_confirm [h] reader h.slot outstanding, ?_, ?_, ?_⟩
    · intro mode host unheld
      rw [grantMode_absent _ _ _ mode host, cancelGrant_free _ unheld, deny_owed _ outstanding]
    · intro g hs mode host grant stage plain
      rw [grantMode_absent _ _ _ mode host, cancelGrant_plain _ grant (by rw [stage]; rfl) plain]
      exact deny_owed _ ((raise_reach ..).band.outstanding.trans outstanding)
    · intro mode
      refine (grantMode_release [h] reader h.slot true mode).trans ?_
      have released : releaseDoor d ⟨[h], .entry, reader, .releasing, none, none⟩ s = s.releaseTo d [h] .entry reader := releaseDoor_eq ..
      rw [← released, answerOutcome, answerOwed_eq]
  · intro s w d v slot c r outstanding owed here unheld after empty solo crew
    subst here
    have needs := (needsPartner_single s v c).2 ⟨after, empty, solo, crew⟩
    have checks : s.vestibuleFails (.single v) = none := rfl
    rw [presenterPassed_alone (pendingPair_alone (alone_of_free unheld)), step12_eq, checks]
    dsimp only
    rw [if_pos needs, owed]
    exact answerPending_owed (s := awaitPartner w.door ⟨slot, w.badge⟩ s) .awaitPartner slot outstanding
  · intro s w d v slot c r g first outstanding owed here grant stage plain one
    subst here
    have paired := presenterPassed_pair (k := .single v) (w := w) (slot := slot) (c := c) rfl (pendingPair_some grant stage (by rw [one]; rfl))
    rw [paired]
    refine ⟨fun own => ?_, fun i k other passed auto band => ?_, fun why other fails after empty solo crew => ?_⟩
    · rw [if_pos own, owed]
      exact answerPending_owed _ _ outstanding
    · rw [if_neg other, (completePair_other owed).2 i k passed]
      have outstanding' : (raise .grantOutcome (.door w.door) (some (.badge first.badge)) s).link.outstanding = some r :=
        (raise_reach ..).band.outstanding.trans outstanding
      rw [grantMode_released _ _ _ outstanding' (.inl auto), releaseTo_bolted (s := raise .grantOutcome _ _ s) _ _ _ band]
      rfl
    · have needs := (needsPartner_single s v c).2 ⟨after, empty, solo, crew⟩
      rw [if_neg other, completePair_denied outstanding owed grant stage plain rfl fails, if_pos needs]
  · intro s tag badge d v slot c g first k why free ready role clear found grant stage head chain
    have pair := pendingPair_some grant stage head
    have untaken := doorTaken_pair grant stage
    rcases chain with ⟨vestibule, rfl, steps⟩ | ⟨single, rfl, steps⟩
    · refine exec_present_pair free ready clear found (entryKind_inner role vestibule) pair ?_
      rw [failingStep_inner, untaken]
      exact steps
    · refine exec_present_pair free ready clear found (entryKind_single role single) pair ?_
      rw [failingStep_single, untaken]
      exact steps
  · intro s w d v slot c r g first outstanding owed here grant stage plain one
    subst here
    have pair := pendingPair_some grant stage (first := first) (by rw [one]; rfl)
    constructor
    · intro why refuses
      rw [presenterPassed_refused ((vestibuleFails_inner s v).trans refuses), owed]
      exact deny_owed _ outstanding
    · intro k alone chain
      have checks : s.vestibuleFails k = none := by
        rcases chain with ⟨rfl, _⟩ | ⟨rfl, open_, _⟩
        · rfl
        · exact (vestibuleFails_inner s v).trans open_
      have partner : s.needsPartner k c = true ↔
          s.clock.mode = .afterHours ∧ alone = true ∧ c.flags.solo = false ∧ c.flags.emergencyCrew = false := by
        rcases chain with ⟨rfl, rfl⟩ | ⟨rfl, _, rfl⟩
        · simp only [needsPartner_single, List.isEmpty_iff]
        · simp only [needsPartner_inner, true_and]
      rw [presenterPassed_pair checks pair]
      refine ⟨fun own => ?_, fun other => ?_⟩
      · rw [if_pos own, owed]
        exact answerPending_owed _ _ outstanding
      · obtain ⟨deferred, passed⟩ := completePair_other (s := s) (k := k) (slot := slot) (c := c) (first := first) owed
        rw [if_neg other]
        refine ⟨deferred, passed, fun why fails => ?_⟩
        rw [completePair_denied outstanding owed grant stage plain checks fails]
        simp only [partner]

end Sys2Proof.Machine


/-! Waiting grants: the re-check, CONFIRM and DENY, and the deadlines that end a wait (R119, R129 to R131, R133, R168). -/

namespace Sys2Proof.Machine

variable {s t : State}

/-! ## The verdict of a re-check (R133, R168) -/

theorem judgeHolders_eq (s : State) (d : DoorId) (k : EntryKind) (n : Nat) (holders : List Holder) :
    s.judgeHolders d k n holders = firstStopped (s.judge d k true n) holders := by
  induction holders with
  | nil => rfl
  | cons h rest ih =>
    unfold State.judgeHolders firstStopped
    rw [List.findSome?_cons]
    cases s.judge d k true n h.badge with
    | passed i c => exact ih
    | deferred => rfl
    | denied why => rfl

theorem recheckVerdict_eq {d : DoorId} {k : EntryKind} (g : Grant) (kind : s.entryKind d = some k) :
    s.recheckVerdict d g = (firstStopped (s.judge d k true g.holders.length) g.holders).or ((s.vestibuleFails k).map .denied) := by
  simp only [State.recheckVerdict, kind, judgeHolders_eq]
  cases firstStopped (s.judge d k true g.holders.length) g.holders <;> rfl

theorem recheckVerdict_single {d : DoorId} {v : RoomId} (g : Grant) (role : s.role d = .strongroom v) (single : s.hasVestibule v = false) :
    s.recheckVerdict d g = firstStopped (fun b => s.verdictBy b (s.singleRefusal d v g.holders.length)) g.holders := by
  rw [recheckVerdict_eq g (entryKind_single role single), funext (judge_single s d v g.holders.length)]
  exact Option.or_none

theorem recheckVerdict_inner {d : DoorId} {v : RoomId} (g : Grant) (role : s.role d = .strongroom v) (vestibule : s.hasVestibule v = true) :
    s.recheckVerdict d g =
      (firstStopped (fun b => s.verdictBy b (s.innerStepRefusal d v)) g.holders).or ((s.innerRefusal v).map .denied) := by
  rw [recheckVerdict_eq g (entryKind_inner role vestibule), funext (judge_inner s d v g.holders.length), vestibuleFails_inner]

theorem recheckVerdict_outer {d : DoorId} {v : RoomId} (g : Grant) (role : s.role d = .vestibuleOuter v) :
    s.recheckVerdict d g =
      (firstStopped (fun b => s.verdictBy b (s.outerStepRefusal d v g.holders.length)) g.holders).or ((s.outerRefusal v).map .denied) := by
  rw [recheckVerdict_eq g (entryKind_outer role), funext (judge_outer s d v g.holders.length), vestibuleFails_outer]

theorem recheckVerdict_perimeter {d : DoorId} (g : Grant) (role : s.role d = .perimeter) :
    s.recheckVerdict d g = firstStopped (fun b => s.verdictBy b (fun _ c => s.perimeterStepRefusal d c)) g.holders := by
  rw [recheckVerdict_eq g (entryKind_perimeter role), funext (judge_perimeter s d g.holders.length)]
  exact Option.or_none

/-- A re-check asks the steps for each holder and the vestibule, and nothing else. -/
theorem recheckVerdict_congr {d : DoorId} (g : Grant) (kind : t.entryKind d = s.entryKind d)
    (steps : ∀ k n, t.judge d k true n = s.judge d k true n) (checks : ∀ k, t.vestibuleFails k = s.vestibuleFails k) :
    t.recheckVerdict d g = s.recheckVerdict d g := by
  cases known : s.entryKind d with
  | none => simp only [State.recheckVerdict, kind, known]
  | some k => rw [recheckVerdict_eq g known, recheckVerdict_eq g (kind.trans known), steps, checks]

/-- It looks past the door's own record. -/
theorem recheckVerdict_setGrant (d : DoorId) (x : Option Grant) (g : Grant) (s : State) :
    (s.setGrant d x).recheckVerdict d g = s.recheckVerdict d g :=
  recheckVerdict_congr g rfl (fun _ _ => rfl) (fun _ => rfl)

theorem recheckVerdict_heard (kind tag : Nat) (d : DoorId) (g : Grant) (s : State) :
    (heard kind tag s).recheckVerdict d g = s.recheckVerdict d g :=
  recheckVerdict_congr g rfl (fun _ _ => rfl) (fun _ => rfl)

/-! ## The grant that waits (R119, R130, R131, R133) -/

/-- The grant as its re-check begins: no deadline runs, and a re-check is owed. -/
def Grant.rechecked (g : Grant) (owed : Bool) : Grant := { g with deadline := none, recheck := some ⟨owed⟩ }

theorem startRecheck_eq {d : DoorId} {g : Grant} (owed : Bool) (grant : s.grants.get d = some g) :
    startRecheck d owed s = makeRecheck d (s.setGrant d (some (g.rechecked owed))) := by
  simp only [startRecheck, grant]
  rfl

theorem makeRecheck_passes {d : DoorId} {g : Grant} {owed : Bool} (grant : s.grants.get d = some g) (waits : g.recheck = some ⟨owed⟩)
    (passes : s.recheckVerdict d g = none) : makeRecheck d s =
      (raise .grantOutcome (.door d) (some (.badge g.firstBadge)) (s.releaseTo d g.holders g.purpose g.reader)).repliedTo owed .ok .none := by
  simp only [makeRecheck, grant, waits, passes, answerOwed_eq, releaseDoor_eq]

theorem makeRecheck_fails {d : DoorId} {g : Grant} {owed : Bool} {why : Reason} (grant : s.grants.get d = some g)
    (waits : g.recheck = some ⟨owed⟩) (stage : g.stage.waits = true) (fails : s.recheckVerdict d g = some (.denied why)) :
    makeRecheck d s =
      (raise .grantCancelled (.door d) (some (.reason why)) { s with grants := put s.grants d none }).repliedTo owed .denied (.reason why) := by
  simp only [makeRecheck, grant, waits, fails]
  rw [cancelGrant_waiting why (grantMoving_waiting grant stage)]
  simp only [State.grantDropped, grant]
  rw [confirmDenied_some waits, answerOwed_eq]

theorem makeRecheck_deferred {d : DoorId} {g : Grant} {owed : Bool} (grant : s.grants.get d = some g) (waits : g.recheck = some ⟨owed⟩)
    (defers : s.recheckVerdict d g = some .deferred) : makeRecheck d s = s := by
  simp only [makeRecheck, grant, waits, defers]

theorem releaseTo_setGrant (d : DoorId) (x : Option Grant) (holders : List Holder) (p : Purpose) (reader : Reader) (s : State) :
    (s.setGrant d x).releaseTo d holders p reader = s.releaseTo d holders p reader := by
  have direct : ∀ u : State, releaseDoor d ⟨holders, p, reader, .releasing, none, none⟩ u = u.releaseTo d holders p reader := fun _ => releaseDoor_eq ..
  have twice : ∀ y, (s.setGrant d x).setGrant d y = s.setGrant d y := fun y => congrArg (fun v => { s with grants := v }) (put_put ..)
  rw [← direct, ← direct]
  simp only [releaseDoor, twice]

theorem startRecheck_passes {d : DoorId} {g : Grant} (owed : Bool) (grant : s.grants.get d = some g) (passes : s.recheckVerdict d g = none) :
    startRecheck d owed s =
      (raise .grantOutcome (.door d) (some (.badge g.firstBadge)) (s.releaseTo d g.holders g.purpose g.reader)).repliedTo owed .ok .none := by
  rw [startRecheck_eq owed grant, makeRecheck_passes (g := g.rechecked owed) (put_get_same ..) rfl
    ((recheckVerdict_setGrant ..).trans passes), releaseTo_setGrant]
  rfl

theorem startRecheck_fails {d : DoorId} {g : Grant} {why : Reason} (owed : Bool) (grant : s.grants.get d = some g)
    (stage : g.stage.waits = true) (fails : s.recheckVerdict d g = some (.denied why)) :
    startRecheck d owed s =
      (raise .grantCancelled (.door d) (some (.reason why)) { s with grants := put s.grants d none }).repliedTo owed .denied (.reason why) := by
  rw [startRecheck_eq owed grant, makeRecheck_fails (g := g.rechecked owed) (put_get_same ..) rfl stage
    ((recheckVerdict_setGrant ..).trans fails)]
  exact congrArg (fun v => State.repliedTo owed .denied (.reason why)
    (raise .grantCancelled (.door d) (some (.reason why)) { s with grants := v })) (put_put ..)

theorem startRecheck_deferred {d : DoorId} {g : Grant} (owed : Bool) (grant : s.grants.get d = some g)
    (defers : s.recheckVerdict d g = some .deferred) : startRecheck d owed s = s.setGrant d (some (g.rechecked owed)) := by
  rw [startRecheck_eq owed grant]
  exact makeRecheck_deferred (g := g.rechecked owed) (put_get_same ..) rfl ((recheckVerdict_setGrant ..).trans defers)

/-! ## The commands that end a wait (R119, R130, R131) -/

theorem grantDeadline_of {d : DoorId} {g : Grant} {st : GrantStage} {dl : Nat} (grant : s.grants.get d = some g) (stage : g.stage = st)
    (deadline : g.deadline = some dl) : s.grantDeadline d st = some dl := by
  simp only [State.grantDeadline, grant, stage, if_true, deadline]

theorem exec_delayHoldEnd {d : DoorId} {g : Grant} {dl : Nat} (on : s.powered = true) (grant : s.grants.get d = some g)
    (stage : g.stage = .awaitDelay) (deadline : g.deadline = some dl) (reached : dl ≤ s.now) :
    exec (.delayHoldEnd d) s = .next (startRecheck d false s) := by
  refine (powered_on on).trans ?_
  rw [grantDeadline_of grant stage deadline, whenDue_some _ reached]

theorem exec_deferredRecheck {d : DoorId} (on : s.powered = true) (still : s.commitRunning = false) :
    exec (.deferredRecheck d) s = .next (makeRecheck d s) := by
  refine (powered_on on).trans ?_
  simp only [still, Bool.false_eq_true, if_false]

theorem exec_confirm {tag : Nat} {d : DoorId} {g : Grant} (free : s.free) (grant : s.grants.get d = some g) (stage : g.stage = .awaitConfirm) :
    exec (.confirm tag (number d)) s = .next (startRecheck d true (heard 0x31 tag s)) := by
  have taken : exec (.confirm tag (number d)) s = .next (performConfirm (number d) (heard 0x31 tag s)) := onRequest_free 0x31 tag _ free
  have waits : (heard 0x31 tag s).grantStage d = some .awaitConfirm := by
    have grant' : (heard 0x31 tag s).grants.get d = some g := grant
    simp only [State.grantStage, grant', Option.map_some, stage]
  rw [taken]
  simp only [performConfirm, fromOne_number, withObject_some, waits, if_true]

theorem exec_confirm_refused {tag : Nat} {d : DoorId} (free : s.free) (none : ∀ g, s.grants.get d = some g → g.stage ≠ .awaitConfirm) :
    exec (.confirm tag (number d)) s = .next ((heard 0x31 tag s).withReply 0x31 tag .badState .none) := by
  have taken : exec (.confirm tag (number d)) s = .next (performConfirm (number d) (heard 0x31 tag s)) := onRequest_free 0x31 tag _ free
  have other : (heard 0x31 tag s).grantStage d ≠ some .awaitConfirm := by
    intro waits
    obtain ⟨g, grant, stage⟩ := Option.map_eq_some_iff.1 waits
    exact none g grant stage
  rw [taken]
  simp only [performConfirm, fromOne_number, withObject_some]
  rw [if_neg other]
  exact congrArg _ (answer_heard ..)

theorem exec_deny {tag : Nat} {d : DoorId} {g : Grant} (free : s.free) (grant : s.grants.get d = some g)
    (stage : g.stage = .awaitDelay ∨ g.stage = .awaitConfirm) :
    exec (.deny tag (number d)) s = .next (((heard 0x32 tag s).grantDropped d .hostDenied).withReply 0x32 tag .ok .none) := by
  have taken : exec (.deny tag (number d)) s = .next (performDeny (number d) (heard 0x32 tag s)) := onRequest_free 0x32 tag _ free
  have grant' : (heard 0x32 tag s).grants.get d = some g := grant
  have waits : ((heard 0x32 tag s).grantStage d = some .awaitDelay || (heard 0x32 tag s).grantStage d = some .awaitConfirm) = true := by
    simpa only [State.grantStage, grant', Option.map_some, Option.some.injEq, Bool.or_eq_true, decide_eq_true_eq] using stage
  have still : (heard 0x32 tag s).grantMoving d = false := by
    refine grantMoving_waiting grant' ?_
    rcases stage with stage | stage <;> rw [stage] <;> rfl
  rw [taken]
  simp only [performDeny, fromOne_number, withObject_some, waits, if_true]
  rw [performed_eq (cancelGrant_reach ..).band (heard_outstanding 0x32 tag s), cancelGrant_waiting _ still]

theorem exec_deny_refused {tag : Nat} {d : DoorId} (free : s.free)
    (none : ∀ g, s.grants.get d = some g → g.stage ≠ .awaitDelay ∧ g.stage ≠ .awaitConfirm) :
    exec (.deny tag (number d)) s = .next ((heard 0x32 tag s).withReply 0x32 tag .badState .none) := by
  have taken : exec (.deny tag (number d)) s = .next (performDeny (number d) (heard 0x32 tag s)) := onRequest_free 0x32 tag _ free
  have other : ¬((heard 0x32 tag s).grantStage d = some .awaitDelay || (heard 0x32 tag s).grantStage d = some .awaitConfirm) = true := by
    rw [Bool.or_eq_true, decide_eq_true_eq, decide_eq_true_eq]
    rintro (waits | waits)
    · obtain ⟨g, grant, stage⟩ := Option.map_eq_some_iff.1 waits
      exact (none g grant).1 stage
    · obtain ⟨g, grant, stage⟩ := Option.map_eq_some_iff.1 waits
      exact (none g grant).2 stage
  rw [taken]
  simp only [performDeny, fromOne_number, withObject_some]
  rw [if_neg other]
  exact congrArg _ (answer_heard ..)

/-! ## A notice and the request just heard (R192, R193) -/

/-- What the link hears of a request stands beside the notices. -/
theorem raise_heard (k : NoticeKind) (o : NoticeObject) (x : Option Detail) (kind tag : Nat) (s : State) :
    raise k o x (heard kind tag s) = heard kind tag (raise k o x s) := by
  have told : ∀ (n : Notice) (lk : Link) (dl : Option Nat) (r : Option Request),
      Link.take n { lk with presenceDl := dl, outstanding := r } = { lk.take n with presenceDl := dl, outstanding := r } := by
    intro n lk dl r
    unfold Link.take
    dsimp only
    split
    · rfl
    · split
      · rfl
      · split
        · rfl
        · split <;> rfl
  simp only [raise, heard]
  rw [← told]
  rfl

/-- Settles O32. -/
theorem waitingGrantEndsByItsCommand : Obligations.WaitingGrantEndsByItsCommand := by
  refine ⟨?_, ?_, ?_, ?_, ?_, fun s d g => ⟨fun v => recheckVerdict_single g, fun v => recheckVerdict_inner g, fun v => recheckVerdict_outer g,
    recheckVerdict_perimeter g⟩, fun s d g dl => exec_delayHoldEnd, fun s tag d free =>
    ⟨exec_confirm_refused free, exec_deny_refused free⟩, fun s tag d g => exec_deny⟩
  · intro s d g t grant passes same
    subst same
    refine ⟨fun dl on stage deadline reached => ?_, fun on still waits => ?_, fun r on still waits outstanding => ?_,
      fun tag free stage u same => ?_⟩
    · rw [exec_delayHoldEnd on grant stage deadline reached, startRecheck_passes false grant passes]
      rfl
    · rw [exec_deferredRecheck on still, makeRecheck_passes grant waits passes]
      rfl
    · rw [exec_deferredRecheck on still, makeRecheck_passes grant waits passes]
      exact congrArg _ (repliedTo_owed _ _ ((raise_reach ..).band.outstanding.trans ((releaseTo_outstanding ..).trans outstanding)))
    · subst same
      rw [exec_confirm free grant stage, startRecheck_passes (s := heard 0x31 tag s) true grant ((recheckVerdict_heard ..).trans passes)]
      exact congrArg _ (repliedTo_owed _ _ ((raise_reach ..).band.outstanding.trans
        ((releaseTo_outstanding ..).trans (heard_outstanding 0x31 tag s))))
  · intro s d g why t grant fails stage same
    subst same
    have waiting : g.stage.waits = true := by rcases stage with stage | stage <;> rw [stage] <;> rfl
    refine ⟨fun dl on delay deadline reached => ?_, fun on still waits => ?_, fun r on still waits outstanding => ?_, fun tag free confirm => ?_⟩
    · rw [exec_delayHoldEnd on grant delay deadline reached, startRecheck_fails false grant waiting fails]
      rfl
    · rw [exec_deferredRecheck on still, makeRecheck_fails grant waits waiting fails]
      rfl
    · rw [exec_deferredRecheck on still, makeRecheck_fails grant waits waiting fails]
      exact congrArg _ (repliedTo_owed _ _ ((raise_reach ..).band.outstanding.trans outstanding))
    · rw [exec_confirm free grant confirm,
        startRecheck_fails (s := heard 0x31 tag s) true grant waiting ((recheckVerdict_heard ..).trans fails)]
      have told := raise_heard .grantCancelled (.door d) (some (.reason why)) 0x31 tag { s with grants := put s.grants d none }
      exact congrArg _ ((congrArg (State.repliedTo true .denied (.reason why)) told).trans (repliedTo_owed _ _ (heard_outstanding 0x31 tag _)))
  · intro s d g grant defers
    refine ⟨fun dl on stage deadline reached => ?_, fun tag free stage => ?_⟩
    · rw [exec_delayHoldEnd on grant stage deadline reached, startRecheck_deferred false grant defers]
      rfl
    · rw [exec_confirm free grant stage, startRecheck_deferred (s := heard 0x31 tag s) true grant ((recheckVerdict_heard ..).trans defers)]
      rfl
  · intro s d v g h role single one
    have verdict : s.recheckVerdict d g = firstStopped (fun b => s.verdictBy b (s.singleRefusal d v 1)) [h] := by
      rw [recheckVerdict_single g role single, one]
      rfl
    refine ⟨fun conflicts => ?_, fun clear unknown => ?_, fun slot c clear found => ?_⟩
    · simp [verdict, firstStopped, State.verdictBy, conflicts]
    · simp [verdict, firstStopped, State.verdictBy, clear, unknown]
    · rw [verdict]
      simp only [firstStopped, State.verdictBy, clear, found, Bool.false_eq_true, if_false, List.findSome?_cons, List.findSome?_nil]
      change _ = Option.map Verdict.denied (s.singleRefusal d v 1 slot c)
      cases s.singleRefusal d v 1 slot c <;> rfl
  · intro s d g grant plain
    refine ⟨fun tag free stage => ?_, fun dl on stage deadline reached => ?_, fun dl on stage deadline reached => ?_⟩
    · rw [exec_deny free grant stage, grantDropped_plain (s := heard 0x32 tag s) .hostDenied grant plain]
      rfl
    · refine (powered_on on).trans ?_
      rw [grantDeadline_of grant stage deadline, whenDue_some _ reached, cancelGrant_plain _ grant (by rw [stage]; rfl) plain]
    · refine (powered_on on).trans ?_
      rw [grantDeadline_of grant stage deadline, whenDue_some _ reached]
      simp only [lapsePair, grant]
      rfl

end Sys2Proof.Machine


/-! Laws of a door channel: notices, throws and the entry to SECURE, and what the vestibule unit does with it (R134, R138, R142, R145 to
R148, R151, R171). -/

namespace Sys2Proof.Machine

variable {s t u : State}

/-! ## One door's record (R138) -/

theorem put_comm {n : Nat} {α : Type} (v : Vector α n) {i j : Fin n} (x y : α) (ne : i ≠ j) :
    put (put v i x) j y = put (put v j y) i x := by
  refine table_ext fun k => ?_
  by_cases atI : k = i
  · subst atI
    rw [put_get_other _ _ ne, put_get_same, put_get_same]
  · by_cases atJ : k = j
    · subst atJ
      rw [put_get_same, put_get_other _ _ atI, put_get_same]
    · rw [put_get_other _ _ atJ, put_get_other _ _ atI, put_get_other _ _ atI, put_get_other _ _ atJ]

theorem setDoor_comm {d e : DoorId} (ne : d ≠ e) (x y : Door) (s : State) : (s.setDoor d x).setDoor e y = (s.setDoor e y).setDoor d x :=
  congrArg (fun v => { s with doors := v }) (put_comm s.doors x y ne)

theorem setDoor_same (d : DoorId) (s : State) : s.setDoor d (s.doors.get d) = s :=
  congrArg (fun v => { s with doors := v }) (put_same ..)

theorem setDoor_door (d : DoorId) (x : Door) (s : State) : (s.setDoor d x).doors.get d = x := put_get_same ..

theorem setDoor_other {d e : DoorId} (x : Door) (s : State) (ne : e ≠ d) : (s.setDoor d x).doors.get e = s.doors.get e :=
  put_get_other _ _ ne

theorem setDoor_doorBand (d e : DoorId) (x : Door) (s : State) : (s.setDoor d x).doorBand e = s.doorBand e := rfl

/-- Before READY a door's line shows nothing. -/
theorem ready_of_band {d : DoorId} (shows : s.doorBand d ≠ .unknown) : s.sup.ready = true := by
  refine Classical.byContradiction fun early => ?_
  exact shows (by simp [State.doorBand, State.ownBand, early])

theorem band_outstanding (h : AccessOnly s t) : t.link.outstanding = s.link.outstanding := h.band.outstanding

/-! ## Notices of a door (R138, R161) -/

theorem raiseDoor_eq (k : NoticeKind) (d : DoorId) (x : Option Detail) (s : State) : raiseDoor k d x s = s.doorNotice k d x := by
  simp [raiseDoor, State.doorNotice]

theorem doorNotice_used {k : NoticeKind} {d : DoorId} {x : Option Detail} (ready : s.sup.ready = true) (used : s.role d ≠ .unused) :
    s.doorNotice k d x = raise k (.door d) x s := if_pos ⟨ready, used⟩

theorem doorNotice_setDoor (k : NoticeKind) (d e : DoorId) (x : Option Detail) (y : Door) (s : State) :
    (s.setDoor e y).doorNotice k d x = (s.doorNotice k d x).setDoor e y := by
  have same : ((s.setDoor e y).sup.ready = true ∧ (s.setDoor e y).role d ≠ .unused) = (s.sup.ready = true ∧ s.role d ≠ .unused) := rfl
  unfold State.doorNotice
  simp only [same]
  split <;> rfl

theorem doorNotice_kept (k : NoticeKind) (d : DoorId) (x : Option Detail) (s : State) : GrantsEnded s (s.doorNotice k d x) := by
  unfold State.doorNotice
  split
  · exact raise_ends ..
  · exact .refl s

theorem doorNotice_doors (k : NoticeKind) (d : DoorId) (x : Option Detail) (s : State) : (s.doorNotice k d x).doors = s.doors :=
  (doorNotice_kept ..).kept.1

theorem failGrant_eq (d : DoorId) (s : State) : failGrant d s = s.withdrawFailed d := by
  unfold failGrant State.withdrawFailed
  cases s.grants.get d with
  | none => rfl
  | some g => cases stage : g.stage <;> simp [stage, GrantStage.waits, raiseDoor_eq, State.setGrant]

/-! ## Throws and the entry to SECURE (R142, R148, R151) -/

/-- DOOR_SECURED is raised where an alarm stood. -/
def State.securedTold (d : DoorId) (alarm : Bool) (s : State) : State :=
  (if alarm then State.doorNotice .doorSecured d none else id) s

theorem securedTold_used {d : DoorId} {alarm : Bool} (ready : s.sup.ready = true) (used : s.role d ≠ .unused) :
    s.securedTold d alarm = (if alarm then raise .doorSecured (.door d) none else id) s := by
  cases alarm
  · rfl
  · exact doorNotice_used ready used

theorem securedTold_setDoor (d e : DoorId) (alarm : Bool) (y : Door) (s : State) :
    (s.setDoor e y).securedTold d alarm = (s.securedTold d alarm).setDoor e y := by
  cases alarm
  · rfl
  · exact doorNotice_setDoor ..

theorem securedTold_door (d e : DoorId) (alarm : Bool) (y : Door) (s : State) : ((s.setDoor e y).securedTold d alarm).doors.get e = y := by
  rw [securedTold_setDoor]
  exact setDoor_door ..

theorem enterSecure_eq (d : DoorId) (rederived : Bool) (s : State) : enterSecure d rederived s =
    (if (s.doors.get d).state = .secure then id else handSecure d rederived)
      ((s.setDoor d (s.doors.get d).shut).securedTold d (s.doors.get d).alarm) := by
  have told : enterSecure d rederived s = (if (s.doors.get d).state = .secure then
      (if (s.doors.get d).alarm then raiseDoor .doorSecured d none (s.setDoor d (s.doors.get d).shut) else s.setDoor d (s.doors.get d).shut)
    else handSecure d rederived
      (if (s.doors.get d).alarm then raiseDoor .doorSecured d none (s.setDoor d (s.doors.get d).shut) else s.setDoor d (s.doors.get d).shut)) := rfl
  rw [told]
  unfold State.securedTold
  simp only [raiseDoor_eq]
  cases (s.doors.get d).alarm <;> split <;> rfl

theorem beginThrow_away {d : DoorId} (away : s.doorBand d ≠ .bolted) : beginThrow d s =
    s.setDoor d { s.doors.get d with bolt := .thrown, motion := .moving .thrown (s.now + 3000) } :=
  if_neg (mt (reachedAt_thrown _).1 away)

theorem beginThrow_bolted {d : DoorId} (band : s.doorBand d = .bolted) : beginThrow d s = enterSecure d false (stopAtTarget d .thrown s) :=
  if_pos ((reachedAt_thrown _).2 band)

theorem throwInto_away {d : DoorId} (st : DoorState) (away : s.doorBand d ≠ .bolted) :
    throwInto st d s = s.setDoor d ((s.doors.get d).throwing st s.now) := by
  unfold throwInto
  rw [beginThrow_away (by exact away), setDoor_setDoor, setDoor_door]
  rfl

/-- A throw that is complete as it begins, from a state other than SECURE. -/
theorem throwInto_bolted {d : DoorId} {st : DoorState} (other : st ≠ .secure) (band : s.doorBand d = .bolted) :
    throwInto st d s = handSecure d false
      ((s.setDoor d { (s.doors.get d).shut with trips := 0 }).securedTold d (s.doors.get d).alarm) := by
  unfold throwInto
  rw [beginThrow_bolted (by exact band), enterSecure_eq]
  simp only [stopAtTarget, setDoor_setDoor, setDoor_door]
  rw [if_neg other]
  rfl

/-! ## Changes that pass a door by -/

/-- The change neither looks at the record of door `d` nor touches it. -/
def Passes (d : DoorId) (f : State → State) : Prop := ∀ x s, f (s.setDoor d x) = (f s).setDoor d x

theorem Passes.foldl {α : Type} {d : DoorId} {f : State → α → State} (h : ∀ a, Passes d (fun s => f s a)) (l : List α) :
    Passes d (fun s => l.foldl f s) := by
  intro x s
  induction l generalizing s with
  | nil => rfl
  | cons a rest ih =>
    have step : f (s.setDoor d x) a = (f s a).setDoor d x := h a x s
    simp only [List.foldl_cons, step, ih]

theorem raise_passes (d : DoorId) (k : NoticeKind) (o : NoticeObject) (x : Option Detail) : Passes d (raise k o x) := fun _ _ => rfl

theorem confirmDenied_passes (d : DoorId) (g : Grant) (why : Reason) : Passes d (State.confirmDenied g why) := by
  intro x s
  have same : (s.setDoor d x).link = s.link := rfl
  unfold State.confirmDenied
  rw [same]
  split <;> rfl

theorem grantDropped_passes (d e : DoorId) (why : Reason) : Passes d (State.grantDropped e why) := by
  intro x s
  have same : (s.setDoor d x).grants = s.grants := rfl
  unfold State.grantDropped
  rw [same]
  split
  · rfl
  · exact confirmDenied_passes d _ why x
      (raise .grantCancelled (.door e) (some (.reason why)) { s with grants := put s.grants e none })

theorem removalHanded_passes (d : DoorId) (v : RoomId) (slot : SlotId) : Passes d (State.removalHanded v slot) := by
  intro x s
  have door : (s.setDoor d x).strongroomDoor v = s.strongroomDoor v := rfl
  have same : (s.setDoor d x).grants = s.grants := rfl
  unfold State.removalHanded
  rw [door, same]
  split
  · rfl
  · split
    · exact grantDropped_passes d _ .passback x s
    · rfl

theorem vestibuleEmptied_passes (d : DoorId) (v : RoomId) (k : NoticeKind) : Passes d (State.vestibuleEmptied v k) := by
  intro x s
  have handed := Passes.foldl (fun o : Occupant => removalHanded_passes d v o.slot) (s.vests.get v).occupants
  have told := Passes.foldl (fun o : Occupant => raise_passes d k (.strongroom v) (some (.badge o.badge))) (s.vests.get v).occupants
  have moved := handed x { s with
    vests := put s.vests v { direction := .none, occupants := [] }
    locations := (s.vests.get v).occupants.foldl (fun l o => sparsePut .outside l o.slot .outside) s.locations }
  exact (congrArg (fun t => (s.vests.get v).occupants.foldl (fun t o => raise k (.strongroom v) (some (.badge o.badge)) t) t) moved).trans
    (told x _)

/-! ## The automatic outer release (R171) -/

theorem outerFree_iff (g : Option Grant) :
    outerFree g = true ↔ ∀ x, g = some x → x.purpose = .entry ∧ x.stage.waits = true := by
  cases g <;> simp [outerFree]

/-- The occupants of an OUTBOUND vestibule have been handed its outer door. -/
def State.outerReleased (v : RoomId) (o : DoorId) (s : State) : State :=
  let u := s.grantDropped o .direction
  if s.doorBand o = .opened then
    State.vestibuleEmptied v .vestibuleOut { u with
      grants := put s.grants o none
      doors := put s.doors o { (s.doors.get o).opening (s.now + (s.doorSettings o).heldOpen * 1000) with bolt := .withdrawn, trips := 0 } }
  else u.releaseTo o ((s.vests.get v).occupants.map (fun p => ⟨p.slot, p.badge⟩)) .exit .inside

/-- What a dropped grant leaves of the other records. -/
theorem grantDropped_reach (d : DoorId) (why : Reason) (s : State) : AccessOnly s (s.grantDropped d why) := by
  rw [← dropGrant_eq]
  exact dropGrant_reach ..

theorem GrantsEnded.band (h : GrantsEnded s t) (d : DoorId) : t.doorBand d = s.doorBand d := by
  obtain ⟨_, _, rfl, _⟩ := h
  rfl

theorem grantDropped_grants (d : DoorId) (why : Reason) (s : State) : (s.grantDropped d why).grants = put s.grants d none := by
  unfold State.grantDropped
  cases grant : s.grants.get d with
  | none => exact ((congrArg (put s.grants d) grant.symm).trans (put_same ..)).symm
  | some g =>
    dsimp only
    unfold State.confirmDenied
    split <;> rfl

theorem releaseDoor_closed {d : DoorId} (g : Grant) (away : s.doorBand d ≠ .opened) :
    releaseDoor d g s = startRelease d (s.setGrant d (some { g with stage := .releasing, deadline := none, recheck := none })) := by
  unfold releaseDoor
  generalize same : startRelease d _ = u
  have band : u.doorBand d = s.doorBand d := same ▸ ((startRelease_reach ..).ownBand _).trans rfl
  simp [passIfOpen, band, away]

theorem startRelease_closed {d : DoorId} (holders : List Holder) (p : Purpose) (reader : Reader) (away : s.doorBand d ≠ .opened) :
    startRelease d (s.setGrant d (some ⟨holders, p, reader, .releasing, none, none⟩)) = s.releaseTo d holders p reader :=
  (releaseDoor_closed ⟨holders, p, reader, .releasing, none, none⟩ away).symm.trans (releaseDoor_eq ..)

/-- A withdraw whose line shows OPEN, as the passage finds it. -/
theorem startRelease_opened {d : DoorId} {g : Grant} (opened : s.doorBand d = .opened) :
    (enterOpen d (startRelease d (s.setGrant d (some g)))).setGrant d none = { s with
      grants := put s.grants d none
      doors := put s.doors d { (s.doors.get d).opening (s.now + (s.doorSettings d).heldOpen * 1000) with bolt := .withdrawn, trips := 0 } } := by
  have shows : Bolt.reachedAt .withdrawn (s.doorBand d) = true := by rw [opened]; rfl
  rw [setGrant_atDoor d (some g) s]
  simp only [startRelease, beginWithdraw, atDoor_setDoor, atDoor_doorBand, atDoor_door, shows, if_true, stopAtTarget,
    enterReleased_atDoor, enterOpen, atDoor_setGrant, atDoor_now, atDoor_doorSettings]
  rfl

theorem autoRelease_eq {v : RoomId} {i o : DoorId} (inner : s.strongroomDoor v = some i) (outer : s.outerDoor v = some o) :
    autoRelease v s =
      if (s.vests.get v).direction = .outbound ∧ (s.doors.get i).state = .secure ∧ (s.doors.get o).state = .secure ∧
          outerFree (s.grants.get o) = true then s.outerReleased v o
      else s := by
  simp only [autoRelease, inner, outer, Bool.and_eq_true, decide_eq_true_eq, and_assoc]
  by_cases goes : (s.vests.get v).direction = .outbound ∧ (s.doors.get i).state = .secure ∧ (s.doors.get o).state = .secure ∧
      outerFree (s.grants.get o) = true
  · rw [if_pos goes, if_pos goes, dropGrant_eq]
    unfold State.outerReleased
    have kept := grantDropped_ends o .direction s
    have grants := grantDropped_grants o .direction s
    have settings : (s.grantDropped o .direction).doorSettings o = s.doorSettings o := by
      obtain ⟨_, _, same, _⟩ := kept
      rw [same]
      rfl
    have now : (s.grantDropped o .direction).now = s.now := (grantDropped_reach ..).now
    have band := kept.band o
    obtain ⟨doors, _, _⟩ := kept.kept
    dsimp only
    generalize s.grantDropped o .direction = u at *
    have after : ∀ g, State.doorBand (startRelease o (u.setGrant o (some g))) o = s.doorBand o := fun g =>
      ((startRelease_reach ..).ownBand _).trans band
    rw [after]
    by_cases opened : s.doorBand o = .opened
    · rw [if_pos opened, if_pos opened, startRelease_opened (band.trans opened), emptyVestibule_eq, grants, put_put, doors, settings, now]
    · rw [if_neg opened, if_neg opened, startRelease_closed _ _ _ (by rw [band]; exact opened)]
  · rw [if_neg goes, if_neg goes]

end Sys2Proof.Machine


/-! Cancellations in full, and the freeze and the hand-over of a zone that make them (R119, R121, R129, R134, R135, R148, R159). -/

namespace Sys2Proof.Machine

variable {s t u : State}

/-! ## The entry to SECURE and the trip count (R148, R151, R171) -/

theorem releaseTo_passes {d o : DoorId} {holders : List Holder} {p : Purpose} {reader : Reader} (x : Door) (ne : d ≠ o)
    (away : s.doorBand o ≠ .opened) :
    (s.setDoor d x).releaseTo o holders p reader = (s.releaseTo o holders p reader).setDoor d x := by
  have band : (s.setDoor d x).doorBand o = s.doorBand o := rfl
  unfold State.releaseTo
  rw [band, setDoor_other _ _ ne.symm]
  dsimp only
  rw [if_neg away, if_neg away]
  split
  · exact congrArg (fun v => { s with
      grants := put s.grants o (some ⟨holders, p, reader, .released, none, none⟩), doors := v }) (put_comm s.doors _ _ ne)
  · exact congrArg (fun v => { s with
      grants := put s.grants o (some ⟨holders, p, reader, .releasing, none, none⟩), doors := v }) (put_comm s.doors _ _ ne)

theorem outerReleased_passes {d o : DoorId} (v : RoomId) (ne : d ≠ o) : Passes d (State.outerReleased v o) := by
  intro x s
  have band : (s.setDoor d x).doorBand o = s.doorBand o := rfl
  have dropped := grantDropped_passes d o .direction x s
  have after := (grantDropped_ends o .direction s).band o
  unfold State.outerReleased
  rw [band, dropped, setDoor_other _ _ ne.symm]
  dsimp only
  by_cases opened : s.doorBand o = .opened
  · rw [if_pos opened, if_pos opened]
    refine Eq.trans ?_ (vestibuleEmptied_passes d v .vestibuleOut x _)
    refine congrArg (State.vestibuleEmptied v .vestibuleOut) ?_
    exact congrArg (fun w => { s.grantDropped o .direction with grants := put s.grants o none, doors := w }) (put_comm s.doors _ _ ne)
  · rw [if_neg opened, if_neg opened]
    exact releaseTo_passes x ne (by rw [after]; exact opened)

theorem handSecure_strongroom {d : DoorId} {v : RoomId} (rederived : Bool) (role : s.role d = .strongroom v) :
    handSecure d rederived s = autoRelease v s := by
  simp only [handSecure, role]

theorem handSecure_outer {d : DoorId} {v : RoomId} (rederived : Bool) (role : s.role d = .vestibuleOuter v) :
    handSecure d rederived s = if rederived then autoRelease v s else s := by
  simp only [handSecure, role]

theorem handSecure_other {d : DoorId} (rederived : Bool) (role : s.role d = .perimeter ∨ s.role d = .unused) : handSecure d rederived s = s := by
  rcases role with role | role <;> simp only [handSecure, role]

theorem autoRelease_none {v : RoomId} (h : s.strongroomDoor v = none ∨ s.outerDoor v = none) : autoRelease v s = s := by
  unfold autoRelease
  rcases h with h | h
  · rw [h]
  · rw [h]
    cases s.strongroomDoor v <;> rfl

/-- The record of a door that is no outer door stands through the automatic release, which looks at its state alone. -/
theorem autoRelease_setDoor {d : DoorId} {v : RoomId} {x : Door} (inner : ∀ w, s.role d ≠ .vestibuleOuter w)
    (same : x.state = (s.doors.get d).state) : autoRelease v (s.setDoor d x) = (autoRelease v s).setDoor d x := by
  cases i : s.strongroomDoor v with
  | none => rw [autoRelease_none (.inl i), autoRelease_none (s := s.setDoor d x) (.inl i)]
  | some i' =>
    cases o : s.outerDoor v with
    | none => rw [autoRelease_none (.inr o), autoRelease_none (s := s.setDoor d x) (.inr o)]
    | some o' =>
      have ne : d ≠ o' := fun eq => inner v (eq ▸ outerDoor_role o)
      have state : ((s.setDoor d x).doors.get i').state = (s.doors.get i').state := by
        by_cases here : i' = d
        · rw [here, setDoor_door, same]
        · rw [setDoor_other _ _ here]
      rw [autoRelease_eq (s := s.setDoor d x) i o, autoRelease_eq i o, state, setDoor_other _ _ ne.symm]
      have vests : (s.setDoor d x).vests = s.vests := rfl
      have grants : (s.setDoor d x).grants = s.grants := rfl
      rw [vests, grants]
      split
      · exact outerReleased_passes v ne x s
      · rfl

theorem handSecure_setDoor {d : DoorId} {x : Door} (same : x.state = (s.doors.get d).state) :
    handSecure d false (s.setDoor d x) = (handSecure d false s).setDoor d x := by
  have role : (s.setDoor d x).role d = s.role d := rfl
  cases here : s.role d with
  | strongroom v =>
    rw [handSecure_strongroom false (role.trans here), handSecure_strongroom false here]
    exact autoRelease_setDoor (by simp [here]) same
  | vestibuleOuter v =>
    rw [handSecure_outer false (role.trans here), handSecure_outer false here]
    rfl
  | perimeter => rw [handSecure_other false (.inl (role.trans here)), handSecure_other false (.inl here)]
  | unused => rw [handSecure_other false (.inr (role.trans here)), handSecure_other false (.inr here)]

/-- The door's own record stands through the hand-over of its entry to SECURE. -/
theorem handSecure_door (d : DoorId) (s : State) : (handSecure d false s).doors.get d = s.doors.get d := by
  have own := handSecure_setDoor (s := s) (d := d) (x := s.doors.get d) rfl
  rw [setDoor_same] at own
  rw [own]
  exact setDoor_door ..

theorem throwKeepingTrips_away {d : DoorId} (away : s.doorBand d ≠ .bolted) :
    throwKeepingTrips d s = s.setDoor d ((s.doors.get d).throwing .relocking s.now) := by
  unfold throwKeepingTrips
  rw [throwInto_away _ away]
  dsimp only
  rw [setDoor_setDoor, setDoor_door]
  rfl

theorem throwKeepingTrips_bolted {d : DoorId} (band : s.doorBand d = .bolted) :
    throwKeepingTrips d s = handSecure d false ((s.setDoor d (s.doors.get d).shut).securedTold d (s.doors.get d).alarm) := by
  unfold throwKeepingTrips
  rw [throwInto_bolted (by decide) band]
  dsimp only
  rw [handSecure_door, securedTold_door, ← handSecure_setDoor (by rw [securedTold_door]), ← securedTold_setDoor, setDoor_setDoor]
  rfl

/-! ## A cancellation at a door (R129, R134, R148) -/

theorem cancelGrant_moving {d : DoorId} {g : Grant} (why : Reason) (grant : s.grants.get d = some g) (moves : g.stage.waits = false) :
    cancelGrant d why s = doorCancelled d (s.grantDropped d why) := by
  have moving : s.grantMoving d = true := by simp [State.grantMoving, grant, moves]
  simp [cancelGrant, moving, dropGrant_eq]

theorem doorCancelled_cooling {d : DoorId} {retry : Bolt} {dl : Nat} (state : (s.doors.get d).state = .releasing)
    (motion : (s.doors.get d).motion = .cooling retry dl) :
    doorCancelled d s = s.setDoor d { s.doors.get d with state := .relocking, bolt := .thrown, motion := .cooling .thrown dl } := by
  simp only [doorCancelled, state, motion]

theorem doorCancelled_throws {d : DoorId}
    (state : (s.doors.get d).state = .releasing ∧ (∀ retry dl, (s.doors.get d).motion ≠ .cooling retry dl) ∨ (s.doors.get d).state = .released) :
    doorCancelled d s = throwKeepingTrips d s := by
  unfold doorCancelled
  dsimp only
  split
  · next releasing cooling =>
    rcases state with ⟨_, other⟩ | other
    · exact absurd cooling (other _ _)
    · exact absurd (releasing.symm.trans other) (by decide)
  · rfl
  · rfl
  · next notReleasing notReleased _ =>
    rcases state with ⟨other, _⟩ | other
    · exact absurd other notReleasing
    · exact absurd other notReleased

theorem doorCancelled_stays {d : DoorId} (notReleasing : (s.doors.get d).state ≠ .releasing) (notReleased : (s.doors.get d).state ≠ .released) :
    doorCancelled d s = s := by
  unfold doorCancelled
  dsimp only
  split
  · exact absurd ‹_› notReleasing
  · exact absurd ‹_› notReleasing
  · exact absurd ‹_› notReleased
  · rfl

/-! ## What the freeze leaves of the grants (R121, R135, R171) -/

/-- Entry grants before RELEASED may have ended, and exit grants may have come in their place or where there was none. -/
structure EntryEnded (s t : State) : Prop where
  door : ∀ d, t.grants.get d = s.grants.get d ∨
    (∀ g, s.grants.get d = some g → g.purpose = .entry ∧ g.stage ≠ .released) ∧ ∀ g, t.grants.get d = some g → g.purpose = .exit

theorem EntryEnded.of_grants (h : t.grants = s.grants) : EntryEnded s t := ⟨fun d => .inl (by rw [h])⟩

theorem EntryEnded.refl (s : State) : EntryEnded s s := .of_grants rfl

theorem EntryEnded.trans (h : EntryEnded s t) (k : EntryEnded t u) : EntryEnded s u := by
  refine ⟨fun d => ?_⟩
  rcases h.door d with same | ⟨ended, left⟩
  · rcases k.door d with still | ⟨ended, left⟩
    · exact .inl (still.trans same)
    · exact .inr ⟨same ▸ ended, left⟩
  · rcases k.door d with still | ⟨_, left'⟩
    · exact .inr ⟨ended, still ▸ left⟩
    · exact .inr ⟨ended, left'⟩

theorem EntryEnded.foldl {α : Type} {f : State → α → State} (h : ∀ s a, EntryEnded s (f s a)) (l : List α) (s : State) :
    EntryEnded s (l.foldl f s) := by
  induction l generalizing s with
  | nil => exact .refl s
  | cons a rest ih => exact (h s a).trans (ih _)

/-- One door's grant, an entry grant before RELEASED or none, gives way to an exit grant or to none. -/
theorem EntryEnded.of_put {o : DoorId} {x : Option Grant} (grants : t.grants = put s.grants o x)
    (before : ∀ g, s.grants.get o = some g → g.purpose = .entry ∧ g.stage ≠ .released) (after : ∀ g, x = some g → g.purpose = .exit) :
    EntryEnded s t := by
  refine ⟨fun d => ?_⟩
  rw [grants]
  by_cases here : d = o
  · subst here
    rw [put_get_same]
    exact .inr ⟨before, after⟩
  · exact .inl (put_get_other _ _ here)

theorem grantDropped_entryEnded {d : DoorId} (why : Reason) (entry : ∀ g, s.grants.get d = some g → g.purpose = .entry ∧ g.stage ≠ .released) :
    EntryEnded s (s.grantDropped d why) := .of_put (grantDropped_grants ..) entry (by simp)

theorem raise_entryEnded (k : NoticeKind) (o : NoticeObject) (x : Option Detail) (s : State) : EntryEnded s (raise k o x s) := .of_grants rfl

theorem waits_before_released {g : Grant} (waits : g.stage.waits = true) : g.stage ≠ .released := by
  intro released
  rw [released] at waits
  exact absurd waits (by decide)

theorem removalHanded_entryEnded (v : RoomId) (slot : SlotId) (s : State) : EntryEnded s (s.removalHanded v slot) := by
  unfold State.removalHanded
  split
  · exact .refl s
  · next d _ =>
    split
    · next held =>
      refine grantDropped_entryEnded _ fun g grant => ?_
      rw [grant, Option.any_some, Bool.and_eq_true, Bool.and_eq_true, decide_eq_true_eq] at held
      obtain ⟨⟨entry, waits⟩, _⟩ := held
      exact ⟨entry, waits_before_released waits⟩
    · exact .refl s

theorem vestibuleEmptied_entryEnded (v : RoomId) (k : NoticeKind) (s : State) : EntryEnded s (s.vestibuleEmptied v k) := by
  unfold State.vestibuleEmptied
  dsimp only
  generalize emptied : ({ s with
    vests := put s.vests v { direction := .none, occupants := [] }
    locations := (s.vests.get v).occupants.foldl (fun l o => sparsePut .outside l o.slot .outside) s.locations } : State) = w
  have kept : EntryEnded s w := .of_grants (by subst emptied; rfl)
  have handed : EntryEnded w _ := .foldl (fun t (o : Occupant) => removalHanded_entryEnded v o.slot t) (s.vests.get v).occupants w
  exact (kept.trans handed).trans (.foldl (fun t o => raise_entryEnded ..) _ _)

/-- A release whose line does not show OPEN leaves a grant of its purpose at the door. -/
theorem releaseTo_grant {d : DoorId} (holders : List Holder) (p : Purpose) (reader : Reader) (away : s.doorBand d ≠ .opened) :
    ∃ g, (s.releaseTo d holders p reader).grants = put s.grants d (some g) ∧ g.purpose = p := by
  unfold State.releaseTo
  dsimp only
  rw [if_neg away]
  split
  · exact ⟨⟨holders, p, reader, .released, none, none⟩, rfl, rfl⟩
  · exact ⟨⟨holders, p, reader, .releasing, none, none⟩, rfl, rfl⟩

theorem outerReleased_entryEnded {v : RoomId} {o : DoorId} (free : outerFree (s.grants.get o) = true) :
    EntryEnded s (s.outerReleased v o) := by
  have before : ∀ g, s.grants.get o = some g → g.purpose = .entry ∧ g.stage ≠ .released := fun g grant =>
    ⟨((outerFree_iff _).1 free g grant).1, waits_before_released ((outerFree_iff _).1 free g grant).2⟩
  have band := (grantDropped_ends o .direction s).band o
  have dropped := grantDropped_grants o .direction s
  unfold State.outerReleased
  dsimp only
  by_cases opened : s.doorBand o = .opened
  · rw [if_pos opened]
    exact .trans (.of_put (o := o) (x := none) rfl before (by simp)) (vestibuleEmptied_entryEnded v .vestibuleOut _)
  · rw [if_neg opened]
    obtain ⟨g, grants, purpose⟩ := releaseTo_grant ((s.vests.get v).occupants.map (fun p => ⟨p.slot, p.badge⟩)) .exit .inside
      (s := s.grantDropped o .direction) (d := o) (by rw [band]; exact opened)
    refine .of_put (o := o) (x := some g) (by rw [grants, dropped, put_put]) before ?_
    rintro _ ⟨⟩
    exact purpose

theorem autoRelease_entryEnded (v : RoomId) (s : State) : EntryEnded s (autoRelease v s) := by
  cases i : s.strongroomDoor v with
  | none => rw [autoRelease_none (.inl i)]; exact .refl s
  | some _ =>
    cases o : s.outerDoor v with
    | none => rw [autoRelease_none (.inr o)]; exact .refl s
    | some o' =>
      rw [autoRelease_eq i o]
      split
      · next goes => exact outerReleased_entryEnded goes.2.2.2
      · exact .refl s

theorem handSecure_entryEnded (d : DoorId) (rederived : Bool) (s : State) : EntryEnded s (handSecure d rederived s) := by
  unfold handSecure
  split
  · exact autoRelease_entryEnded ..
  · split
    · exact autoRelease_entryEnded ..
    · exact .refl s
  · exact .refl s

theorem securedTold_entryEnded (d : DoorId) (alarm : Bool) (s : State) : EntryEnded s (s.securedTold d alarm) := by
  unfold State.securedTold State.doorNotice
  cases alarm
  · exact .refl s
  · rw [if_pos rfl]
    split <;> exact .of_grants rfl

theorem doorCancelled_entryEnded (d : DoorId) (s : State) : EntryEnded s (doorCancelled d s) := by
  have throws : EntryEnded s (throwKeepingTrips d s) := by
    by_cases band : s.doorBand d = .bolted
    · rw [throwKeepingTrips_bolted band]
      have shut : EntryEnded s (s.setDoor d (s.doors.get d).shut) := .of_grants rfl
      exact (shut.trans (securedTold_entryEnded ..)).trans (handSecure_entryEnded ..)
    · rw [throwKeepingTrips_away band]
      exact .of_grants rfl
  unfold doorCancelled
  dsimp only
  split
  · exact .of_grants rfl
  · exact throws
  · exact throws
  · exact .refl s

theorem cancelGrant_entryEnded {d : DoorId} (why : Reason) (entry : ∀ g, s.grants.get d = some g → g.purpose = .entry ∧ g.stage ≠ .released) :
    EntryEnded s (cancelGrant d why s) := by
  unfold cancelGrant
  rw [dropGrant_eq]
  split
  · exact (grantDropped_entryEnded why entry).trans (doorCancelled_entryEnded ..)
  · exact grantDropped_entryEnded why entry

/-- The door of a cancelled grant holds no entry grant after it. -/
theorem cancelGrant_ended (d : DoorId) (why : Reason) (s : State) : ∀ g, (cancelGrant d why s).grants.get d = some g → g.purpose = .exit := by
  have none : (s.grantDropped d why).grants.get d = none := by rw [grantDropped_grants, put_get_same]
  intro g grant
  unfold cancelGrant at grant
  rw [dropGrant_eq] at grant
  split at grant
  · rcases (doorCancelled_entryEnded d (s.grantDropped d why)).door d with same | ⟨_, left⟩
    · rw [same, none] at grant
      exact absurd grant (by simp)
    · exact left g grant
  · rw [none] at grant
    exact absurd grant (by simp)

end Sys2Proof.Machine


/-! The freeze, the hand-over of a zone, and a cancellation, in the words of the rules (R59, R119, R121, R129, R135, R148, R159). -/

namespace Sys2Proof.Machine

variable {s t : State}

/-! ## FREEZE_SET and FREEZE_CLEAR (R121, R135) -/

/-- What the freeze does at one door. -/
def frozenOut (t : State) (d : DoorId) : State :=
  if (t.grants.get d).any (fun g => g.purpose = .entry && g.stage ≠ .released) then cancelGrant d .frozen t else t

theorem foldl_same {α : Type} {f g : State → α → State} (h : ∀ t a, f t a = g t a) (l : List α) (s : State) :
    l.foldl f s = l.foldl g s := by
  rw [show f = g from funext fun t => funext (h t)]

theorem setFreeze_eq (clear : s.freeze = false) : setFreeze s = (every 20).foldl frozenOut { s with freeze := true } := by
  unfold setFreeze forEach
  rw [clear, if_neg Bool.false_ne_true]
  refine foldl_same (fun t d => ?_) _ _
  unfold frozenOut
  dsimp only
  cases t.grants.get d <;> rfl

theorem setFreeze_set (set : s.freeze = true) : setFreeze s = s := by simp [setFreeze, set]

theorem frozenOut_entryEnded (t : State) (d : DoorId) : EntryEnded t (frozenOut t d) := by
  unfold frozenOut
  split
  · next held =>
    refine cancelGrant_entryEnded _ fun g grant => ?_
    simpa [grant] using held
  · exact .refl t

theorem frozenOut_ended (t : State) (d : DoorId) : ∀ g, (frozenOut t d).grants.get d = some g → g.purpose = .entry → g.stage = .released := by
  intro g grant entry
  unfold frozenOut at grant
  split at grant
  · exact absurd (entry.symm.trans (cancelGrant_ended d .frozen t g grant)) (by decide)
  · next stays =>
    refine Classical.byContradiction fun before => ?_
    exact stays (by simp [grant, entry, before])

/-- Once the freeze has passed the doors of a list, none of them holds an entry grant before RELEASED. -/
theorem foldl_frozenOut (l : List DoorId) (t : State) : EntryEnded t (l.foldl frozenOut t) ∧
    ∀ d ∈ l, ∀ g, (l.foldl frozenOut t).grants.get d = some g → g.purpose = .entry → g.stage = .released := by
  induction l generalizing t with
  | nil => exact ⟨.refl t, by simp⟩
  | cons d rest ih =>
    obtain ⟨ended, gone⟩ := ih (frozenOut t d)
    refine ⟨(frozenOut_entryEnded t d).trans ended, fun e mem g grant entry => ?_⟩
    rcases List.mem_cons.1 mem with rfl | later
    · rcases ended.door e with same | ⟨_, exits⟩
      · exact frozenOut_ended t e g (same ▸ grant) entry
      · exact absurd (entry.symm.trans (exits g grant)) (by decide)
    · exact gone e later g grant entry

theorem exec_freezeSet {tag : Nat} (free : s.free) :
    exec (.freezeSet tag) s = .next ((setFreeze (heard 0x33 tag s)).withReply 0x33 tag .ok .none) := by
  have taken : exec (.freezeSet tag) s = .next (performFreezeSet (heard 0x33 tag s)) := onRequest_free 0x33 tag _ free
  rw [taken]
  exact congrArg _ (performed_eq (setFreeze_band _) (heard_outstanding 0x33 tag s))

/-- The freeze in full: entry grants before RELEASED are gone, and everything else of the grants stands. -/
theorem freezeSet_clears {tag : Nat} (free : s.free) (clear : s.freeze = false) :
    ∃ t, exec (.freezeSet tag) s = .next t ∧ t.freeze = true ∧
      (∀ d g, t.grants.get d = some g → g.purpose = .entry → g.stage = .released ∧ s.grants.get d = some g) ∧
      (∀ d g, s.grants.get d = some g → g.purpose = .exit ∨ g.stage = .released → t.grants.get d = some g) ∧
      t = { s with
        hostPresent := true, freeze := true, grants := t.grants, doors := t.doors, vests := t.vests, locations := t.locations
        link := t.link } := by
  refine ⟨_, exec_freezeSet free, ?_⟩
  have reach := setFreeze_reach (heard 0x33 tag s)
  obtain ⟨ended, gone⟩ := foldl_frozenOut (every 20) { heard 0x33 tag s with freeze := true }
  have folded := setFreeze_eq (s := heard 0x33 tag s) clear
  rw [← folded] at ended gone
  generalize setFreeze (heard 0x33 tag s) = u at *
  refine ⟨reach.freeze, fun d g grant entry => ?_, fun d g grant stands => ?_, ?_⟩
  · refine ⟨gone d (mem_every d) g grant entry, ?_⟩
    rcases ended.door d with same | ⟨_, exits⟩
    · exact same.symm.trans grant
    · exact absurd (entry.symm.trans (exits g grant)) (by decide)
  · rcases ended.door d with same | ⟨entry, _⟩
    · exact same.trans grant
    · obtain ⟨purpose, stage⟩ := entry g grant
      rcases stands with exit | released
      · exact absurd (purpose.symm.trans exit) (by decide)
      · exact absurd released stage
  · obtain ⟨_, _, _, _, _, _, _, rfl⟩ := reach
    rfl

/-! ## The hand-over of a zone (R59, R135, R159) -/

theorem hazardFor_eq (s : State) (z : ZoneId) (badge : Nat) : s.hazardFor z badge = s.zoneRefuses z (s.recordOf badge) := by
  have crew : isCrew (s.recordOf badge) = s.carries badge (fun f => f.emergencyCrew) := by
    unfold State.recordOf State.carries
    cases s.nv.findBadge badge <;> rfl
  unfold State.hazardFor State.zoneRefuses
  rw [crew]
  cases (s.zones.get z).state <;> simp [ZoneState.refusesEntry, ZoneState.refusesAll]

theorem hazardReaches_eq (s : State) (z : ZoneId) (d : DoorId) :
    s.hazardReaches z d = ((s.role d).room = some z && s.hazardous z d) := by
  unfold State.hazardReaches State.hazardous
  simp only [hazardFor_eq]
  cases s.grants.get d <;> rfl

theorem cancelHazard_eq (z : ZoneId) (s : State) : cancelHazard z s =
    (every 20).foldl (fun u d => if u.hazardReaches z d then cancelGrant d .zoneHazard u else u) s := by
  have steps : (fun (u : State) (d : DoorId) => if u.hazardReaches z d then cancelGrant d .zoneHazard u else u) =
      fun u d => if (u.role d).room = some z && u.hazardous z d then cancelGrant d .zoneHazard u else u := by
    funext u d
    rw [hazardReaches_eq]
  rw [steps]
  rfl

/-- A resting closed door whose bolt is not thrown throws it as its zone releases (R159). -/
theorem throwsAtRelease_eq (z : ZoneId) (d : DoorId) (u : State) : (if u.throwsAtRelease z d then beginThrow d u else u) =
    if (u.role d).room = some z ∧ ((u.doors.get d).state = .relocking ∨ (u.doors.get d).state = .insecure) ∧
        (u.doors.get d).motion = .idle ∧ u.doorBand d = .unbolted then
      { u with doors := put u.doors d { u.doors.get d with bolt := .thrown, motion := .moving .thrown (u.now + 3000) } }
    else u := by
  have throws : u.throwsAtRelease z d = true ↔ (u.role d).room = some z ∧
      ((u.doors.get d).state = .relocking ∨ (u.doors.get d).state = .insecure) ∧ (u.doors.get d).motion = .idle ∧
      u.doorBand d = .unbolted := by
    simp [State.throwsAtRelease, and_assoc]
  by_cases goes : u.throwsAtRelease z d = true
  · obtain ⟨_, _, _, band⟩ := throws.1 goes
    rw [if_pos goes, if_pos (throws.1 goes), beginThrow_away (by rw [band]; decide)]
    rfl
  · rw [if_neg goes, if_neg (mt throws.2 goes)]

theorem handZone_release {z : ZoneId} (release : (s.zones.get z).state = .release) : handZone z s =
    (every 20).foldl (fun u d =>
      if (u.role d).room = some z ∧ ((u.doors.get d).state = .relocking ∨ (u.doors.get d).state = .insecure) ∧
          (u.doors.get d).motion = .idle ∧ u.doorBand d = .unbolted then
        { u with doors := put u.doors d { u.doors.get d with bolt := .thrown, motion := .moving .thrown (u.now + 3000) } }
      else u) (cancelHazard z s) := by
  have state : ((cancelHazard z s).zones.get z).state = .release := by rw [(cancelHazard_reach z s).zones, release]
  have steps : (fun (u : State) (d : DoorId) => if u.throwsAtRelease z d then beginThrow d u else u) = _ :=
    funext fun u => funext fun d => throwsAtRelease_eq z d u
  unfold handZone
  dsimp only
  rw [if_pos state]
  exact congrArg (fun f => (every 20).foldl f (cancelHazard z s)) steps

theorem handZone_other {z : ZoneId} (other : (s.zones.get z).state ≠ .release) : handZone z s = cancelHazard z s := by
  unfold handZone
  dsimp only
  rw [if_neg (by rw [(cancelHazard_reach z s).zones]; exact other)]

/-- Settles O33. -/
theorem freezeCancelsEntryGrants : Obligations.FreezeCancelsEntryGrants := by
  refine ⟨fun s tag free => ⟨freezeSet_clears free, fun set => ?_, ?_⟩, fun s clear => ⟨setFreeze_eq clear, fun tag => exec_freezeSet⟩,
    fun s z t same => ?_, fun s d why => ⟨cancelGrant_free why, ?_⟩⟩
  · rw [exec_freezeSet free, setFreeze_set (s := heard 0x33 tag s) set]
  · have taken : exec (.freezeClear tag) s = .next (performFreezeClear (heard 0x34 tag s)) := onRequest_free 0x34 tag _ free
    rw [taken]
    have replied := answer_outstanding (s := { heard 0x34 tag s with freeze := false }) .ok (heard_outstanding 0x34 tag s)
    exact congrArg _ replied
  · rw [← cancelHazard_eq] at same
    subst same
    exact ⟨handZone_other, handZone_release⟩
  · intro g x grant door u dropped
    subst door
    have same : s.grantDropped d why = u := by rw [← dropped]; simp only [State.grantDropped, grant]
    have kept := grantDropped_ends d why s
    rw [same] at kept
    obtain ⟨doors, _, _⟩ := kept.kept
    have band : u.doorBand d = s.doorBand d := kept.band d
    have reach := grantDropped_reach d why s
    rw [same] at reach
    have at_ : u.doors.get d = s.doors.get d := by rw [doors]
    refine ⟨fun stage => ?_, fun stage => ?_⟩
    · rw [cancelGrant_waiting why (grantMoving_waiting grant (by rcases stage with stage | stage | stage <;> rw [stage] <;> rfl)), same]
    · have moving := cancelGrant_moving why grant (by rcases stage with stage | stage <;> rw [stage] <;> rfl)
      rw [same] at moving
      refine ⟨fun retry dl state motion => ?_, fun state => ?_, fun notReleasing notReleased => ?_⟩
      · rw [moving, doorCancelled_cooling (by rw [at_]; exact state) (by rw [at_]; exact motion), State.setDoor, doors]
      · rw [moving, doorCancelled_throws (by rw [at_]; exact state)]
        constructor
        · intro away
          rw [throwKeepingTrips_away (by rw [band]; exact away), at_, State.setDoor, doors, reach.now]
        · intro used bolted
          have ready : u.sup.ready = true := by
            rw [reach.sup]
            exact ready_of_band (d := d) (by rw [bolted]; decide)
          rw [throwKeepingTrips_bolted (band.trans bolted), at_,
            securedTold_used (s := u.setDoor d (s.doors.get d).shut) ready (by
              rw [show (u.setDoor d (s.doors.get d).shut).role d = u.role d from rfl, role_eq_of_nv reach.nv]
              exact used), State.setDoor, doors]
      · rw [moving]
        exact doorCancelled_stays (by rw [at_]; exact notReleasing) (by rw [at_]; exact notReleased)

end Sys2Proof.Machine


/-! Trips, cool-downs, and the deadlines of a door (R134, R142 to R146, R149 to R151). -/

namespace Sys2Proof.Machine

variable {s t u : State}

/-! ## Changes of one door -/

theorem setDoor_over {d : DoorId} {x : Door} (y : Door) (doors : u.doors = put s.doors d x) :
    u.setDoor d y = { u with doors := put s.doors d y } := by
  rw [State.setDoor, doors, put_put]

theorem setAlarm_raiseDoor (k : NoticeKind) (d : DoorId) (det : Option Detail) (x : Door) (s : State) :
    setAlarm d (raiseDoor k d det (s.setDoor d x)) = (s.setDoor d { x with alarm := true }).doorNotice k d det := by
  rw [raiseDoor_eq, doorNotice_setDoor, doorNotice_setDoor]
  unfold setAlarm modDoor
  rw [setDoor_setDoor, setDoor_door]

/-- What one door's commands can change: records of doors and grants, and the link. -/
theorem doorOnly_of_ended {d : DoorId} {x : Door} (h : GrantsEnded (s.setDoor d x) t) :
    t = { s with doors := t.doors, grants := t.grants, link := t.link } := by
  obtain ⟨_, _, rfl, _⟩ := h
  rfl

theorem withdrawFailed_ends (d : DoorId) (s : State) : GrantsEnded s (s.withdrawFailed d) := by
  unfold State.withdrawFailed
  split
  · split
    · exact (grantEnded d s).trans (doorNotice_kept ..)
    · exact .refl s
  · exact .refl s

theorem withdrawFailed_grants (d : DoorId) (s : State) :
    (s.withdrawFailed d).grants = if s.grantMoving d then put s.grants d none else s.grants := by
  have told : ∀ (k : NoticeKind) (x : Option Detail) (u : State), (u.doorNotice k d x).grants = u.grants := by
    intro k x u
    unfold State.doorNotice
    split <;> rfl
  unfold State.withdrawFailed State.grantMoving
  cases s.grants.get d with
  | none => rfl
  | some g => cases stage : g.stage <;> simp [stage, GrantStage.waits, told]

theorem withdrawFailed_now (d : DoorId) (s : State) : (s.withdrawFailed d).now = s.now := by
  obtain ⟨_, _, same, _⟩ := withdrawFailed_ends d s
  rw [same]
  rfl

/-! ## Overcurrent trips (R143) -/

theorem takeTrip_cools {d : DoorId} {target : Bolt} {dl : Nat} (moves : (s.doors.get d).motion = .moving target dl)
    (few : (s.doors.get d).trips < 4) : takeTrip d s =
      s.setDoor d { s.doors.get d with trips := (s.doors.get d).trips + 1, motion := .cooling target (s.now + 2000) } := by
  have below : (s.doors.get d).trips + 1 < Config.tripLimit := Nat.succ_lt_succ few
  simp only [takeTrip, moves]
  rw [if_pos below]
  rfl

theorem takeTrip_latches {d : DoorId} {target : Bolt} {dl : Nat} (moves : (s.doors.get d).motion = .moving target dl)
    (many : 4 ≤ (s.doors.get d).trips) : takeTrip d s =
      State.withdrawFailed d (State.doorNotice .driverLatched d (some (.named (.bolt target))) (s.setDoor d { s.doors.get d with
        trips := (s.doors.get d).trips + 1, latch := true, alarm := true, motion := .idle, state := .driverLatched
        releaseDl := none, heldOpenDl := none })) := by
  have reached : ¬(s.doors.get d).trips + 1 < Config.tripLimit := Nat.not_lt.2 (Nat.succ_le_succ many)
  simp only [takeTrip, moves]
  rw [if_neg reached]
  simp only [latchDrive, enterOverlay, modDoor, failGrant_eq, raiseDoor_eq, setDoor_door, doorNotice_setDoor, setDoor_setDoor]

theorem takeTrip_still {d : DoorId} (still : ∀ target dl, (s.doors.get d).motion ≠ .moving target dl) : takeTrip d s = s := by
  unfold takeTrip
  dsimp only
  split
  · exact absurd ‹_› (still _ _)
  · rfl

/-! ## Cool-downs (R142, R143) -/

theorem exec_coolDownEnd {d : DoorId} {target : Bolt} {dl : Nat} (on : s.powered = true) (cools : (s.doors.get d).motion = .cooling target dl)
    (reached : dl ≤ s.now) : exec (.coolDownEnd d) s = .next (retryMotion d target s) := by
  refine (powered_on on).trans ?_
  simp only [cools, whenDue_some _ reached]

theorem manualMotion_done {d : DoorId} {target : Bolt} (shows : target.reachedAt (s.doorBand d) = true) :
    manualMotion d target s = State.doorNotice .doorDriveDone d (some (.named (.bolt target)))
      (s.setDoor d { s.doors.get d with bolt := target, motion := .idle, trips := 0 }) := by
  unfold manualMotion
  rw [if_pos shows, raiseDoor_eq]
  rfl

theorem manualMotion_begins {d : DoorId} {target : Bolt} (away : target.reachedAt (s.doorBand d) = false) :
    manualMotion d target s = s.setDoor d { s.doors.get d with bolt := target, motion := .moving target (s.now + 3000) } := by
  unfold manualMotion
  rw [if_neg (by rw [away]; decide)]
  rfl

theorem beginThrow_complete {d : DoorId} (band : s.doorBand d = .bolted) (open_ : (s.doors.get d).state ≠ .secure) : beginThrow d s =
    handSecure d false ((s.setDoor d { (s.doors.get d).shut with trips := 0 }).securedTold d (s.doors.get d).alarm) := by
  rw [beginThrow_bolted band, enterSecure_eq]
  simp only [stopAtTarget, setDoor_setDoor, setDoor_door]
  rw [if_neg open_]
  rfl

theorem beginWithdraw_away {d : DoorId} (away : Bolt.reachedAt .withdrawn (s.doorBand d) = false) : beginWithdraw d s =
    s.setDoor d { s.doors.get d with bolt := .withdrawn, motion := .moving .withdrawn (s.now + 3000) } := by
  unfold beginWithdraw
  rw [if_neg (by rw [away]; decide)]
  rfl

theorem atDoor_self {d : DoorId} {g : Grant} (grant : s.grants.get d = some g) : s = s.atDoor d (some g) (s.doors.get d) := by
  have here := (setDoor_same d s).symm.trans (setDoor_atDoor ..)
  rw [grant] at here
  exact here

/-- The end of a withdraw with its grant: RELEASED, or the passage at once where the line shows OPEN (R145, R147). -/
theorem completeRelease_granted {d : DoorId} {g : Grant} (grant : s.grants.get d = some g) :
    (s.doorBand d ≠ .opened → completeRelease d s = s.atDoor d (some { g with stage := .released }) { s.doors.get d with
      state := .released, bolt := .withdrawn, motion := .idle, trips := 0
      releaseDl := some (s.now + (s.doorSettings d).releaseTime * 1000) }) ∧
    (s.doorBand d = .opened → completeRelease d s = settle s.rooms (movePassage d g (s.atDoor d none
      { (s.doors.get d).opening (s.now + (s.doorSettings d).heldOpen * 1000) with bolt := .withdrawn, trips := 0 }))) := by
  have released : enterReleased d (stopAtTarget d .withdrawn s) = s.atDoor d (some { g with stage := .released }) { s.doors.get d with
      state := .released, bolt := .withdrawn, motion := .idle, trips := 0
      releaseDl := some (s.now + (s.doorSettings d).releaseTime * 1000) } := by
    unfold stopAtTarget
    rw [setDoor_atDoor, grant, enterReleased_atDoor]
  unfold completeRelease
  rw [released]
  constructor
  · intro away
    simp [passIfOpen, away]
  · intro opened
    simp [passIfOpen, opened, openPassage, enterOpen, passage_atDoor]
    rfl

theorem retryMotion_withdrawn {d : DoorId} (auto : (s.doors.get d).state ≠ .manual) (shows : Bolt.reachedAt .withdrawn (s.doorBand d) = true) :
    retryMotion d .withdrawn s = completeRelease d s := by
  have began : beginWithdraw d s = enterReleased d (stopAtTarget d .withdrawn s) := if_pos shows
  unfold retryMotion
  split
  · exact absurd ‹_› auto
  · exact absurd ‹Bolt.withdrawn = .thrown› (by decide)
  · rw [began]
    rfl

theorem retryMotion_thrown {d : DoorId} (auto : (s.doors.get d).state ≠ .manual) : retryMotion d .thrown s = beginThrow d s := by
  unfold retryMotion
  split
  · exact absurd ‹_› auto
  · rfl
  · exact absurd ‹Bolt.thrown = .withdrawn› (by decide)

theorem retryMotion_manual {d : DoorId} {target : Bolt} (manual : (s.doors.get d).state = .manual) :
    retryMotion d target s = manualMotion d target s := by
  simp only [retryMotion, manual]

/-- Where the line does not show the target the motion begins again, whatever the door's state. -/
theorem retryMotion_away {d : DoorId} {target : Bolt} (away : target.reachedAt (s.doorBand d) = false) :
    retryMotion d target s = s.setDoor d { s.doors.get d with bolt := target, motion := .moving target (s.now + 3000) } := by
  by_cases manual : (s.doors.get d).state = .manual
  · rw [retryMotion_manual manual, manualMotion_begins away]
  · cases target with
    | thrown =>
      rw [retryMotion_thrown manual, beginThrow_away]
      exact fun band => absurd ((reachedAt_thrown _).2 band) (by rw [away]; decide)
    | withdrawn =>
      have closed : s.doorBand d ≠ .opened := fun opened => by simp [opened, Bolt.reachedAt] at away
      have began : retryMotion d .withdrawn s = passIfOpen d (beginWithdraw d s) := by
        unfold retryMotion
        split
        · exact absurd ‹_› manual
        · exact absurd ‹Bolt.withdrawn = .thrown› (by decide)
        · rfl
      rw [began, beginWithdraw_away away]
      simp [passIfOpen, setDoor_doorBand, closed]

/-! ## The motion timeout (R144) -/

/-- The motion has failed: DOOR_FAULT with the alarm. -/
def State.motionFailed (d : DoorId) (target : Bolt) (s : State) : State :=
  State.doorNotice .doorFault d (some (.named (if target = .withdrawn then .withdrawTimeout else .throwTimeout)))
    (s.setDoor d { s.doors.get d with motion := .idle, alarm := true })

theorem motionFailed_door (d : DoorId) (target : Bolt) (s : State) :
    (s.motionFailed d target).doors = put s.doors d { s.doors.get d with motion := .idle, alarm := true } := doorNotice_doors ..

theorem motionFailed_ends (d : DoorId) (target : Bolt) (s : State) :
    GrantsEnded (s.setDoor d { s.doors.get d with motion := .idle, alarm := true }) (s.motionFailed d target) := doorNotice_kept ..

theorem motionFailed_eq (d : DoorId) (target : Bolt) (s : State) :
    setAlarm d (raiseDoor .doorFault d (some (.named (if target = .withdrawn then .withdrawTimeout else .throwTimeout)))
      (stopMotion d s)) = s.motionFailed d target := setAlarm_raiseDoor ..

theorem takeTimeout_manual {d : DoorId} (target : Bolt) (manual : (s.doors.get d).state = .manual) :
    takeTimeout d target s = s.motionFailed d target := by
  simp only [takeTimeout, motionFailed_eq, manual]

theorem takeTimeout_withdrawn {d : DoorId} (auto : (s.doors.get d).state ≠ .manual) :
    takeTimeout d .withdrawn s = throwInto .relocking d ((s.motionFailed d .withdrawn).withdrawFailed d) := by
  rw [← failGrant_eq]
  unfold takeTimeout
  dsimp only
  rw [motionFailed_eq]
  split
  · exact absurd ‹_› auto
  · rfl
  · exact absurd ‹Bolt.withdrawn = .thrown› (by decide)

theorem takeTimeout_thrown {d : DoorId} (auto : (s.doors.get d).state ≠ .manual) :
    takeTimeout d .thrown s =
      (s.motionFailed d .thrown).setDoor d { s.doors.get d with state := .insecure, motion := .idle, alarm := true } := by
  have door : (s.motionFailed d .thrown).doors.get d = { s.doors.get d with motion := .idle, alarm := true } := by
    rw [motionFailed_door, put_get_same]
  unfold takeTimeout
  dsimp only
  rw [motionFailed_eq]
  split
  · exact absurd ‹_› auto
  · exact absurd ‹Bolt.thrown = .withdrawn› (by decide)
  · unfold modDoor
    rw [door]

theorem exec_motionTimeout {d : DoorId} {target : Bolt} {dl : Nat} (on : s.powered = true) (moves : (s.doors.get d).motion = .moving target dl)
    (reached : dl ≤ s.now) : exec (.motionTimeout d) s = .next (takeTimeout d target s) := by
  refine (powered_on on).trans ?_
  simp only [moves, whenDue_some _ reached]

/-- A failed withdraw whose line does not show the bolt thrown: the door relocks. -/
theorem takeTimeout_relocks {d : DoorId} (auto : (s.doors.get d).state ≠ .manual) (away : s.doorBand d ≠ .bolted) :
    takeTimeout d .withdrawn s = { (s.motionFailed d .withdrawn).withdrawFailed d with
      doors := put s.doors d { (s.doors.get d).throwing .relocking s.now with alarm := true } } := by
  have kept := (motionFailed_ends d .withdrawn s).trans (withdrawFailed_ends d _)
  rw [takeTimeout_withdrawn auto]
  generalize (s.motionFailed d .withdrawn).withdrawFailed d = w at kept ⊢
  have doors : w.doors = put s.doors d { s.doors.get d with motion := .idle, alarm := true } := kept.kept.1
  have now : w.now = s.now := by
    obtain ⟨_, _, rfl, _⟩ := kept
    rfl
  rw [throwInto_away _ (by rw [kept.band]; exact away), setDoor_over _ doors, doors, put_get_same, now]
  rfl

/-- A failed withdraw whose line shows the bolt thrown: the door is SECURE. -/
theorem takeTimeout_secures {d : DoorId} (auto : (s.doors.get d).state ≠ .manual) (band : s.doorBand d = .bolted) :
    takeTimeout d .withdrawn s = handSecure d false (State.doorNotice .doorSecured d none
      { (s.motionFailed d .withdrawn).withdrawFailed d with doors := put s.doors d { (s.doors.get d).shut with trips := 0 } }) := by
  have kept := (motionFailed_ends d .withdrawn s).trans (withdrawFailed_ends d _)
  rw [takeTimeout_withdrawn auto]
  generalize (s.motionFailed d .withdrawn).withdrawFailed d = w at kept ⊢
  have doors : w.doors = put s.doors d { s.doors.get d with motion := .idle, alarm := true } := kept.kept.1
  rw [throwInto_bolted (by decide) (by rw [kept.band]; exact band), setDoor_over _ doors, doors, put_get_same]
  rfl

theorem motionFailed_grants (d : DoorId) (target : Bolt) (s : State) : (s.motionFailed d target).grants = s.grants := by
  unfold State.motionFailed State.doorNotice
  split <;> rfl

theorem motionFailed_moving (d : DoorId) (target : Bolt) (s : State) : (s.motionFailed d target).grantMoving d = s.grantMoving d := by
  simp only [State.grantMoving, motionFailed_grants]

theorem takeTimeout_doorOnly {d : DoorId} (target : Bolt) (away : s.doorBand d ≠ .bolted) : takeTimeout d target s =
    { s with doors := (takeTimeout d target s).doors, grants := (takeTimeout d target s).grants, link := (takeTimeout d target s).link } := by
  by_cases manual : (s.doors.get d).state = .manual
  · rw [takeTimeout_manual target manual]
    exact doorOnly_of_ended (motionFailed_ends ..)
  · cases target with
    | thrown =>
      obtain ⟨_, _, same, _⟩ := motionFailed_ends d .thrown s
      rw [takeTimeout_thrown manual, same]
      rfl
    | withdrawn =>
      obtain ⟨_, _, same, _⟩ := (motionFailed_ends d .withdrawn s).trans (withdrawFailed_ends d _)
      rw [takeTimeout_relocks manual away, same]
      rfl

/-! ## The release deadline and the held-open deadline (R146, R149) -/

/-- The grant of a door has expired unused (R146). -/
def State.grantExpired (d : DoorId) (s : State) : State :=
  match s.grants.get d with
  | some g => State.doorNotice .grantExpired d (some (.badge g.firstBadge)) { s with grants := put s.grants d none }
  | none => s

theorem grantExpired_ends (d : DoorId) (s : State) : GrantsEnded s (s.grantExpired d) := by
  unfold State.grantExpired
  split
  · exact (grantEnded d s).trans (doorNotice_kept ..)
  · exact .refl s

theorem grantExpired_grants (d : DoorId) (s : State) : (s.grantExpired d).grants = put s.grants d none := by
  unfold State.grantExpired
  cases grant : s.grants.get d with
  | none => exact ((congrArg (put s.grants d) grant.symm).trans (put_same ..)).symm
  | some g =>
    dsimp only
    unfold State.doorNotice
    split <;> rfl

theorem expireRelease_eq (d : DoorId) (s : State) : expireRelease d s = throwInto .relocking d (s.grantExpired d) := by
  unfold expireRelease State.grantExpired
  cases s.grants.get d with
  | none => rfl
  | some g =>
    dsimp only
    rw [raiseDoor_eq]
    rfl

theorem expireRelease_away {d : DoorId} (away : s.doorBand d ≠ .bolted) :
    expireRelease d s = { s.grantExpired d with doors := put s.doors d ((s.doors.get d).throwing .relocking s.now) } := by
  have kept := grantExpired_ends d s
  rw [expireRelease_eq]
  generalize s.grantExpired d = w at kept ⊢
  have now : w.now = s.now := by
    obtain ⟨_, _, rfl, _⟩ := kept
    rfl
  rw [throwInto_away _ (by rw [kept.band]; exact away), State.setDoor, kept.kept.1, now]

theorem expireRelease_bolted {d : DoorId} (band : s.doorBand d = .bolted) :
    expireRelease d s = handSecure d false (State.securedTold d (s.doors.get d).alarm
      { s.grantExpired d with doors := put s.doors d { (s.doors.get d).shut with trips := 0 } }) := by
  have kept := grantExpired_ends d s
  rw [expireRelease_eq]
  generalize s.grantExpired d = w at kept ⊢
  rw [throwInto_bolted (by decide) (by rw [kept.band]; exact band), State.setDoor, kept.kept.1]

theorem exec_releaseDeadline {d : DoorId} {dl : Nat} (on : s.powered = true) (released : (s.doors.get d).state = .released)
    (deadline : (s.doors.get d).releaseDl = some dl) (reached : dl ≤ s.now) : exec (.releaseDeadline d) s = .next (expireRelease d s) := by
  refine (powered_on on).trans ?_
  rw [if_pos released, deadline, whenDue_some _ reached]

theorem exec_heldOpenDeadline {d : DoorId} {dl : Nat} (on : s.powered = true) (opened : (s.doors.get d).state = .opened)
    (deadline : (s.doors.get d).heldOpenDl = some dl) (reached : dl ≤ s.now) :
    exec (.heldOpenDeadline d) s = .next (State.doorNotice .doorHeldOpen d none
      (s.setDoor d { s.doors.get d with heldOpenDl := none, alarm := true })) := by
  refine (powered_on on).trans ?_
  rw [if_pos opened, deadline, whenDue_some _ reached]
  exact congrArg _ (setAlarm_raiseDoor ..)

/-- Settles O36. -/
theorem doorMotionsTripTimeOutAndRelock : Obligations.DoorMotionsTripTimeOutAndRelock := by
  refine ⟨?_, ?_, ?_, ?_, ?_, ?_⟩
  · intro s d x on door
    subst door
    have taken : exec (.overcurrentTrip d) s = .next (takeTrip d s) := powered_on on
    rw [taken]
    refine ⟨fun target dl moves few => congrArg _ (takeTrip_cools moves few), fun target dl moves many => ⟨_, rfl, ?_⟩,
      fun still => congrArg _ (takeTrip_still still)⟩
    rw [takeTrip_latches moves many]
    generalize latched : State.doorNotice .driverLatched d (some (.named (.bolt target))) (s.setDoor d _) = u
    have kept : GrantsEnded (s.setDoor d _) u := latched ▸ doorNotice_kept ..
    have grants : u.grants = s.grants := by
      subst latched
      unfold State.doorNotice
      split <;> rfl
    have moving : u.grantMoving d = s.grantMoving d := by simp only [State.grantMoving, grants]
    have ended := kept.trans (withdrawFailed_ends d u)
    exact ⟨ended.kept.1, by rw [withdrawFailed_grants, moving, grants], doorOnly_of_ended ended⟩
  · intro s d target dl on cools reached away
    rw [exec_coolDownEnd on cools reached, retryMotion_away away]
    rfl
  · intro s d x target dl on door moves reached away
    subst door
    refine ⟨_, exec_motionTimeout on moves reached, ?_, ?_, ?_, takeTimeout_doorOnly target away⟩
    · rintro rfl state
      rw [takeTimeout_relocks (by rw [state]; decide) away]
      exact ⟨rfl, (withdrawFailed_grants ..).trans (by rw [motionFailed_moving, motionFailed_grants])⟩
    · rintro rfl state
      rw [takeTimeout_thrown (by rcases state with state | state <;> rw [state] <;> decide), setDoor_over _ (motionFailed_door ..)]
      exact ⟨rfl, motionFailed_grants ..⟩
    · intro manual
      rw [takeTimeout_manual target manual]
      exact ⟨motionFailed_door .., motionFailed_grants ..⟩
  · intro s d dl on
    refine ⟨fun released deadline reached away => ⟨_, exec_releaseDeadline on released deadline reached, ?_⟩,
      fun opened deadline reached => ⟨_, exec_heldOpenDeadline on opened deadline reached, doorNotice_doors .., ?_⟩⟩
    · rw [expireRelease_away away]
      refine ⟨grantExpired_grants d s, rfl, ?_⟩
      obtain ⟨_, _, same, _⟩ := grantExpired_ends d s
      rw [same]
    · unfold State.doorNotice
      split <;> rfl
  · intro s d x target dl on door
    subst door
    refine ⟨fun moves many => ?_, fun moves reached u failed => ?_, fun cools reached shows => ⟨fun manual => ?_, ?_, ?_⟩⟩
    · exact (powered_on on).trans (congrArg _ (takeTrip_latches moves many))
    · have same : s.motionFailed d target = u := failed
      subst same
      rw [exec_motionTimeout on moves reached]
      refine ⟨fun manual => congrArg _ (takeTimeout_manual target manual), ?_, ?_⟩
      · rintro rfl state
        rw [takeTimeout_thrown (by rcases state with state | state <;> rw [state] <;> decide)]
        exact congrArg _ (setDoor_over _ (motionFailed_door ..))
      · rintro rfl state w rfl
        have auto : (s.doors.get d).state ≠ .manual := by rw [state]; decide
        exact ⟨fun away => congrArg _ (takeTimeout_relocks auto away), fun band => congrArg _ (takeTimeout_secures auto band)⟩
    · rw [exec_coolDownEnd on cools reached, retryMotion_manual manual, manualMotion_done shows]
      rfl
    · rintro rfl state
      have auto : (s.doors.get d).state ≠ .manual := by rcases state with state | state <;> rw [state] <;> decide
      have open_ : (s.doors.get d).state ≠ .secure := by rcases state with state | state <;> rw [state] <;> decide
      rw [exec_coolDownEnd on cools reached, retryMotion_thrown auto, beginThrow_complete ((reachedAt_thrown _).1 shows) open_]
      rfl
    · rintro g rfl state grant
      have auto : (s.doors.get d).state ≠ .manual := by rw [state]; decide
      obtain ⟨closed, opened⟩ := completeRelease_granted grant
      rw [exec_coolDownEnd on cools reached, retryMotion_withdrawn auto shows]
      exact ⟨fun away => congrArg _ (closed away), fun band => congrArg _ (opened band)⟩
  · intro s d x dl on door reached
    subst door
    refine ⟨fun u released deadline expired => ?_, fun opened deadline => ?_⟩
    · have same : s.grantExpired d = u := expired
      subst same
      rw [exec_releaseDeadline on released deadline reached]
      exact ⟨fun away => congrArg _ (expireRelease_away away), fun band => congrArg _ (expireRelease_bolted band)⟩
    · exact exec_heldOpenDeadline on opened deadline reached

end Sys2Proof.Machine


/-! The re-derivation of a door, and the requests that set its mode, drive it and service it (R140 to R142, R155 to R157). -/

namespace Sys2Proof.Machine

variable {s t u : State}

/-! ## Re-derivation (R140, R141, R151) -/

/-- A door whose motion and timers have been dropped. -/
def Door.atRest (x : Door) : Door := { x with motion := .idle, releaseDl := none, heldOpenDl := none }

/-- A door re-derived under an overlay follows its line in bolt and egress flag. -/
def Door.overlaid (st : DoorState) (b : Band) (x : Door) : Door :=
  { x.atRest with
    state := st
    bolt := if b = .opened ∨ b = .egress ∧ x.position = some .opened then x.bolt else .thrown
    egress := if b = .bolted then false else if b = .egress ∧ x.position ≠ some .opened then true else x.egress }

/-- The bands by which a line says where bolt and leaf are. -/
theorem shown_of_not_hidden {b : Band} (shows : b = .bolted ∨ b = .unbolted ∨ b = .opened ∨ b = .egress) : hidesDoor b = false := by
  rcases shows with rfl | rfl | rfl | rfl <;> rfl

theorem rederive_hidden {d : DoorId}
    (hides : s.doorBand d = .unknown ∨ s.doorBand d = .short ∨ s.doorBand d = .openLine ∨ s.doorBand d = .unclassified) :
    rederive d s = s.setDoor d { (s.doors.get d).atRest with state := .lineFault } := by
  unfold rederive
  rcases hides with band | band | band | band <;> rw [band] <;> rfl

/-- The overlay over an automatic state, where the line shows something. -/
theorem overlayOf_shown {b : Band} {x : Door} (shows : b = .bolted ∨ b = .unbolted ∨ b = .opened ∨ b = .egress)
    (standing : x.latch = true ∨ x.mode = .manual) : overlayOf b x.atRest = some (if x.latch then .driverLatched else .manual) := by
  have latch : x.atRest.latch = x.latch := rfl
  have mode : x.atRest.mode = x.mode := rfl
  unfold overlayOf
  rw [shown_of_not_hidden shows, latch, mode, if_neg Bool.false_ne_true]
  cases latched : x.latch
  · have manual : x.mode = .manual := standing.resolve_left (by rw [latched]; decide)
    simp [manual]
  · rfl

theorem rederive_overlaid {d : DoorId} (standing : (s.doors.get d).latch = true ∨ (s.doors.get d).mode = .manual)
    (shows : s.doorBand d = .bolted ∨ s.doorBand d = .unbolted ∨ s.doorBand d = .opened ∨ s.doorBand d = .egress) :
    rederive d s = s.setDoor d
      ((s.doors.get d).overlaid (if (s.doors.get d).latch then .driverLatched else .manual) (s.doorBand d)) := by
  have overlay := overlayOf_shown (x := s.doors.get d) shows standing
  unfold Door.atRest at overlay
  unfold rederive
  dsimp only
  rw [overlay]
  dsimp only
  rcases shows with band | band | band | band <;> rw [band] <;> simp [Door.overlaid, Door.atRest]
  split <;> simp_all

theorem overlayOf_none {b : Band} {x : Door} (shows : b = .bolted ∨ b = .unbolted ∨ b = .opened ∨ b = .egress) (latch : x.latch = false)
    (auto : x.mode = .automatic) : overlayOf b x.atRest = none := by
  have latch' : x.atRest.latch = false := latch
  have mode' : x.atRest.mode = .automatic := auto
  unfold overlayOf
  rw [shown_of_not_hidden shows, latch', mode']
  rfl

section Automatic

variable {d : DoorId} (latch : (s.doors.get d).latch = false) (auto : (s.doors.get d).mode = .automatic)

include latch auto

theorem rederive_bolted (band : s.doorBand d = .bolted) : rederive d s =
    (if (s.doors.get d).state = .secure then id else handSecure d true)
      ((s.setDoor d (s.doors.get d).shut).securedTold d (s.doors.get d).alarm) := by
  have overlay := overlayOf_none (b := s.doorBand d) (.inl band) latch auto
  unfold Door.atRest at overlay
  unfold rederive
  dsimp only
  rw [overlay, band]
  dsimp only
  rw [enterSecure_eq, setDoor_setDoor, setDoor_door]
  rfl

theorem rederive_unbolted (band : s.doorBand d = .unbolted) : rederive d s = s.setDoor d ((s.doors.get d).throwing .relocking s.now) := by
  have overlay := overlayOf_none (b := s.doorBand d) (.inr (.inl band)) latch auto
  unfold Door.atRest at overlay
  unfold rederive
  dsimp only
  rw [overlay, band]
  dsimp only
  rw [throwInto_away _ (by rw [setDoor_doorBand, band]; decide), setDoor_setDoor, setDoor_door]
  rfl

omit latch auto in
theorem enterOpen_setDoor (x : Door) :
    enterOpen d (s.setDoor d x) = s.setDoor d (x.opening (s.now + (s.doorSettings d).heldOpen * 1000)) := by
  unfold enterOpen
  rw [setDoor_setDoor, setDoor_door]
  rfl

theorem rederive_opened (band : s.doorBand d = .opened) :
    rederive d s = s.setDoor d ((s.doors.get d).opening (s.now + (s.doorSettings d).heldOpen * 1000)) := by
  have overlay := overlayOf_none (b := s.doorBand d) (.inr (.inr (.inl band))) latch auto
  unfold Door.atRest at overlay
  unfold rederive
  dsimp only
  rw [overlay, band]
  dsimp only
  rw [enterOpen_setDoor]
  rfl

theorem rederive_egress (band : s.doorBand d = .egress) : rederive d s = s.setDoor d
    (if (s.doors.get d).position = some .opened then (s.doors.get d).opening (s.now + (s.doorSettings d).heldOpen * 1000)
      else { (s.doors.get d).atRest with state := .relocking, bolt := .thrown, egress := true }) := by
  have overlay := overlayOf_none (b := s.doorBand d) (.inr (.inr (.inr band))) latch auto
  unfold Door.atRest at overlay
  unfold rederive
  dsimp only
  rw [overlay, band]
  dsimp only
  split
  · rw [enterOpen_setDoor]
    rfl
  · rfl

end Automatic

/-! ## DOOR_MODE (R155) -/

theorem exec_doorMode {tag code : Nat} {d : DoorId} {m : DoorMode} (free : s.free) (named : doorModeOf code = some m) :
    exec (.doorMode tag (number d) code) s = .next
      (if s.role d = .unused ∨ m = .manual ∧ s.grants.get d ≠ none then (heard 0x48 tag s).withReply 0x48 tag .badState .none
      else (setDoorMode d m (heard 0x48 tag s)).withReply 0x48 tag .ok .none) := by
  have taken : exec (.doorMode tag (number d) code) s = .next (performDoorMode (number d) code (heard 0x48 tag s)) :=
    onRequest_free 0x48 tag _ free
  have refused : ((heard 0x48 tag s).role d = .unused || (m = .manual && ((heard 0x48 tag s).grants.get d).isSome)) = true ↔
      s.role d = .unused ∨ m = .manual ∧ s.grants.get d ≠ none := by
    rw [Bool.or_eq_true, decide_eq_true_eq, Bool.and_eq_true, decide_eq_true_eq, Option.isSome_iff_ne_none]
    rfl
  have reach : ∀ u, BandOnly u (setDoorMode d m u) := by
    intro u
    unfold setDoorMode
    split
    · exact (AccessOnly.refl u).band
    · cases m
      · exact ((modDoor_reach ..).trans (rederive_reach ..)).band
      · refine AccessOnly.band ?_
        unfold setManual
        dsimp only
        split
        · exact modDoor_reach ..
        · exact (modDoor_reach ..).trans (enterOverlay_reach ..)
  rw [taken]
  simp only [performDoorMode, checkDoorMode, fromOne_number, named, withObject_some]
  by_cases bad : s.role d = .unused ∨ m = .manual ∧ s.grants.get d ≠ none
  · rw [if_pos (refused.2 bad), if_pos bad]
    exact congrArg _ (answer_heard ..)
  · rw [if_neg (mt refused.1 bad), if_neg bad]
    exact congrArg _ (performed_eq (reach _) (heard_outstanding 0x48 tag s))

theorem setDoorMode_same {d : DoorId} {m : DoorMode} (same : (s.doors.get d).mode = m) : setDoorMode d m s = s := if_pos same

theorem setDoorMode_automatic {d : DoorId} (manual : (s.doors.get d).mode = .manual) :
    setDoorMode d .automatic s = rederive d (s.setDoor d { s.doors.get d with mode := .automatic }) := by
  unfold setDoorMode
  rw [if_neg (by rw [manual]; decide)]
  rfl

/-- An automatic state without a grant passes into MANUAL. -/
theorem setDoorMode_manual {d : DoorId} (auto : (s.doors.get d).mode = .automatic) (free : s.grants.get d = none) :
    setDoorMode d .manual s = s.setDoor d
      (if (s.doors.get d).state.overlay then { s.doors.get d with mode := .manual }
      else { (s.doors.get d).atRest with mode := .manual, state := .manual }) := by
  have held : ∀ x : Door, failGrant d (s.setDoor d x) = s.setDoor d x := by
    intro x
    have free' : (s.setDoor d x).grants.get d = none := free
    simp only [failGrant, free']
  unfold setDoorMode
  rw [if_neg (by rw [auto]; decide)]
  unfold setManual modDoor enterOverlay
  dsimp only
  rw [setDoor_door]
  split
  · rfl
  · rw [setDoor_setDoor, held]
    rfl

/-! ## DOOR_SERVICE (R157) -/

theorem exec_doorService {tag : Nat} {d : DoorId} (free : s.free) : exec (.doorService tag (number d)) s = .next
    (if s.role d = .unused ∨ s.grantMoving d = true then (heard 0x4A tag s).withReply 0x4A tag .badState .none
    else (rederive d ((heard 0x4A tag s).setDoor d { s.doors.get d with latch := false, trips := 0 })).withReply 0x4A tag .ok .none) := by
  have taken : exec (.doorService tag (number d)) s = .next (performDoorService (number d) (heard 0x4A tag s)) :=
    onRequest_free 0x4A tag _ free
  have refused : ((heard 0x4A tag s).role d = .unused || (heard 0x4A tag s).grantMoving d) = true ↔
      s.role d = .unused ∨ s.grantMoving d = true := by
    rw [Bool.or_eq_true, decide_eq_true_eq]
    rfl
  rw [taken]
  simp only [performDoorService, fromOne_number, withObject_some]
  by_cases bad : s.role d = .unused ∨ s.grantMoving d = true
  · rw [if_pos (refused.2 bad), if_pos bad]
    exact congrArg _ (answer_heard ..)
  · rw [if_neg (mt refused.1 bad), if_neg bad]
    exact congrArg _ (performed_eq (((modDoor_reach ..).trans (rederive_reach ..)).band) (heard_outstanding 0x4A tag s))

theorem grantMoving_false_iff {d : DoorId} :
    s.grantMoving d = false ↔ ∀ g, s.grants.get d = some g → g.stage ≠ .releasing ∧ g.stage ≠ .released := by
  unfold State.grantMoving
  cases s.grants.get d with
  | none => simp
  | some g => cases stage : g.stage <;> simp [GrantStage.waits, stage]

/-! ## DOOR_DRIVE (R156) -/

theorem exec_doorDrive {tag code : Nat} {d : DoorId} {target : Bolt} (free : s.free) (named : boltOf code = some target) :
    exec (.doorDrive tag (number d) code) s = .next
      (if s.drivable d = false then (heard 0x49 tag s).withReply 0x49 tag .badState .none
      else if target = .withdrawn ∧ s.driveHazard d = true then (heard 0x49 tag s).withReply 0x49 tag .zoneHazard .none
      else if target = .withdrawn ∧ s.driveInterlock d = true then (heard 0x49 tag s).withReply 0x49 tag .interlock .none
      else (manualMotion d target (heard 0x49 tag s)).withReply 0x49 tag .ok .none) := by
  have taken : exec (.doorDrive tag (number d) code) s = .next (performDoorDrive (number d) code (heard 0x49 tag s)) :=
    onRequest_free 0x49 tag _ free
  have drivable : (heard 0x49 tag s).drivable d = s.drivable d := rfl
  have hazard : (heard 0x49 tag s).driveHazard d = s.driveHazard d := rfl
  have interlock : (heard 0x49 tag s).driveInterlock d = s.driveInterlock d := rfl
  have moved := performed_eq (f := manualMotion d target) (manualMotion_reach d target (heard 0x49 tag s)).band (heard_outstanding 0x49 tag s)
  rw [taken]
  simp only [performDoorDrive, checkDoorDrive, fromOne_number, named, withObject_some, drivable, hazard, interlock, Bool.not_eq_true',
    Bool.and_eq_true, decide_eq_true_eq, moved]
  split
  · exact congrArg _ (answer_heard ..)
  · split
    · exact congrArg _ (answer_heard ..)
    · split
      · exact congrArg _ (answer_heard ..)
      · rfl

theorem driveHazard_iff (s : State) (d : DoorId) :
    s.driveHazard d = true ↔ ∃ v, (s.role d).room = some v ∧ (s.zones.get v).state.refusesAll = true := by
  unfold State.driveHazard
  cases (s.role d).room <;> simp

theorem driveInterlock_iff (s : State) (d : DoorId) : s.driveInterlock d = true ↔ ∃ e, s.otherDoor d = some e ∧ ¬s.countsShut e := by
  unfold State.driveInterlock
  cases s.otherDoor d with
  | none => simp
  | some e =>
    have shut : s.doorShut e = true ↔ s.countsShut e := by simp [State.doorShut, State.countsShut, and_assoc]
    rw [Bool.not_eq_true', Bool.eq_false_iff, Ne, shut]
    exact ⟨fun open_ => ⟨e, rfl, open_⟩, fun ⟨_, same, open_⟩ => Option.some.inj same ▸ open_⟩

theorem otherDoor_iff (s : State) (d e : DoorId) : s.otherDoor d = some e ↔
    ∃ v, s.role d = .vestibuleOuter v ∧ s.strongroomDoor v = some e ∨ s.role d = .strongroom v ∧ s.outerDoor v = some e := by
  unfold State.otherDoor
  cases s.role d <;> simp

/-- A withdraw that zone and vestibule allow. -/
theorem drive_allowed {d : DoorId}
    (allowed : (∃ v, (s.zones.get v).state.refusesAll = false ∧
        ((∃ e, s.countsShut e ∧
          (s.role d = .vestibuleOuter v ∧ s.strongroomDoor v = some e ∨ s.role d = .strongroom v ∧ s.outerDoor v = some e)) ∨
        s.role d = .strongroom v ∧ s.hasVestibule v = false)) ∨ s.role d = .perimeter) :
    s.role d ≠ .unused ∧ ¬s.driveHazard d = true ∧ ¬s.driveInterlock d = true := by
  rcases allowed with ⟨v, safe, ⟨e, shut, ⟨role, other⟩ | ⟨role, other⟩⟩ | ⟨role, none⟩⟩ | role
  · refine ⟨by rw [role]; simp, by simp [State.driveHazard, role, Role.room, safe], fun locked => ?_⟩
    obtain ⟨e', here, open_⟩ := (driveInterlock_iff s d).1 locked
    have same : s.otherDoor d = some e := (otherDoor_iff ..).2 ⟨v, .inl ⟨role, other⟩⟩
    cases here.symm.trans same
    exact open_ shut
  · refine ⟨by rw [role]; simp, by simp [State.driveHazard, role, Role.room, safe], fun locked => ?_⟩
    obtain ⟨e', here, open_⟩ := (driveInterlock_iff s d).1 locked
    have same : s.otherDoor d = some e := (otherDoor_iff ..).2 ⟨v, .inr ⟨role, other⟩⟩
    cases here.symm.trans same
    exact open_ shut
  · have outer : s.outerDoor v = Option.none := by simpa [State.hasVestibule] using none
    exact ⟨by rw [role]; simp, by simp [State.driveHazard, role, Role.room, safe],
      by simp [State.driveInterlock, State.otherDoor, role, outer]⟩
  · exact ⟨by rw [role]; simp, by simp [State.driveHazard, role, Role.room], by simp [State.driveInterlock, State.otherDoor, role]⟩

theorem drivable_manual {d : DoorId} (mode : (s.doors.get d).mode = .manual) (state : (s.doors.get d).state = .manual) :
    ¬s.drivable d = false := by
  simp [State.drivable, mode, state]

/-- Settles O37. -/
theorem doorRequestsModeDriveService : Obligations.DoorRequestsModeDriveService := by
  refine ⟨?_, ?_, ?_, ?_⟩
  · intro s tag d free used
    refine ⟨fun unheld auto plain => ?_, fun g grant => ?_, fun manual latch band => ?_⟩
    · rw [exec_doorMode free (m := .manual) rfl, if_neg (by simp [used, unheld]),
        setDoorMode_manual (s := heard 0x48 tag s) auto unheld]
      have plain' : ((heard 0x48 tag s).doors.get d).state.overlay = false := plain
      rw [plain']
      rfl
    · rw [exec_doorMode free (m := .manual) rfl, if_pos (.inr ⟨rfl, by simp [grant]⟩)]
    · rw [exec_doorMode free (m := .automatic) rfl, if_neg (by simp [used]), setDoorMode_automatic (s := heard 0x48 tag s) manual,
        rederive_unbolted (by rw [setDoor_door]; exact latch) (by rw [setDoor_door]) (by exact band), setDoor_setDoor, setDoor_door]
      rfl
  · intro s tag d free
    refine ⟨fun fixed b code => ?_, fun mode state => ?_⟩
    · have undrivable : s.drivable d = false := by
        rcases fixed with mode | state | state
        · simp [State.drivable, mode]
        · simp [State.drivable, state]
        · simp [State.drivable, state]
      rcases code with rfl | rfl
      · rw [exec_doorDrive free (target := .thrown) rfl, if_pos undrivable]
      · rw [exec_doorDrive free (target := .withdrawn) rfl, if_pos undrivable]
    · have drivable := drivable_manual mode state
      refine ⟨fun away => ?_, fun v room refuses => ?_, fun ready used band => ?_, fun v e other safe open_ => ?_, fun allowed band => ?_,
        fun allowed band => ?_⟩
      · rw [exec_doorDrive free (target := .thrown) rfl, if_neg drivable, if_neg (by simp), if_neg (by simp),
          manualMotion_begins (s := heard 0x49 tag s) (Bool.eq_false_iff.2 (mt (reachedAt_thrown _).1 away))]
        rfl
      · rw [exec_doorDrive free (target := .withdrawn) rfl, if_neg drivable, if_pos ⟨rfl, (driveHazard_iff ..).2 ⟨v, room, refuses⟩⟩]
      · rw [exec_doorDrive free (target := .thrown) rfl, if_neg drivable, if_neg (by simp), if_neg (by simp),
          manualMotion_done (s := heard 0x49 tag s) ((reachedAt_thrown _).2 band), doorNotice_used (by exact ready) (by exact used)]
        rfl
      · have harmless : ¬s.driveHazard d = true := by
          rcases other with ⟨role, _⟩ | ⟨role, _⟩ <;> simp [State.driveHazard, role, Role.room, safe]
        rw [exec_doorDrive free (target := .withdrawn) rfl, if_neg drivable, if_neg (fun both => harmless both.2),
          if_pos ⟨rfl, (driveInterlock_iff ..).2 ⟨e, (otherDoor_iff ..).2 ⟨v, other⟩, open_⟩⟩]
      · obtain ⟨_, harmless, unlocked⟩ := drive_allowed allowed
        rw [exec_doorDrive free (target := .withdrawn) rfl, if_neg drivable, if_neg (fun both => harmless both.2),
          if_neg (fun both => unlocked both.2), manualMotion_begins (s := heard 0x49 tag s) (by
            rw [show (heard 0x49 tag s).doorBand d = .bolted from band]
            rfl)]
        rfl
      · obtain ⟨used, harmless, unlocked⟩ := drive_allowed allowed
        have shows : Bolt.reachedAt .withdrawn (s.doorBand d) = true := by
          rcases band with band | band | band <;> rw [band] <;> rfl
        have ready : s.sup.ready = true := ready_of_band (d := d) (by rcases band with band | band | band <;> rw [band] <;> decide)
        rw [exec_doorDrive free (target := .withdrawn) rfl, if_neg drivable, if_neg (fun both => harmless both.2),
          if_neg (fun both => unlocked both.2), manualMotion_done (s := heard 0x49 tag s) shows,
          doorNotice_used (by exact ready) (by exact used)]
        rfl
  · intro s tag d free used still auto band
    rw [exec_doorService free, if_neg (by simp [used, still]),
      rederive_unbolted (by rw [setDoor_door]) (by rw [setDoor_door]; exact auto) (by exact band), setDoor_setDoor, setDoor_door]
    rfl
  · intro s tag d free x door
    subst door
    refine ⟨fun unused => ⟨fun m code => ?_, ?_⟩, fun g grant stage => ?_, fun used => ⟨fun unheld manual => ?_, fun unheld auto state => ?_,
      fun auto => ?_, fun manual => ?_, fun still => ?_⟩⟩
    · rcases code with rfl | rfl
      · rw [exec_doorMode free (m := .automatic) rfl, if_pos (.inl unused)]
      · rw [exec_doorMode free (m := .manual) rfl, if_pos (.inl unused)]
    · rw [exec_doorService free, if_pos (.inl unused)]
    · have moving : s.grantMoving d = true := by
        rcases stage with stage | stage <;> simp [State.grantMoving, grant, stage, GrantStage.waits]
      rw [exec_doorService free, if_pos (.inr moving)]
    · rw [exec_doorMode free (m := .manual) rfl, if_neg (by simp [used, unheld]), setDoorMode_same (s := heard 0x48 tag s) manual]
    · have standing : ((heard 0x48 tag s).doors.get d).state.overlay = true := by
        rcases state with state | state
        · exact congrArg DoorState.overlay state
        · exact congrArg DoorState.overlay state
      rw [exec_doorMode free (m := .manual) rfl, if_neg (by simp [used, unheld]),
        setDoorMode_manual (s := heard 0x48 tag s) auto unheld, if_pos standing]
      rfl
    · rw [exec_doorMode free (m := .automatic) rfl, if_neg (by simp [used]), setDoorMode_same (s := heard 0x48 tag s) auto]
    · rw [exec_doorMode free (m := .automatic) rfl, if_neg (by simp [used]), setDoorMode_automatic (s := heard 0x48 tag s) manual]
      rfl
    · rw [exec_doorService free, if_neg (by simp [used, grantMoving_false_iff.2 still])]
      rfl

end Sys2Proof.Machine


/-! What a door in AUTOMATIC does at each band its line confirms (R138, R142, R145 to R147, R149 to R152). -/

namespace Sys2Proof.Machine

variable {s t u : State}

/-! ## From the line to the door's state (R138, R140) -/

theorem doorChange_eq (d : DoorId) (b previous : Band) (s : State) : doorChange d b previous s = showBand d b (bandActs d b previous s) := rfl

/-- The bands at which a door is where its line says it is. -/
abbrev Shows (b : Band) : Prop := b = .bolted ∨ b = .unbolted ∨ b = .opened ∨ b = .egress

theorem not_faultBand {b : Band} (shows : Shows b) : LineClass.faultBand .door b = false := by
  rcases shows with rfl | rfl | rfl | rfl <;> rfl

/-- What a state makes of a band. -/
def bandBy (st : DoorState) (d : DoorId) (b : Band) (s : State) : State :=
  match st with
  | .lineFault => rederive d s
  | .secure => bandSecure d b s
  | .releasing => bandReleasing d b s
  | .released => bandReleased d b s
  | .opened => bandOpen d b s
  | .relocking | .insecure => bandThrowing d b s
  | .driverLatched | .manual => bandOverlay d b s

/-- A used door takes a change from one such band to another by its state. -/
theorem bandActs_shown {d : DoorId} {b previous : Band} {st : DoorState} (used : s.role d ≠ .unused) (shows : Shows b) (before : Shows previous)
    (state : (s.doors.get d).state = st) : bandActs d b previous s = bandBy st d b s := by
  subst state
  unfold bandActs
  rw [if_neg used, not_faultBand shows, shown_of_not_hidden before, if_neg Bool.false_ne_true, if_neg Bool.false_ne_true]
  cases (s.doors.get d).state <;> rfl

/-! ## RELEASING and RELEASED (R145 to R147) -/

theorem completeRelease_ungranted {d : DoorId} (free : s.grants.get d = none) (away : s.doorBand d ≠ .opened) :
    completeRelease d s = s.setDoor d { s.doors.get d with
      state := .released, bolt := .withdrawn, motion := .idle, trips := 0
      releaseDl := some (s.now + (s.doorSettings d).releaseTime * 1000) } := by
  have released : enterReleased d (stopAtTarget d .withdrawn s) = s.setDoor d { s.doors.get d with
      state := .released, bolt := .withdrawn, motion := .idle, trips := 0
      releaseDl := some (s.now + (s.doorSettings d).releaseTime * 1000) } := by
    unfold stopAtTarget enterReleased
    rw [setDoor_setDoor, setDoor_door]
    dsimp only
    have same : put s.grants d ((s.grants.get d).map fun g => { g with stage := .released }) = s.grants := by
      rw [free, Option.map_none, ← free, put_same]
    exact congrArg (fun v => { s with grants := v, doors := put s.doors d { s.doors.get d with
      state := .released, bolt := .withdrawn, motion := .idle, trips := 0
      releaseDl := some (s.now + (s.doorSettings d).releaseTime * 1000) } }) same
  unfold completeRelease
  rw [released]
  simp [passIfOpen, setDoor_doorBand, away]

theorem openPassage_granted {d : DoorId} {g : Grant} (grant : s.grants.get d = some g) :
    openPassage d s = settled (movePassage d g) { s with
      grants := put s.grants d none
      doors := put s.doors d ((s.doors.get d).opening (s.now + (s.doorSettings d).heldOpen * 1000)) } := passage_granted grant

/-- A door with an alarm whose moving grant has failed enters SECURE. -/
theorem enterSecure_failed {d : DoorId} {g : Grant} (ready : s.sup.ready = true) (used : s.role d ≠ .unused)
    (grant : s.grants.get d = some g) (moves : g.stage.waits = false) (state : (s.doors.get d).state ≠ .secure)
    (alarm : (s.doors.get d).alarm = true) :
    enterSecure d false (failGrant d s) = handSecure d false (raise .doorSecured (.door d) none
      (raise .grantFailed (.door d) (some (.badge g.firstBadge))
        { s with grants := put s.grants d none, doors := put s.doors d (s.doors.get d).shut })) := by
  have failed : failGrant d s = raise .grantFailed (.door d) (some (.badge g.firstBadge)) (s.setGrant d none) := by
    have told : (s.setGrant d none).doorNotice .grantFailed d (some (.badge g.firstBadge)) = _ := doorNotice_used ready used
    simp only [failGrant, grant, moves, Bool.false_eq_true, if_false, raiseDoor_eq, told]
  have ready' : (failGrant d s).sup.ready = true := by rw [failed]; exact ready
  have used' : (failGrant d s).role d ≠ .unused := by rw [failed]; exact used
  have door : (failGrant d s).doors.get d = s.doors.get d := by rw [failed]; rfl
  rw [enterSecure_eq, door, if_neg state, securedTold_setDoor, securedTold_used ready' used', if_pos alarm, failed]
  rfl

theorem boltReturned_granted {d : DoorId} {g : Grant} (ready : s.sup.ready = true) (used : s.role d ≠ .unused)
    (released : (s.doors.get d).state = .released) (grant : s.grants.get d = some g) (moves : g.stage.waits = false) :
    boltReturned d s = handSecure d false (raise .doorSecured (.door d) none
      (raise .grantFailed (.door d) (some (.badge g.firstBadge)) (raise .doorFault (.door d) (some (.named .boltReturned))
        { s with grants := put s.grants d none, doors := put s.doors d (s.doors.get d).shut }))) := by
  have told := setAlarm_raiseDoor .doorFault d (some (.named .boltReturned)) (s.doors.get d) s
  rw [setDoor_same, doorNotice_setDoor, doorNotice_used ready used] at told
  unfold boltReturned
  dsimp only
  rw [told]
  have at_ : ∀ x : Door, ((raise .doorFault (.door d) (some (.named .boltReturned)) s).setDoor d x).doors.get d = x := fun x => setDoor_door ..
  rw [enterSecure_failed (s := (raise .doorFault (.door d) (some (.named .boltReturned)) s).setDoor d _) (g := g) ready used grant moves
    (by rw [at_, released]; decide) (by rw [at_]), at_, State.setDoor_doors, put_put]
  rfl

/-! ## Openings without a grant (R152) -/

theorem takeEgress_eq (d : DoorId) (x : Door) (ready : s.sup.ready = true) (used : s.role d ≠ .unused) :
    takeEgress d (s.setDoor d x) = egressPassage d (raise .doorEgress (.door d) none (s.setDoor d { x with egress := false })) := by
  unfold takeEgress modDoor
  rw [setDoor_setDoor, setDoor_door, raiseDoor_eq, doorNotice_used (by exact ready) (by exact used)]

theorem takeForced_eq (d : DoorId) (before : DoorState) (x : Door) (ready : s.sup.ready = true) (used : s.role d ≠ .unused) :
    takeForced d before (s.setDoor d x) =
      raise .doorForced (.door d) (some (.named (.doorState before))) (s.setDoor d { x with alarm := true }) := by
  unfold takeForced
  rw [setAlarm_raiseDoor, doorNotice_used (by exact ready) (by exact used)]

/-- An opening in a closed state, whose motion may have been stopped first. -/
theorem openUngranted_eq {d : DoorId} {x : Door} (m : Motion) (ready : s.sup.ready = true) (used : s.role d ≠ .unused) :
    openUngranted d (s.setDoor d { x with motion := m }) =
      if x.egress then
        egressPassage d (raise .doorEgress (.door d) none
          (s.setDoor d { x.opening (s.now + (s.doorSettings d).heldOpen * 1000) with egress := false }))
      else
        raise .doorForced (.door d) (some (.named (.doorState x.state)))
          (s.setDoor d { x.opening (s.now + (s.doorSettings d).heldOpen * 1000) with alarm := true }) := by
  unfold openUngranted
  rw [enterOpen_setDoor, setDoor_door]
  dsimp only
  rw [takeEgress_eq d _ ready used, takeForced_eq d x.state _ ready used]
  rfl

/-! ## The states' own answers (R142, R145, R149, R150, R152) -/

theorem bandSecure_unbolted {d : DoorId} (band : s.doorBand d = .unbolted) :
    ((s.doors.get d).egress = true → bandSecure d .unbolted s = s.setDoor d ((s.doors.get d).throwing .relocking s.now)) ∧
    (s.sup.ready = true → s.role d ≠ .unused → (s.doors.get d).egress = false → bandSecure d .unbolted s =
      raise .doorInsecure (.door d) none (s.setDoor d { (s.doors.get d).throwing .insecure s.now with alarm := true })) := by
  have away : s.doorBand d ≠ .bolted := by rw [band]; decide
  constructor
  · intro egress
    exact (if_pos egress).trans (throwInto_away .relocking away)
  · intro ready used egress
    have told := setAlarm_raiseDoor .doorInsecure d none (s.doors.get d) s
    rw [setDoor_same, doorNotice_setDoor, doorNotice_used ready used] at told
    refine (if_neg (by rw [egress]; decide)).trans ?_
    rw [told, throwInto_away _ (by exact away), setDoor_setDoor, setDoor_door]
    rfl

theorem bandThrowing_unbolted {d : DoorId} (band : s.doorBand d = .unbolted) : bandThrowing d .unbolted s = s.setDoor d
    (if (s.doors.get d).motion = .idle then { s.doors.get d with bolt := .thrown, motion := .moving .thrown (s.now + 3000) }
      else s.doors.get d) := by
  have acts : bandThrowing d .unbolted s = if (s.doors.get d).motion = .idle then beginThrow d s else s := rfl
  rw [acts]
  split
  · exact beginThrow_away (by rw [band]; decide)
  · exact (setDoor_same d s).symm

theorem bandThrowing_egress (d : DoorId) (s : State) :
    bandThrowing d .egress s = s.setDoor d { s.doors.get d with egress := true, motion := .idle } := by
  have acts : bandThrowing d .egress s = modDoor d (fun x => { x with egress := true }) (stopMotion d s) := rfl
  rw [acts]
  unfold stopMotion modDoor
  rw [setDoor_setDoor, setDoor_door]

theorem bandThrowing_opened (d : DoorId) (s : State) :
    bandThrowing d .opened s = openUngranted d (s.setDoor d { s.doors.get d with motion := .idle }) := rfl

theorem bandSecure_opened (d : DoorId) (s : State) :
    bandSecure d .opened s = openUngranted d (s.setDoor d { s.doors.get d with motion := (s.doors.get d).motion }) := by
  have acts : bandSecure d .opened s = openUngranted d s := rfl
  rw [acts]
  exact congrArg (openUngranted d) (setDoor_same d s).symm

theorem bandReleasing_withdrawn {d : DoorId} {b : Band} (shows : b = .unbolted ∨ b = .egress ∨ b = .opened) :
    bandReleasing d b s = completeRelease d s := if_pos ((reachedAt_withdrawn b).2 shows)

/-- The bolt is found thrown in a state other than SECURE; a motion under way returns the trip count to 0. -/
theorem foundThrown {d : DoorId} (open_ : (s.doors.get d).state ≠ .secure) (trips : Nat) (counted : trips = (s.doors.get d).trips) :
    enterSecure d false s = handSecure d false
      ((s.setDoor d { (s.doors.get d).shut with trips := trips }).securedTold d (s.doors.get d).alarm) := by
  rw [enterSecure_eq, if_neg open_, counted]
  rfl

theorem throwDone_eq {d : DoorId} (open_ : (s.doors.get d).state ≠ .secure) : throwDone d s = handSecure d false
    ((s.setDoor d { (s.doors.get d).shut with trips := if (s.doors.get d).motion ≠ .idle then 0 else (s.doors.get d).trips }).securedTold d
      (s.doors.get d).alarm) := by
  unfold throwDone
  by_cases idle : (s.doors.get d).motion = .idle
  · rw [if_pos idle]
    exact foundThrown open_ _ (by rw [if_neg (not_not_intro idle)])
  · rw [if_neg idle]
    have stopped := foundThrown (s := stopAtTarget d .thrown s) (d := d) (by rw [stopAtTarget, setDoor_door]; exact open_) 0
      (by rw [stopAtTarget, setDoor_door])
    rw [stopped]
    simp only [stopAtTarget, setDoor_setDoor, setDoor_door]
    rw [if_pos idle]
    rfl

/-- Settles O34. -/
theorem automaticDoorTakesEachBand : Obligations.AutomaticDoorTakesEachBand := by
  intro s d b previous ready used band before x door opening opens t same
  subst door opens same
  have kept : ({ s with doors := put s.doors d (s.doors.get d) } : State) = s := setDoor_same d s
  refine ⟨?_, ?_, ?_, ?_, ?_, ?_, ?_⟩
  · intro y acts
    refine congrArg (showBand d b) ?_
    split at acts
    case h_1 state | h_2 state =>
      cases acts
      exact bandActs_shown used (by simp [Shows]) before state
    case h_3 state =>
      refine (bandActs_shown used (by simp [Shows]) before state).trans ?_
      split at acts
      · next egress =>
        cases acts
        exact (bandSecure_unbolted band).1 egress
      · cases acts
    case h_4 state | h_5 state | h_6 state | h_7 state | h_8 state =>
      cases acts
      exact (bandActs_shown used (by simp [Shows]) before state).trans kept.symm
    case h_9 state | h_10 state =>
      refine (bandActs_shown used (by simp [Shows]) before state).trans ?_
      split at acts
      · cases acts
      · next free =>
        cases acts
        exact (bandReleasing_withdrawn (by simp)).trans (completeRelease_ungranted (by simpa using free) (by rw [band]; decide))
    case h_11 state =>
      cases acts
      exact (bandActs_shown used (by simp [Shows]) before state).trans (throwInto_away .relocking (by rw [band]; decide))
    case h_12 state | h_13 state =>
      cases acts
      exact (bandActs_shown used (by simp [Shows]) before state).trans (bandThrowing_unbolted band)
    case h_14 state | h_15 state =>
      cases acts
      exact (bandActs_shown used (by simp [Shows]) before state).trans (bandThrowing_egress d s)
    · cases acts
  · rintro state rfl egress
    refine congrArg (showBand d .unbolted) ((bandActs_shown used (by simp [Shows]) before state).trans ?_)
    exact (bandSecure_unbolted band).2 ready used egress
  · intro g state shows grant
    refine congrArg (showBand d b) ((bandActs_shown used (by rcases shows with rfl | rfl <;> simp [Shows]) before state).trans ?_)
    refine (bandReleasing_withdrawn (by rcases shows with rfl | rfl <;> simp)).trans ((completeRelease_granted grant).1 ?_)
    rcases shows with rfl | rfl <;> rw [band] <;> decide
  · rintro g grant rfl
    refine ⟨fun state => congrArg (showBand d .opened) ?_, fun state => congrArg (showBand d .opened) ?_⟩
    · refine (bandActs_shown used (by simp [Shows]) before state).trans ?_
      exact (bandReleasing_withdrawn (by simp)).trans ((completeRelease_granted grant).2 band)
    · exact (bandActs_shown used (by simp [Shows]) before state).trans (openPassage_granted grant)
  · rintro g state rfl grant moves
    refine congrArg (showBand d .bolted) ((bandActs_shown used (by simp [Shows]) before state).trans ?_)
    exact boltReturned_granted ready used state grant moves
  · rintro state rfl
    refine congrArg (showBand d .bolted) ?_
    have told := fun trips => securedTold_used (s := s.setDoor d { (s.doors.get d).shut with trips := trips }) (d := d)
      (alarm := (s.doors.get d).alarm) ready used
    have open_ : (s.doors.get d).state ≠ .secure := by rcases state with state | state | state <;> rw [state] <;> decide
    by_cases opened : (s.doors.get d).state = .opened
    · refine (bandActs_shown used (by simp [Shows]) before opened).trans ((foundThrown open_ _ ?_).trans (congrArg _ (told _)))
      rw [if_neg fun both => both.1 opened]
    · have throwing : bandActs d .bolted previous s = throwDone d s := by
        rcases state with state | state | state
        · exact absurd state opened
        · exact bandActs_shown used (by simp [Shows]) before state
        · exact bandActs_shown used (by simp [Shows]) before state
      refine throwing.trans ((throwDone_eq open_).trans ((congrArg _ (told _)).trans ?_))
      simp only [opened, ne_eq, not_false_eq_true, true_and]
      rfl
  · rintro state rfl
    refine congrArg (showBand d .opened) ?_
    rcases state with state | state | state
    · refine (bandActs_shown used (by simp [Shows]) before state).trans ((bandSecure_opened d s).trans ?_)
      exact openUngranted_eq (d := d) (x := s.doors.get d) (s.doors.get d).motion ready used
    · exact (bandActs_shown used (by simp [Shows]) before state).trans (openUngranted_eq (d := d) (x := s.doors.get d) .idle ready used)
    · exact (bandActs_shown used (by simp [Shows]) before state).trans (openUngranted_eq (d := d) (x := s.doors.get d) .idle ready used)

end Sys2Proof.Machine


/-! Doors that are hidden, overlaid or UNUSED, at each band their line confirms (R138, R140 to R142, R153, R154). -/

namespace Sys2Proof.Machine

variable {s t u : State}

/-! ## UNUSED doors and fault bands (R138, R154) -/

theorem bandActs_unused {d : DoorId} (b previous : Band) (unused : s.role d = .unused) : bandActs d b previous s = s.setDoor d
    { s.doors.get d with egress := if b = .egress then true else if b = .unbolted then (s.doors.get d).egress else false } := by
  unfold bandActs
  rw [if_pos unused]
  cases b <;> first | rfl | exact (setDoor_same d s).symm

/-- The bands of the DOOR class that hide the door. -/
theorem faultBand_of {b : Band} (fault : b = .short ∨ b = .openLine ∨ b = .unclassified) : LineClass.faultBand .door b = true := by
  rcases fault with rfl | rfl | rfl <;> rfl

theorem positionAfter_fault {b : Band} (p : Option Position) (fault : b = .short ∨ b = .openLine ∨ b = .unclassified) :
    Position.after p b = none := by
  rcases fault with rfl | rfl | rfl <;> rfl

/-- The door under a line fault, before the position field follows the band. -/
def Door.faulted (x : Door) : Door := { x.atRest with state := .lineFault, egress := false }

theorem bandActs_fault {d : DoorId} {b : Band} (previous : Band) (used : s.role d ≠ .unused)
    (fault : b = .short ∨ b = .openLine ∨ b = .unclassified) :
    bandActs d b previous s = failGrant d (s.setDoor d (s.doors.get d).faulted) := by
  have faulted : bandActs d b previous s = lineFaulted d s := by
    unfold bandActs
    rw [if_neg used, if_pos (faultBand_of fault)]
  rw [faulted]
  unfold lineFaulted enterOverlay modDoor
  rw [setDoor_setDoor, setDoor_door]
  rfl

theorem failGrant_still {d : DoorId} (still : s.grantMoving d = false) : failGrant d s = s := by
  unfold failGrant
  unfold State.grantMoving at still
  split
  · next grant =>
    rw [grant] at still
    exact if_pos (by simpa using still)
  · rfl

theorem showBand_setDoor (d : DoorId) (b : Band) (x : Door) (s : State) :
    showBand d b (s.setDoor d x) = s.setDoor d { x with position := Position.after x.position b } := by
  have shown : showBand d b (s.setDoor d x) = (s.setDoor d x).setDoor d
      { (s.setDoor d x).doors.get d with position := Position.after ((s.setDoor d x).doors.get d).position b } := rfl
  rw [shown, setDoor_door, setDoor_setDoor]

theorem failGrant_told {d : DoorId} {g : Grant} (ready : s.sup.ready = true) (used : s.role d ≠ .unused) (grant : s.grants.get d = some g)
    (moves : g.stage.waits = false) : failGrant d s = raise .grantFailed (.door d) (some (.badge g.firstBadge)) (s.setGrant d none) := by
  have told : (s.setGrant d none).doorNotice .grantFailed d (some (.badge g.firstBadge)) = _ := doorNotice_used ready used
  simp only [failGrant, grant, moves, Bool.false_eq_true, if_false, raiseDoor_eq, told]

/-! ## The return from a fault (R141) -/

theorem bandActs_returned {d : DoorId} {b previous : Band} (used : s.role d ≠ .unused) (shows : Shows b)
    (hidden : previous = .unknown ∨ previous = .short ∨ previous = .openLine ∨ previous = .unclassified) (still : s.grantMoving d = false) :
    bandActs d b previous s = rederive d s := by
  have hides : hidesDoor previous = true := by rcases hidden with rfl | rfl | rfl | rfl <;> rfl
  unfold bandActs
  rw [if_neg used, not_faultBand shows, hides, failGrant_still still]
  rfl

/-! ## DRIVER_LATCHED and MANUAL (R142, R153) -/

/-- The egress flag of an overlaid door after a band. -/
def Door.flagged (b : Band) (x : Door) : Door :=
  { x with egress := if b = .bolted then false else if b = .egress ∧ x.position ≠ some .opened then true else x.egress }

/-- What a band does to an overlaid door whose motion, if any, it has not completed. -/
def overlayBand (d : DoorId) (b : Band) (s : State) : State :=
  match b with
  | .egress => if (s.doors.get d).position = some .opened then s else modDoor d (fun x => { x with egress := true }) s
  | .bolted => modDoor d (fun x => { x with egress := false }) s
  | .opened => if (s.doors.get d).position = some .opened then s else openOverlay d s
  | _ => s

theorem bandOverlay_eq (d : DoorId) (b : Band) (s : State) : bandOverlay d b s = overlayBand d b (manualDone d b s) := by
  unfold bandOverlay overlayBand
  cases b <;> simp

/-- Every band but an opening moves the egress flag alone. -/
theorem overlayBand_flags {d : DoorId} {b : Band} (shows : Shows b) (closed : b ≠ .opened ∨ (s.doors.get d).position = some .opened) :
    overlayBand d b s = s.setDoor d ((s.doors.get d).flagged b) := by
  have kept := (setDoor_same d s).symm
  rcases shows with rfl | rfl | rfl | rfl
  · rfl
  · exact kept
  · exact (if_pos (closed.resolve_left (by simp))).trans kept
  · by_cases opened : (s.doors.get d).position = some .opened
    · have same : (s.doors.get d).flagged .egress = s.doors.get d := by
        unfold Door.flagged
        rw [if_neg (by decide), if_neg fun both => both.2 opened]
      exact (if_pos opened).trans (kept.trans (congrArg (fun x => s.setDoor d x) same.symm))
    · refine (if_neg opened).trans ?_
      simp [Door.flagged, opened, modDoor]

theorem overlayBand_opens {d : DoorId} (closed : (s.doors.get d).position ≠ some .opened) :
    overlayBand d .opened s = openOverlay d s := if_neg closed

theorem openOverlay_eq {d : DoorId} {x : Door} (ready : s.sup.ready = true) (used : s.role d ≠ .unused) :
    openOverlay d (s.setDoor d x) =
      if x.egress then egressPassage d (raise .doorEgress (.door d) none (s.setDoor d { x with egress := false }))
      else if x.state = .driverLatched then
        raise .doorForced (.door d) (some (.named (.doorState .driverLatched))) (s.setDoor d { x with alarm := true })
      else raise .doorOpened (.door d) none (s.setDoor d x) := by
  unfold openOverlay
  dsimp only
  rw [setDoor_door, takeEgress_eq d x ready used, takeForced_eq d .driverLatched x ready used, raiseDoor_eq,
    doorNotice_used (by exact ready) (by exact used)]

theorem manualDone_idle {d : DoorId} {b : Band} (idle : (s.doors.get d).motion = .idle) : manualDone d b s = s := by
  simp only [manualDone, idle]

theorem manualDone_motion {d : DoorId} {target : Bolt} {dl : Nat} (b : Band)
    (motion : (s.doors.get d).motion = .moving target dl ∨ (s.doors.get d).motion = .cooling target dl) :
    manualDone d b s = if ((s.doors.get d).state = .manual && target.reachedAt b) then
      raiseDoor .doorDriveDone d (some (.named (.bolt target))) (stopAtTarget d target s) else s := by
  rcases motion with motion | motion <;> simp only [manualDone, motion]

theorem manualDone_still {d : DoorId} {b : Band}
    (still : (s.doors.get d).state = .driverLatched ∨ ∀ target dl,
      (s.doors.get d).motion = .moving target dl ∨ (s.doors.get d).motion = .cooling target dl → target.reachedAt b = false) :
    manualDone d b s = s := by
  have stands : ∀ target dl, (s.doors.get d).motion = .moving target dl ∨ (s.doors.get d).motion = .cooling target dl →
      manualDone d b s = s := by
    intro target dl motion
    rw [manualDone_motion b motion]
    refine if_neg fun done => ?_
    rw [Bool.and_eq_true, decide_eq_true_eq] at done
    rcases still with latched | away
    · exact absurd (latched.symm.trans done.1) (by decide)
    · exact absurd ((away target dl motion).symm.trans done.2) (by decide)
  cases motion : (s.doors.get d).motion with
  | idle => exact manualDone_idle motion
  | moving target dl => exact stands target dl (.inl motion)
  | cooling target dl => exact stands target dl (.inr motion)

theorem manualDone_done {d : DoorId} {b : Band} {target : Bolt} {dl : Nat} (ready : s.sup.ready = true) (used : s.role d ≠ .unused)
    (manual : (s.doors.get d).state = .manual)
    (motion : (s.doors.get d).motion = .moving target dl ∨ (s.doors.get d).motion = .cooling target dl) (shows : target.reachedAt b = true) :
    manualDone d b s = (raise .doorDriveDone (.door d) (some (.named (.bolt target))) s).setDoor d
      { s.doors.get d with bolt := target, motion := .idle, trips := 0 } := by
  have told : raiseDoor .doorDriveDone d (some (.named (.bolt target))) (stopAtTarget d target s) = _ :=
    (raiseDoor_eq ..).trans (doorNotice_used (by exact ready) (by exact used))
  rw [manualDone_motion b motion, if_pos (by simp [manual, shows]), told]
  rfl

/-- Settles O35. -/
theorem hiddenAndOverlaidDoorsTakeEachBand : Obligations.HiddenAndOverlaidDoorsTakeEachBand := by
  constructor
  · intro s d b previous ready band x door opening opens t same
    subst door opens same
    refine ⟨fun unused => congrArg (showBand d b) (bandActs_unused b previous unused), ?_, ?_, ?_⟩
    · intro used fault hidden same
      subst same
      have acts := bandActs_fault (s := s) (d := d) previous used fault
      have position := positionAfter_fault (s.doors.get d).position fault
      have shown : ∀ w : State, showBand d b (w.setDoor d (s.doors.get d).faulted) = w.setDoor d { s.doors.get d with
          state := .lineFault, motion := .idle, egress := false, position := none, releaseDl := none, heldOpenDl := none } := by
        intro w
        rw [showBand_setDoor]
        have after : Position.after (s.doors.get d).faulted.position b = none := position
        rw [after]
        rfl
      rw [doorChange_eq, acts]
      refine ⟨fun still => ?_, fun g grant moves => ?_⟩
      · rw [failGrant_still (by exact still)]
        exact shown s
      · rw [failGrant_told (s := s.setDoor d (s.doors.get d).faulted) ready used grant moves]
        exact shown (raise .grantFailed (.door d) (some (.badge g.firstBadge)) (s.setGrant d none))
    · intro used hidden fault still
      have returns : Shows b → bandActs d b previous s = rederive d s := fun shows => bandActs_returned used shows hidden still
      refine ⟨fun latch auto => ⟨?_, fun y acts => congrArg (showBand d b) ?_⟩, fun standing shows => congrArg (showBand d b) ?_⟩
      · rintro rfl
        refine congrArg (showBand d .bolted) ((returns (.inl rfl)).trans ?_)
        rw [rederive_bolted latch auto band, if_neg (by rw [fault]; decide), securedTold_used (by exact ready) (by exact used)]
        rfl
      · split at acts
        · cases acts
          exact (returns (by simp [Shows])).trans (rederive_unbolted latch auto band)
        · cases acts
          exact (returns (by simp [Shows])).trans (rederive_opened latch auto band)
        · cases acts
          exact (returns (by simp [Shows])).trans (rederive_egress latch auto band)
        · cases acts
      · refine (returns shows).trans ((rederive_overlaid standing (by rw [band]; exact shows)).trans ?_)
        rw [band]
        rfl
    · intro used state before shows
      have acts : bandActs d b previous s = overlayBand d b (manualDone d b s) := by
        rw [← bandOverlay_eq]
        rcases state with state | state
        · exact bandActs_shown used shows before state
        · exact bandActs_shown used shows before state
      refine ⟨fun still => ⟨fun closed => ?_, ?_⟩, fun target dl manual motion reached closed => ?_, fun target dl manual motion reached => ?_⟩
      · refine congrArg (showBand d b) (acts.trans ?_)
        rw [manualDone_still still, overlayBand_flags shows closed]
        rfl
      · rintro rfl closed
        refine congrArg (showBand d .opened) (acts.trans ?_)
        have opened := openOverlay_eq (d := d) (x := s.doors.get d) ready used
        rw [manualDone_still still, overlayBand_opens closed]
        rw [setDoor_same] at opened
        exact opened
      · refine congrArg (showBand d b) (acts.trans ?_)
        rw [manualDone_done ready used manual motion reached, overlayBand_flags shows (.inl closed), setDoor_door, setDoor_setDoor]
        rfl
      · rintro rfl y same u told
        subst told
        have withdrawn : target = .withdrawn := by
          cases target with
          | thrown => exact absurd reached (by decide)
          | withdrawn => rfl
        subst withdrawn
        have done := manualDone_done ready used manual motion reached
        have position : y.position = (s.doors.get d).position := by rw [← same]
        have flag : y.egress = (s.doors.get d).egress := by rw [← same]
        have state' : y.state = .manual := by rw [← same]; exact manual
        rw [same] at done
        clear same
        refine ⟨rfl, fun opened => ?_, fun closed plain => ?_, fun closed flagged => ?_⟩
        · refine congrArg (showBand d .opened) (acts.trans ?_)
          rw [done]
          exact if_pos (by rw [setDoor_door, position]; exact opened)
        · refine congrArg (showBand d .opened) (acts.trans ?_)
          rw [done, overlayBand_opens (by rw [setDoor_door, position]; exact closed), openOverlay_eq (by exact ready) (by exact used),
            if_neg (by rw [flag, plain]; decide), if_neg (by rw [state']; decide)]
          rfl
        · refine congrArg (showBand d .opened) (acts.trans ?_)
          rw [done, overlayBand_opens (by rw [setDoor_door, position]; exact closed), openOverlay_eq (by exact ready) (by exact used),
            if_pos (flag.trans flagged)]
          refine congrArg (egressPassage d) (congrArg (raise .doorEgress (.door d) none) ?_)
          rfl
  · intro s d b x y opening door band rest opens
    subst door rest opens
    refine ⟨fun hides => ?_, fun standing shows => ?_, fun latch auto => ⟨fun bolted used => ?_, fun unbolted => ?_, fun opened => ?_, fun egress => ?_⟩⟩
    · exact rederive_hidden (by rw [band]; exact hides)
    · refine (rederive_overlaid standing (by rw [band]; exact shows)).trans ?_
      rw [band]
      rfl
    · have ready : s.sup.ready = true := ready_of_band (d := d) (by rw [band, bolted]; decide)
      rw [rederive_bolted latch auto (band.trans bolted), securedTold_used (by exact ready) (by exact used)]
      rfl
    · exact rederive_unbolted latch auto (band.trans unbolted)
    · exact rederive_opened latch auto (band.trans opened)
    · exact rederive_egress latch auto (band.trans egress)

end Sys2Proof.Machine


/-! Passages of a vestibule, and the release of its outer door to the occupants (R166, R170, R171, R173, R174). -/

namespace Sys2Proof.Machine

variable {s t u : State}

/-! ## What follows where no strongroom has changed, or one has (R69, R96) -/

theorem settle_still {before : Vector Room 12} (still : s.rooms = before) : settle before s = s := by
  subst still
  exact foldl_settleAt_same fun v _ => ⟨rfl, rfl⟩

/-- Outside the occupied hold a report touches its own zone alone, and only where it extends an automatic countdown. -/
theorem reportE_unheld {v : RoomId} (unheld : (s.zones.get v).state ≠ .heldOccupied) : ∃ zones, reportE v s = { s with zones := zones } ∧
    (∀ z, z ≠ v → zones.get z = s.zones.get z) ∧
    ((∀ c, (s.zones.get v).countdown = some c → c.kind = .automatic → (s.rooms.get v).effective ≤ (s.zones.get v).peak) → zones = s.zones) := by
  have still : reportE v s = s → ∃ zones, reportE v s = { s with zones := zones } ∧ (∀ z, z ≠ v → zones.get z = s.zones.get z) ∧
      ((∀ c, (s.zones.get v).countdown = some c → c.kind = .automatic → (s.rooms.get v).effective ≤ (s.zones.get v).peak) →
        zones = s.zones) := fun same => ⟨s.zones, same, fun _ _ => rfl, fun _ => rfl⟩
  by_cases counts : (s.zones.get v).state = .predischarge ∨ (s.zones.get v).state = .held
  · rcases Option.eq_none_or_eq_some (s.zones.get v).countdown with countdown | ⟨c, countdown⟩
    · exact still (by rcases counts with state | state <;> simp only [reportE, state, countdown])
    · have extends' := reportE_countdown counts countdown
      by_cases above : c.kind = .automatic ∧ (s.zones.get v).peak < (s.rooms.get v).effective
      · rw [if_pos above] at extends'
        refine ⟨_, extends', fun z other => put_get_other _ _ other, fun bounded => ?_⟩
        exact absurd (bounded c countdown above.1) (Nat.not_le.2 above.2)
      · rw [if_neg above] at extends'
        exact ⟨s.zones, extends', fun _ _ => rfl, fun _ => rfl⟩
  · rw [not_or] at counts
    exact still (reportE_elsewhere counts.1 counts.2 unheld)

/-- What follows a change of one strongroom's records whose zone is not in the occupied hold: its zone and its lone-worker state. -/
theorem settle_unheld {before : Vector Room 12} {v : RoomId} (others : ∀ w, w ≠ v → before.get w = s.rooms.get w)
    (unheld : (s.zones.get v).state ≠ .heldOccupied) : ∃ zones rooms, settle before s = { s with zones := zones, rooms := rooms } ∧
    (∀ z, z ≠ v → zones.get z = s.zones.get z) ∧
    ((∀ c, (s.zones.get v).countdown = some c → c.kind = .automatic → (s.rooms.get v).effective ≤ (s.zones.get v).peak) → zones = s.zones) := by
  rw [settle_one fun w other => by rw [others w other]; exact ⟨rfl, rfl⟩]
  obtain ⟨zones, reported, apart, stands⟩ := reportE_unheld unheld
  unfold settleAt
  dsimp only
  rw [reported]
  simp only [evalLone_eq]
  by_cases effective : (before.get v).effective = (s.rooms.get v).effective
  · simp only [effective, ne_eq, not_true, if_false]
    split
    · exact ⟨s.zones, _, rfl, fun _ _ => rfl, fun _ => rfl⟩
    · exact ⟨s.zones, _, rfl, fun _ _ => rfl, fun _ => rfl⟩
  · simp only [ne_eq, effective, not_false_eq_true, if_true]
    split
    · exact ⟨zones, _, rfl, apart, stands⟩
    · exact ⟨zones, _, rfl, apart, stands⟩

/-! ## Removals handed to the inner door (R163) -/

theorem strongroomDoor_of_nv (h : t.nv = s.nv) (v : RoomId) : t.strongroomDoor v = s.strongroomDoor v := by
  simp only [State.strongroomDoor, role_eq_of_nv h]

/-- A removal ends a waiting entry grant at the inner door that the slot holds, and no other. -/
theorem removalHanded_grants (v : RoomId) (slot : SlotId) {e : DoorId} {w : Grant} (grant : s.grants.get e = some w) :
    (s.removalHanded v slot).grants.get e =
      if s.strongroomDoor v = some e ∧ w.purpose = .entry ∧ w.stage.waits = true ∧ w.holds slot = true then none else some w := by
  unfold State.removalHanded
  cases inner : s.strongroomDoor v with
  | none => simpa using grant
  | some d =>
    by_cases same : d = e
    · subst same
      dsimp only
      have held : ((s.grants.get d).any fun g => decide (g.purpose = .entry) && g.stage.waits && g.holders.any fun h => decide (h.slot = slot)) = true ↔
          w.purpose = .entry ∧ w.stage.waits = true ∧ w.holds slot = true := by
        simp [grant, Grant.holds, and_assoc]
      by_cases ends : w.purpose = .entry ∧ w.stage.waits = true ∧ w.holds slot = true
      · rw [if_pos (held.2 ends), if_pos ⟨rfl, ends⟩, grantDropped_grants, put_get_same]
      · rw [if_neg (fun any => ends (held.1 any)), if_neg (fun both => ends both.2), grant]
    · rw [if_neg (fun both => same (Option.some.inj both.1))]
      dsimp only
      split
      · rw [grantDropped_grants, put_get_other _ _ (Ne.symm same), grant]
      · exact grant

theorem GrantsEnded.nv_eq (h : GrantsEnded s t) : t.nv = s.nv := by
  obtain ⟨_, _, rfl, _⟩ := h
  rfl

theorem foldl_removalHanded_ends (v : RoomId) (gone : List Occupant) (s : State) :
    GrantsEnded s (gone.foldl (fun t o => t.removalHanded v o.slot) s) := by
  induction gone generalizing s with
  | nil => exact .refl s
  | cons o rest ih => exact (removalHanded_ends ..).trans (ih _)

theorem foldl_removalHanded_grants (v : RoomId) (gone : List Occupant) {e : DoorId} {w : Grant} (grant : s.grants.get e = some w) :
    (gone.foldl (fun t o => t.removalHanded v o.slot) s).grants.get e =
      if s.strongroomDoor v = some e ∧ w.purpose = .entry ∧ w.stage.waits = true ∧ ∃ o ∈ gone, w.holds o.slot = true then none else some w := by
  induction gone generalizing s with
  | nil => simpa using grant
  | cons o rest ih =>
    rw [List.foldl_cons]
    have first := removalHanded_grants v o.slot grant
    by_cases ends : s.strongroomDoor v = some e ∧ w.purpose = .entry ∧ w.stage.waits = true ∧ w.holds o.slot = true
    · rw [if_pos ends] at first
      obtain ⟨inner, entry, waits, holds⟩ := ends
      rw [if_pos ⟨inner, entry, waits, o, List.mem_cons_self, holds⟩]
      obtain ⟨_, _, same, -, kept⟩ := foldl_removalHanded_ends v rest (s.removalHanded v o.slot)
      rw [same]
      exact (kept e).elim (fun stands => stands.trans first) id
    · rw [if_neg ends] at first
      rw [ih first, strongroomDoor_of_nv (removalHanded_ends v o.slot s).nv_eq]
      refine ite_congr (propext ⟨?_, ?_⟩) (fun _ => rfl) (fun _ => rfl)
      · rintro ⟨inner, entry, waits, p, mem, holds⟩
        exact ⟨inner, entry, waits, p, List.mem_cons_of_mem o mem, holds⟩
      · rintro ⟨inner, entry, waits, p, mem, holds⟩
        rcases List.mem_cons.1 mem with rfl | later
        · exact absurd ⟨inner, entry, waits, holds⟩ ends
        · exact ⟨inner, entry, waits, p, later, holds⟩

/-- What an emptied vestibule comes to: the chamber and the places at once, the grants by its removals. -/
theorem vestibuleEmptied_as (v : RoomId) (k : NoticeKind) (s : State) : ∃ grants link, s.vestibuleEmptied v k = { s with
      vests := put s.vests v { direction := .none, occupants := [] }
      locations := placesSet .outside ((s.vests.get v).occupants.map Occupant.slot) s.locations
      grants := grants, link := link } ∧
    (∀ d, s.grants.get d = none → grants.get d = none) ∧
    ∀ e w, s.grants.get e = some w → grants.get e =
      if s.strongroomDoor v = some e ∧ w.purpose = .entry ∧ w.stage.waits = true ∧
        (∃ o ∈ (s.vests.get v).occupants, w.holds o.slot = true) then none else some w := by
  have places : (s.vests.get v).occupants.foldl (fun l o => sparsePut .outside l o.slot .outside) s.locations =
      placesSet .outside ((s.vests.get v).occupants.map Occupant.slot) s.locations := by
    rw [placesSet, List.foldl_map]
  unfold State.vestibuleEmptied
  dsimp only
  rw [places]
  have ends := foldl_removalHanded_ends v (s.vests.get v).occupants (vacated v s)
  have handed : ∀ e w, s.grants.get e = some w → _ := fun e w grant =>
    foldl_removalHanded_grants (s := vacated v s) v (s.vests.get v).occupants (e := e) (w := w) grant
  obtain ⟨grants, link, same, -, kept⟩ := ends
  obtain ⟨told, tells⟩ := toldAll_link Occupant.badge k v (s.vests.get v).occupants
    ((s.vests.get v).occupants.foldl (fun t o => t.removalHanded v o.slot) (vacated v s))
  refine ⟨grants, told, ?_, fun d free => (kept d).elim (fun stands => stands.trans free) id, fun e w grant => ?_⟩
  · rw [same] at tells
    refine Eq.trans ?_ tells
    rw [← same]
    rfl
  · have ends := handed e w grant
    rw [same] at ends
    exact ends

/-! ## Passages at an outer door (R166, R173, R174) -/

theorem inboundOne_eq (v : RoomId) (h : Holder) (s : State) : inboundOne v h s = raise .vestibuleIn (.strongroom v) (some (.badge h.badge))
    ((s.slotMoved v h.slot h.badge .outside (.inVestibule v)).chamberEntered v h.slot h.badge .inbound) := by
  simp only [inboundOne, moveTo_eq, vestAppend_eq]

theorem outbound_eq (v : RoomId) (holders : List Holder) (s : State) : outbound v holders s =
    holders.foldl (fun u h => u.slotMoved v h.slot h.badge .outside .outside) (s.vestibuleEmptied v .vestibuleOut) := by
  simp only [outbound, moveTo_eq, emptyVestibule_eq]

theorem passage_inbound {d : DoorId} {v : RoomId} {g : Grant} (role : s.role d = .vestibuleOuter v) (grant : s.grants.get d = some g)
    (purpose : g.purpose = .entry) : passage d s = settle s.rooms (g.holders.foldl (fun u h => raise .vestibuleIn (.strongroom v)
      (some (.badge h.badge)) ((u.slotMoved v h.slot h.badge .outside (.inVestibule v)).chamberEntered v h.slot h.badge .inbound))
      (s.ungranted d)) := by
  have role' : (s.ungranted d).role d = .vestibuleOuter v := role
  refine (passage_granted grant).trans (congrArg (settle s.rooms) ?_)
  change movePassage d g (s.ungranted d) = _
  simp only [movePassage, role', purpose, inboundOne_eq]

theorem passage_outbound {d : DoorId} {v : RoomId} {g : Grant} (role : s.role d = .vestibuleOuter v) (grant : s.grants.get d = some g)
    (purpose : g.purpose = .exit) : passage d s = settle s.rooms (g.holders.foldl (fun u h => u.slotMoved v h.slot h.badge .outside .outside)
      (State.vestibuleEmptied v .vestibuleOut (s.ungranted d))) := by
  have role' : (s.ungranted d).role d = .vestibuleOuter v := role
  refine (passage_granted grant).trans (congrArg (settle s.rooms) ?_)
  change movePassage d g (s.ungranted d) = _
  simp only [movePassage, role', purpose, outbound_eq]

/-- A slot that is found where it is expected, in a place that holds nothing to take, is given its new place alone. -/
theorem slotMoved_vacant {v : RoomId} {slot : SlotId} {badge : Nat} {p target : Location} (here : s.location slot = p) (vacant : s.vacant p) :
    s.slotMoved v slot badge p target = { s with locations := sparsePut .outside s.locations slot target } := by
  unfold State.slotMoved
  rw [slotTaken_vacant here vacant, here]
  simp [State.placeCorrected]

/-- Holders who are OUTSIDE already stay there. -/
theorem foldl_slotMoved_outside (v : RoomId) (holders : List Holder) (ok : sparseOk .outside s.locations = true)
    (here : ∀ h ∈ holders, s.location h.slot = .outside) :
    holders.foldl (fun u h => u.slotMoved v h.slot h.badge .outside .outside) s =
      { s with locations := placesSet .outside (holders.map Holder.slot) s.locations } := by
  induction holders generalizing s with
  | nil => rfl
  | cons h rest ih =>
    have ok' : sparseOk Location.outside (sparsePut .outside s.locations h.slot .outside) = true := sparsePut_ok h.slot .outside ok
    have stays : ∀ x ∈ rest, sparseGet Location.outside (sparsePut .outside s.locations h.slot .outside) x.slot = .outside := fun x mem => by
      by_cases same : x.slot = h.slot
      · rw [same]
        exact sparseGet_put_same _ _ ok
      · exact (sparseGet_put_other _ same).trans (here x (List.mem_cons_of_mem h mem))
    rw [List.foldl_cons, slotMoved_vacant (here h List.mem_cons_self) (.inl rfl)]
    exact ih ok' stays

theorem egressPassage_outer {d : DoorId} {v : RoomId} (role : s.role d = .vestibuleOuter v) : egressPassage d s = egressOuter v s := by
  simp only [egressPassage, role]

theorem egressOuter_empty {v : RoomId} (h : (s.vests.get v).occupants = []) : egressOuter v s = s := by
  simp only [egressOuter, h]

theorem egressOuter_oldest {v : RoomId} {o : Occupant} {rest : List Occupant} (occupants : (s.vests.get v).occupants = o :: rest)
    (once : ∀ p ∈ rest, p.slot ≠ o.slot) : egressOuter v s = raise .vestibuleEgress (.strongroom v) (some (.badge o.badge))
      (State.removalHanded v o.slot { s with
        locations := sparsePut .outside s.locations o.slot .outside
        vests := put s.vests v { direction := if rest = [] then .none else (s.vests.get v).direction, occupants := rest } }) := by
  have left : (o :: rest).filter (fun p => p.slot ≠ o.slot) = rest := by
    rw [List.filter_cons_of_neg (by simp), List.filter_eq_self.2 fun p mem => decide_eq_true (once p mem)]
  simp only [egressOuter, occupants, vestRemove_eq, State.setLocation, left]
  rw [if_neg (by simp)]

/-! ## The exit into the chamber (R170) -/

theorem exitTaken_chamber {v : RoomId} {h : Holder} (exists_ : s.hasVestibule v = true)
    (here : s.location h.slot = .inStrongroom v ∨ s.location h.slot = .outside) :
    s.exitTaken v h = raise .exit (.strongroom v) (some (.badge h.badge)) { s with
      locations := sparsePut .outside s.locations h.slot (.inVestibule v)
      rooms := put s.rooms v (if s.location h.slot = .outside then s.rooms.get v
        else { s.rooms.get v with listed := (s.rooms.get v).listed.filter (fun e => e.slot ≠ h.slot) })
      vests := put s.vests v
        { direction := .outbound, occupants := (s.vests.get v).occupants ++ [⟨h.slot, h.badge, s.clockTime⟩] } } := by
  unfold State.exitTaken
  rcases here with here | here <;>
    simp [exists_, here, State.slotMoved, State.slotTaken, State.placeCorrected, State.chamberEntered, put_same] <;> rfl

theorem passage_chamber {d : DoorId} {v : RoomId} {g : Grant} {h : Holder} (role : s.role d = .strongroom v) (exists_ : s.hasVestibule v = true)
    (grant : s.grants.get d = some g) (purpose : g.purpose = .exit) (holders : g.holders = [h])
    (here : s.location h.slot = .inStrongroom v ∨ s.location h.slot = .outside) :
    passage d s = settle s.rooms (raise .exit (.strongroom v) (some (.badge h.badge)) { s with
      grants := put s.grants d none, locations := sparsePut .outside s.locations h.slot (.inVestibule v)
      rooms := put s.rooms v (if s.location h.slot = .outside then s.rooms.get v
        else { s.rooms.get v with listed := (s.rooms.get v).listed.filter (fun e => e.slot ≠ h.slot) })
      vests := put s.vests v
        { direction := .outbound, occupants := (s.vests.get v).occupants ++ [⟨h.slot, h.badge, s.clockTime⟩] } }) := by
  have moved : movePassage d g (s.ungranted d) = _ := movePassage_exit role purpose
  rw [holders, List.foldl_cons, List.foldl_nil] at moved
  exact (passage_granted grant).trans (congrArg (settle s.rooms) (moved.trans (exitTaken_chamber (s := s.ungranted d) exists_ here)))

/-! ## The outer door handed to the occupants (R171) -/

theorem handSecure_here {v : RoomId} {i o d : DoorId} {rederived : Bool} (inner : s.role i = .strongroom v) (outer : s.role o = .vestibuleOuter v)
    (here : d = i ∨ d = o ∧ rederived = true) : handSecure d rederived s = autoRelease v s := by
  rcases here with rfl | ⟨rfl, rfl⟩
  · exact handSecure_strongroom _ inner
  · rw [handSecure_outer _ outer, if_pos rfl]

theorem outerFree_false_iff (g : Option Grant) :
    ¬outerFree g = true ↔ ∃ x, g = some x ∧ (x.purpose = .exit ∨ x.stage.waits = false) := by
  cases g with
  | none => simp [outerFree]
  | some x => cases purpose : x.purpose <;> cases waits : x.stage.waits <;> simp [outerFree, purpose, waits]

/-- Settles O38: each passage by the laws of its door and of what its removals end, and the automatic release at its door. -/
theorem vestibulePassagesMoveOccupants : Obligations.VestibulePassagesMoveOccupants := by
  refine ⟨?_, ?_, fun s d v g role grant purpose => passage_outbound role grant purpose,
    fun s d v g role grant purpose => passage_inbound role grant purpose, ?_, ?_, ?_, ?_, ?_, ?_⟩
  · intro s d v g h role grant purpose holders here
    rw [passage_inbound role grant purpose, holders, List.foldl_cons, List.foldl_nil,
      slotMoved_vacant (s := s.ungranted d) here (.inl rfl)]
    exact settle_still rfl
  · rintro s d v g role grant purpose gone rfl inside ok t rfl
    obtain ⟨grants, link, emptied, free, ends⟩ := vestibuleEmptied_as v .vestibuleOut (s.ungranted d)
    have ok' := placesSet_ok (p := .outside) ((s.vests.get v).occupants.map Occupant.slot) ok
    have outside : ∀ o ∈ (s.vests.get v).occupants,
        sparseGet .outside (placesSet .outside ((s.vests.get v).occupants.map Occupant.slot) s.locations) o.slot = .outside :=
      fun o mem => placesSet_mem (List.mem_map_of_mem mem) (.inr ok)
    rw [passage_outbound role grant purpose, emptied, foldl_slotMoved_outside v g.holders (by exact ok') (by
      intro h mem
      obtain ⟨o, occupant, same⟩ := inside h mem
      rw [← same]
      exact outside o occupant), settle_still (by rfl)]
    refine ⟨rfl, free d (put_get_same ..), fun o mem => ?_, fun slot apart => ?_, fun e w other held => ?_, rfl⟩
    · by_cases again : o.slot ∈ g.holders.map Holder.slot
      · exact placesSet_mem again (.inr ok')
      · exact (placesSet_other again _).trans (outside o mem)
    · have absent : slot ∉ (s.vests.get v).occupants.map Occupant.slot := by
        rintro mem
        obtain ⟨o, occupant, same⟩ := List.mem_map.1 mem
        exact apart o occupant same
      refine (placesSet_other ?_ _).trans (placesSet_other absent _)
      intro mem
      obtain ⟨h, holder, rfl⟩ := List.mem_map.1 mem
      obtain ⟨o, occupant, same⟩ := inside h holder
      exact apart o occupant same
    · exact ends e w ((put_get_other _ _ other).trans held)
  · rintro s d v g h role exists_ grant purpose holders here unheld t rfl
    rw [passage_chamber role exists_ grant purpose holders (.inl here)]
    have elsewhere : s.location h.slot ≠ .outside := by rw [here]; exact Location.noConfusion
    rw [if_neg elsewhere]
    generalize same : raise .exit _ _ _ = u
    have rooms : u.rooms = put s.rooms v { s.rooms.get v with listed := (s.rooms.get v).listed.filter (fun e => e.slot ≠ h.slot) } := same ▸ rfl
    have others : ∀ w, w ≠ v → s.rooms.get w = u.rooms.get w := fun w other => by rw [rooms, put_get_other _ _ other]
    have zones : u.zones = s.zones := same ▸ rfl
    have listed := settle_rooms s.rooms u v
    obtain ⟨-, apart⟩ := settle_alone others
    obtain ⟨zones', rooms', settled, otherZones, stands⟩ := settle_unheld others (by rw [zones]; exact unheld)
    rw [zones] at otherZones stands
    have effective : ((settle s.rooms u).rooms.get v).effective = (u.rooms.get v).effective := by rw [listed]; rfl
    refine ⟨?_, ?_, ?_, ?_, fun w other => (apart w other).trans (others w other).symm, ?_, ?_, ?_⟩
    · rw [settled, ← same]
      rfl
    · rw [listed, rooms, put_get_same]
    · rw [settled, ← same]
      rfl
    · rw [settled, ← same]
      rfl
    · intro z other
      rw [settled]
      exact otherZones z other
    · intro bounded
      rw [effective] at bounded
      rw [settled]
      exact stands bounded
    · rw [settled, ← same]
      rfl
  · rintro s d v g h role exists_ grant purpose holders here x rfl
    exact passage_chamber role exists_ grant purpose holders here
  · rintro s d v role t rfl
    rw [egressPassage_outer role]
    refine ⟨egressOuter_empty, fun o rest occupants once ok => ?_, fun o rest occupants once => egressOuter_oldest occupants once⟩
    rw [egressOuter_oldest occupants once]
    generalize start : ({ s with
        locations := sparsePut .outside s.locations o.slot .outside
        vests := put s.vests v { direction := if rest = [] then .none else (s.vests.get v).direction, occupants := rest } } : State) = u
    have grants : u.grants = s.grants := start ▸ rfl
    have nv : u.nv = s.nv := start ▸ rfl
    have handed : ∀ e w, s.grants.get e = some w → _ := fun e w grant =>
      removalHanded_grants (s := u) v o.slot (e := e) (w := w) (by rw [grants]; exact grant)
    obtain ⟨_, _, same, -, -⟩ := removalHanded_ends v o.slot u
    rw [same] at handed ⊢
    rw [strongroomDoor_of_nv nv] at handed
    subst start
    exact ⟨rfl, rfl, handed, rfl⟩
  · intro s v i o d rederived inner outer innerRole outerRole here
    rw [handSecure_here innerRole outerRole here, autoRelease_eq inner outer]
    refine ⟨fun refused => if_neg ?_, fun outbound innerSecure outerSecure bolted free => ?_⟩
    · rintro ⟨outbound, innerSecure, outerSecure, free⟩
      rcases refused with other | other | other | taken
      · exact other outbound
      · exact other innerSecure
      · exact other outerSecure
      · exact (outerFree_false_iff _).2 taken free
    · have goes : outerFree (s.grants.get o) = true := by
        rw [outerFree_iff]
        intro g grant
        rcases free with empty | ⟨x, held, entry, waits, -⟩
        · rw [empty] at grant
          cases grant
        · rw [held] at grant
          cases grant
          exact ⟨entry, waits⟩
      rw [if_pos ⟨outbound, innerSecure, outerSecure, goes⟩]
      unfold State.outerReleased
      dsimp only
      rw [if_neg (by rw [bolted]; decide)]
      rcases free with empty | ⟨g, held, entry, waits, plain⟩
      · rw [if_pos empty]
        have dropped : s.grantDropped o .direction = s := by simp only [State.grantDropped, empty]
        rw [dropped, releaseTo_bolted _ _ _ bolted]
        rfl
      · rw [if_neg (by rw [held]; exact Option.some_ne_none g), grantDropped_plain .direction held plain,
          releaseTo_bolted _ _ _ (by exact bolted)]
        exact congrArg (fun grants => { raise .grantCancelled (.door o) (some (.reason .direction)) s with
          grants := grants
          doors := put s.doors o { s.doors.get o with
            state := .releasing, bolt := .withdrawn, motion := .moving .withdrawn (s.now + 3000) } }) (put_put ..)
  · rintro s v i o d rederived inner outer innerRole outerRole here outbound innerSecure outerSecure free u rfl
    rw [handSecure_here innerRole outerRole here, autoRelease_eq inner outer, if_pos ⟨outbound, innerSecure, outerSecure, (outerFree_iff _).2 free⟩]
    exact ⟨fun away => if_neg away, fun opened => if_pos opened⟩
  · intro s d rederived
    refine ⟨fun v role plain => ?_, fun role => handSecure_other rederived role, fun v role missing => ?_⟩
    · rw [handSecure_outer _ role, plain, if_neg Bool.false_ne_true]
    · rcases role with role | role
      · exact (handSecure_strongroom _ role).trans (autoRelease_none missing)
      · rw [handSecure_outer _ role, autoRelease_none missing, ite_self]

end Sys2Proof.Machine


/-! The week clock: windows, the mode, and what a change of mode does (R106, R135, R168, R181 to R185). -/

namespace Sys2Proof.Machine

variable {s t : State}

/-! ## A window at a minute of the week (R181) -/

theorem activeAt_day (p : WindowSettings) {day m : Nat} (week : day < 7) (minute : m < 1440) : p.activeAt (day * 1440 + m) =
    if p.start < p.stop then p.days.getLsbD day && p.start ≤ m && m < p.stop
    else (p.days.getLsbD day && p.start ≤ m) || (p.days.getLsbD ((day + 6) % 7) && m < p.stop) := by
  have ofDay : (day * 1440 + m) / 1440 = day := by omega
  have ofMinute : (day * 1440 + m) % 1440 = m := by omega
  have before : previousDay day = (day + 6) % 7 := by
    unfold previousDay
    split <;> omega
  simp only [WindowSettings.activeAt, Config.minutesPerDay, ofDay, ofMinute, before]

/-! ## Windows and mode evaluated (R106, R135, R182, R183) -/

theorem evalWindows_eq (s : State) : evalWindows s = s.windowsTaken := by
  refine foldl_same (fun t w => ?_) _ s
  unfold evalWindow State.windowNow
  dsimp only
  by_cases edge : t.clock.windows.get w ≠ (t.clock.valid && (t.windowSettings w).activeAt t.clock.minute) ∧ (t.windowSettings w).report = true
  · rw [if_pos edge]
    exact if_pos (by rw [Bool.and_eq_true, decide_eq_true_eq]; exact edge)
  · rw [if_neg edge]
    exact if_neg (by rw [Bool.and_eq_true, decide_eq_true_eq]; exact edge)

theorem raise_as (k : NoticeKind) (o : NoticeObject) (d : Option Detail) (s : State) :
    ∃ n lost, raise k o d s = { s with link := { s.link with notices := n, lost := lost } } := by
  obtain ⟨n, lost, taken⟩ := take_reach ⟨k, o, d, s.now, s.clockMinute, 1, false⟩ s.link
  exact ⟨n, lost, by rw [raise, taken]⟩

/-- The windows evaluated in turn: each by its record, the rest of the clock as it was. -/
theorem foldl_evalWindow (ws : List WindowId) (s : State) : ∃ windows n lost, ws.foldl (fun t w => evalWindow w t) s = { s with
    clock := { s.clock with windows := windows }, link := { s.link with notices := n, lost := lost } } ∧
    ∀ w, windows.get w = if w ∈ ws then s.windowNow w else s.clock.windows.get w := by
  induction ws generalizing s with
  | nil => exact ⟨_, _, _, rfl, fun w => rfl⟩
  | cons w rest ih =>
    have one : ∃ n lost, evalWindow w s = { s with
        clock := { s.clock with windows := put s.clock.windows w (s.windowNow w) }, link := { s.link with notices := n, lost := lost } } := by
      unfold evalWindow
      dsimp only
      split
      · exact raise_as ..
      · exact ⟨_, _, rfl⟩
    obtain ⟨n, lost, first⟩ := one
    obtain ⟨windows, n', lost', all, each⟩ := ih (evalWindow w s)
    refine ⟨windows, n', lost', ?_, fun x => ?_⟩
    · rw [List.foldl_cons, all, first]
    · rw [each, first]
      by_cases later : x ∈ rest
      · rw [if_pos later, if_pos (List.mem_cons_of_mem w later)]
        rfl
      · by_cases here : x = w
        · subst here
          rw [if_neg later, if_pos List.mem_cons_self, put_get_same]
        · rw [if_neg later, if_neg (by simp [here, later]), put_get_other _ _ here]

theorem windowsTaken_as (s : State) : ∃ windows n lost, s.windowsTaken = { s with
    clock := { s.clock with windows := windows }, link := { s.link with notices := n, lost := lost } } ∧
    ∀ w, windows.get w = s.windowNow w := by
  obtain ⟨windows, n, lost, all, each⟩ := foldl_evalWindow (every 16) s
  rw [← evalWindows_eq]
  exact ⟨windows, n, lost, all, fun w => (each w).trans (if_pos (mem_every w))⟩

/-- The lone-worker conditions evaluated in turn do not look at each other. -/
theorem foldl_evalLone {vs : List RoomId} (once : vs.Nodup) (s : State) : vs.foldl (fun t v => evalLone v t) s = { s with
    rooms := Vector.ofFn (fun v => if v ∈ vs then { s.rooms.get v with lone := s.loneFor v } else s.rooms.get v) } := by
  induction vs generalizing s with
  | nil =>
    refine congrArg (fun rooms => { s with rooms := rooms }) (table_ext fun v => ?_)
    simp
  | cons w rest ih =>
    obtain ⟨new, once⟩ := List.nodup_cons.1 once
    have reach := evalLone_reach w s
    have step := evalLone_eq w s
    rw [List.foldl_cons, ih once]
    have others : ∀ v, v ≠ w → (evalLone w s).rooms.get v = s.rooms.get v := fun v other => by rw [step]; exact put_get_other _ _ other
    have rooms : (evalLone w s).rooms.get w = { s.rooms.get w with lone := s.loneFor w } := by rw [step]; exact put_get_same ..
    have same : ∀ v, (if v ∈ rest then { (evalLone w s).rooms.get v with lone := (evalLone w s).loneFor v } else (evalLone w s).rooms.get v) =
        if v ∈ w :: rest then { s.rooms.get v with lone := s.loneFor v } else s.rooms.get v := fun v => by
      by_cases here : v = w
      · subst here
        rw [if_neg new, if_pos List.mem_cons_self, rooms]
      · rw [others v here, reach.loneFor (others v here)]
        simp [here]
    simp only [same]
    rw [step]

theorem forEach_evalLone (s : State) : forEach evalLone s = { s with
    rooms := Vector.ofFn (fun v => { s.rooms.get v with lone := s.loneFor v }) } := by
  refine (foldl_evalLone (nodup_every 12) s).trans ?_
  simp only [mem_every, if_true]

/-- Which grants a change to AFTER_HOURS reaches, in the words of the obligations. -/
theorem modeCancels_eq (d : DoorId) (night : s.clock.mode = .afterHours) : s.modeCancels d = s.afterHoursReaches d := by
  have late : ∀ badge, s.outOfHours (s.recordOf badge) = !s.carries badge (fun f => f.afterHours) := fun badge => by
    simp only [State.outOfHours, State.recordOf, State.carries, night]
    cases s.nv.findBadge badge <;> simp
  have plain : ∀ badge, excused (s.recordOf badge) = s.carries badge (fun f => f.solo || f.emergencyCrew) := fun badge => by
    simp only [excused, State.recordOf, State.carries]
    cases s.nv.findBadge badge <;> simp
  unfold State.modeCancels State.afterHoursReaches
  cases grant : s.grants.get d with
  | none => rfl
  | some g =>
    have alone : s.loneHolder d g = (decide (g.holders.length = 1) &&
        g.holders.all (fun h => !s.carries h.badge (fun f => f.solo || f.emergencyCrew)) &&
        (match s.role d with
          | .strongroom v => s.hasVestibule v || (s.rooms.get v).listed.isEmpty
          | _ => false)) := by
      unfold State.loneHolder State.entryKind
      simp only [plain]
      rcases g.holders with _ | ⟨h, _ | ⟨h', rest⟩⟩
      · cases s.role d <;> simp
      · cases s.role d with
        | strongroom v => cases chamber : s.hasVestibule v <;> simp [chamber, Bool.and_comm]
        | vestibuleOuter v => simp
        | perimeter => simp
        | unused => simp
      · cases s.role d <;> simp
    simp only [late, alone, Option.any_some] <;> rfl

theorem foldl_outOfHours (ds : List DoorId) (night : s.clock.mode = .afterHours) :
    ds.foldl (fun t d => if t.modeCancels d then cancelGrant d .outOfHours t else t) s =
      ds.foldl (fun t d => if t.afterHoursReaches d then cancelGrant d .outOfHours t else t) s := by
  induction ds generalizing s with
  | nil => rfl
  | cons d rest ih =>
    simp only [List.foldl_cons, modeCancels_eq d night]
    refine ih ?_
    split
    · exact (congrArg WeekClock.mode (cancelGrant_reach ..).clock).trans night
    · exact night

theorem deriveMode_eq (s : State) : deriveMode s = s.modeTaken := by
  unfold deriveMode State.modeTaken
  dsimp only
  rw [modeGiven_eq]
  by_cases same : s.clock.derivedMode = s.clock.mode
  · rw [if_pos same, if_pos same]
  · rw [if_neg same, if_neg same, forEach_evalLone]
    by_cases night : s.clock.derivedMode = .afterHours
    · rw [if_pos night, if_pos night]
      unfold cancelOutOfHours forEach
      rw [foldl_outOfHours (every 20) night]
    · rw [if_neg night, if_neg night]

theorem modeTaken_same (same : modeGiven s.clock = s.clock.mode) : s.modeTaken = s := if_pos same

/-- What a derived mode comes to: the clock with the mode, and what it does to the grants and the strongrooms. -/
theorem modeTaken_as (s : State) : ∃ u, AccessOnly { s with clock := { s.clock with mode := modeGiven s.clock } } u ∧
    ∃ rooms, s.modeTaken = { u with rooms := rooms } := by
  by_cases same : modeGiven s.clock = s.clock.mode
  · refine ⟨s, ?_, s.rooms, modeTaken_same same⟩
    rw [same]
    exact .refl s
  · unfold State.modeTaken
    rw [if_neg same]
    refine ⟨_, (raise_reach .modeChange .none (some (.named (.mode (modeGiven s.clock)))) _).trans (.ite (.foldl (fun t d => ?_) _ _) (.refl _)), _, rfl⟩
    exact .ite (cancelGrant_reach ..) (.refl t)

theorem modeTaken_clock (s : State) : s.modeTaken.clock = { s.clock with mode := modeGiven s.clock } := by
  obtain ⟨u, reach, rooms, taken⟩ := modeTaken_as s
  rw [taken]
  exact reach.clock

theorem modeTaken_outstanding (s : State) : s.modeTaken.link.outstanding = s.link.outstanding := by
  obtain ⟨u, reach, rooms, taken⟩ := modeTaken_as s
  rw [taken]
  exact reach.band.outstanding

theorem modeTaken_eq (s : State) : s.modeTaken = { s with
    clock := s.modeTaken.clock, rooms := s.modeTaken.rooms, grants := s.modeTaken.grants, doors := s.modeTaken.doors
    vests := s.modeTaken.vests, locations := s.modeTaken.locations, link := s.modeTaken.link } := by
  obtain ⟨u, ⟨_, _, _, _, _, _, _, rfl⟩, rooms, taken⟩ := modeTaken_as s
  rw [taken]

/-- The clock that evaluation leaves, and what else it may touch. -/
theorem evaluated_clock (s : State) : (∀ w, s.windowsTaken.modeTaken.clock.windows.get w = s.windowNow w) ∧
    s.windowsTaken.modeTaken.clock = { s.clock with
      windows := s.windowsTaken.modeTaken.clock.windows, mode := modeGiven s.windowsTaken.modeTaken.clock } ∧
    s.windowsTaken.modeTaken = { s with
      clock := s.windowsTaken.modeTaken.clock, rooms := s.windowsTaken.modeTaken.rooms, grants := s.windowsTaken.modeTaken.grants
      doors := s.windowsTaken.modeTaken.doors, vests := s.windowsTaken.modeTaken.vests
      locations := s.windowsTaken.modeTaken.locations, link := s.windowsTaken.modeTaken.link } ∧
    s.windowsTaken.modeTaken.link.outstanding = s.link.outstanding := by
  obtain ⟨windows, n, lost, taken, each⟩ := windowsTaken_as s
  have clock := modeTaken_clock s.windowsTaken
  have whole := modeTaken_eq s.windowsTaken
  have outstanding := modeTaken_outstanding s.windowsTaken
  generalize s.windowsTaken.modeTaken = u at *
  rw [taken] at clock whole outstanding
  refine ⟨fun w => ?_, ?_, whole, outstanding⟩
  · rw [clock]
    exact each w
  · rw [clock]
    rfl

theorem modeTaken_changed (changed : modeGiven s.clock ≠ s.clock.mode) (v : RoomId) : s.modeTaken.rooms.get v = { s.rooms.get v with
    lone := ({ s with clock := { s.clock with mode := modeGiven s.clock } } : State).loneFor v } := by
  unfold State.modeTaken
  rw [if_neg changed]
  dsimp only
  rw [ofFn_get]
  generalize cancelled : (if modeGiven s.clock = .afterHours then _ else _ : State) = u
  have reach : AccessOnly { s with clock := { s.clock with mode := modeGiven s.clock } } u := by
    rw [← cancelled]
    refine (raise_reach .modeChange .none (some (.named (.mode (modeGiven s.clock)))) _).trans (.ite (.foldl (fun t d => ?_) _ _) (.refl _))
    exact .ite (cancelGrant_reach ..) (.refl t)
  rw [reach.rooms, reach.release.loneFor]

theorem afterHoursReaches_free {d : DoorId} (free : s.grants.get d = none) : s.afterHoursReaches d = false := by
  simp [State.afterHoursReaches, free]

/-- With no grant anywhere a change of mode is raised and the lone-worker conditions follow, nothing else. -/
theorem modeTaken_ungranted (changed : modeGiven s.clock ≠ s.clock.mode) (free : ∀ d, s.grants.get d = none) :
    s.modeTaken = { raise .modeChange .none (some (.named (.mode (modeGiven s.clock))))
      { s with clock := { s.clock with mode := modeGiven s.clock } } with rooms := s.modeTaken.rooms } := by
  unfold State.modeTaken
  rw [if_neg changed]
  dsimp only
  have fixed : (every 20).foldl (fun t d => if t.afterHoursReaches d then cancelGrant d .outOfHours t else t)
      (raise .modeChange .none (some (.named (.mode (modeGiven s.clock)))) { s with clock := { s.clock with mode := modeGiven s.clock } }) =
      raise .modeChange .none (some (.named (.mode (modeGiven s.clock)))) { s with clock := { s.clock with mode := modeGiven s.clock } } :=
    foldl_fixed _ fun d _ => by
      rw [afterHoursReaches_free (by exact free d), if_neg Bool.false_ne_true]
  rw [fixed, ite_self]

/-! ## The events of the clock (R179, R184, R185) -/

theorem takeBoundary_eq (s : State) : takeBoundary s =
    if s.clock.valid then { s with clock := { s.clock with boundaryDue := false } }.windowsTaken.modeTaken
    else { s with clock := { s.clock with boundaryDue := false } } := by
  simp only [takeBoundary, deriveMode_eq, evalWindows_eq]

theorem exec_minuteBoundary (on : s.powered = true) (due : s.clock.boundaryDue = true) : exec .minuteBoundary s = .next (takeBoundary s) := by
  have taken : exec .minuteBoundary s = .next (if s.clock.boundaryDue then takeBoundary s else s) := powered_on on
  rw [taken, if_pos due]

theorem answer_evaluated {u : State} {r : Request} (owed : u.link.outstanding = some r) :
    answer .ok u.windowsTaken.modeTaken = u.windowsTaken.modeTaken.withReply r.kind r.tag .ok .none :=
  answer_outstanding .ok ((evaluated_clock u).2.2.2.trans owed)

theorem answer_modeTaken {u : State} {r : Request} (owed : u.link.outstanding = some r) :
    answer .ok u.modeTaken = u.modeTaken.withReply r.kind r.tag .ok .none :=
  answer_outstanding .ok ((modeTaken_outstanding u).trans owed)

theorem setTime_eq (minute second : Nat) (s : State) : setTime minute second s = { s with
    clock := ⟨minute, second, 0, true, s.clock.override, s.clock.windows, s.clock.mode, false⟩ }.windowsTaken.modeTaken := by
  simp only [setTime, deriveMode_eq, evalWindows_eq]

theorem exec_timeSet (tag : Nat) {minute second : Nat} (free : s.free) (week : minute < 10080) (sixty : second < 60) :
    exec (.timeSet tag minute second) s = .next ({ heard 0x50 tag s with
      clock := ⟨minute, second, 0, true, s.clock.override, s.clock.windows, s.clock.mode, false⟩
      }.windowsTaken.modeTaken.withReply 0x50 tag .ok .none) := by
  have inRange : checkTime minute second = some (minute, second) := by
    unfold checkTime Config.minutesPerWeek
    exact if_pos (by rw [Bool.and_eq_true, decide_eq_true_eq, decide_eq_true_eq]; omega)
  have taken : exec (.timeSet tag minute second) s = .next (performTimeSet minute second (heard 0x50 tag s)) := onRequest_free 0x50 tag _ free
  rw [taken, performTimeSet, inRange, withObject_some, performed, setTime_eq]
  exact congrArg _ (answer_evaluated (r := ⟨0x50, tag⟩) rfl)

theorem exec_modeSet (tag : Nat) {code : Nat} {o : ModeOverride} (free : s.free) (named : overrideOf code = some o) :
    exec (.modeSet tag code) s = .next
      ({ heard 0x35 tag s with clock := { s.clock with override := o } }.modeTaken.withReply 0x35 tag .ok .none) := by
  have taken : exec (.modeSet tag code) s = .next (performModeSet code (heard 0x35 tag s)) := onRequest_free 0x35 tag _ free
  rw [taken, performModeSet, named, withObject_some, performed, setOverride, deriveMode_eq]
  exact congrArg _ (answer_modeTaken (r := ⟨0x35, tag⟩) rfl)

theorem overrideOf_code (o : ModeOverride) : overrideOf (match o with | .auto => 0 | .forceDay => 1 | .forceAfterHours => 2) = some o := by
  cases o <;> rfl

/-- Settles O39: a window by the day it falls on, and each event of the clock by what the evaluation of windows and mode comes to. -/
theorem clockEventsEvaluateWindowsAndMode : Obligations.ClockEventsEvaluateWindowsAndMode := by
  refine ⟨fun p day m week minute => ⟨fun before => ?_, fun after => ?_⟩, ⟨?_, ?_, ?_⟩, fun s on => ⟨fun early => ?_, fun due invalid => ?_, fun due valid => ?_⟩,
    fun s tag free => ⟨fun minute second week sixty => exec_timeSet tag free week sixty, fun o => exec_modeSet tag free (overrideOf_code o)⟩⟩
  · rw [activeAt_day p week minute, if_pos before]
    simp [and_assoc]
  · rw [activeAt_day p week minute, if_neg (Nat.lt_asymm after)]
    simp
  · intro s on due valid
    have executed := (exec_minuteBoundary on due).trans (congrArg _ ((takeBoundary_eq s).trans (if_pos valid)))
    obtain ⟨windows, clock, whole, -⟩ := evaluated_clock { s with clock := { s.clock with boundaryDue := false } }
    generalize State.modeTaken _ = u at *
    refine ⟨_, executed, fun w => ?_, clock, whole⟩
    rw [windows]
    exact Bool.and_eq_right_iff_imp.2 fun _ => valid
  · intro s tag minute second free week sixty
    obtain ⟨windows, clock, whole, -⟩ := evaluated_clock { heard 0x50 tag s with
      clock := ⟨minute, second, 0, true, s.clock.override, s.clock.windows, s.clock.mode, false⟩ }
    have executed := exec_timeSet tag free week sixty
    generalize State.modeTaken _ = u at *
    refine ⟨_, executed, windows, clock, ?_⟩
    rw [whole]
    rfl
  · intro s tag o free
    refine ⟨_, exec_modeSet tag free (overrideOf_code o), ?_⟩
    have clock := modeTaken_clock { heard 0x35 tag s with clock := { s.clock with override := o } }
    have whole := modeTaken_eq { heard 0x35 tag s with clock := { s.clock with override := o } }
    have same := modeTaken_same (s := { heard 0x35 tag s with clock := { s.clock with override := o } })
    have rooms := modeTaken_changed (s := { heard 0x35 tag s with clock := { s.clock with override := o } })
    have ungranted := modeTaken_ungranted (s := { heard 0x35 tag s with clock := { s.clock with override := o } })
    generalize State.modeTaken _ = u at *
    have clock' : u.clock = { s.clock with override := o, mode := modeGiven u.clock } := by rw [clock]; rfl
    have mode : u.clock.mode = modeGiven { s.clock with override := o } := by rw [clock]
    refine ⟨clock', fun kept => ?_, fun changed => ⟨fun v => ?_, fun free => ?_⟩, ?_⟩
    · rw [same (mode.symm.trans kept)]
    · refine (rooms (mode ▸ changed) v).trans ?_
      have lone : u.clock.mode = modeGiven { s.clock with override := o } := mode
      simp only [State.withReply, lone]
      rfl
    · have only := ungranted (mode ▸ changed) free
      rw [only]
      simp only [State.withReply]
      rfl
    · rw [whole]
      rfl
  · have taken : exec .minuteBoundary s = .next (if s.clock.boundaryDue then takeBoundary s else s) := powered_on on
    rw [taken, early, if_neg Bool.false_ne_true]
  · rw [exec_minuteBoundary on due, takeBoundary_eq, invalid, if_neg Bool.false_ne_true]
  · rw [exec_minuteBoundary on due, takeBoundary_eq, if_pos valid]

end Sys2Proof.Machine


/-! The encoder and the decoder of requests (R187, R190, 11.6). -/

namespace Sys2Proof

/-! ## Fields found again from their bytes -/

theorem byte_again {n : Nat} (fits : byteOk n = true) : (byteOf n).toNat = n := byteOf_toNat (of_decide_eq_true fits)

theorem word_again {n : Nat} (fits : wordOk n = true) : be2 (byteOf (n / 256)) (byteOf n) = n := be2_bytes2 (of_decide_eq_true fits)

theorem long_again {n : Nat} (fits : longOk n = true) :
    be4 (byteOf (n / 16777216)) (byteOf (n / 65536)) (byteOf (n / 256)) (byteOf n) = n := be4_bytes4 (of_decide_eq_true fits)

theorem body1_bytes {f : Nat → Instr} {a : Nat} (fits : byteOk a = true) : body1 f (bytes [a]) = .request (f a) :=
  congrArg (fun n => Decoded.request (f n)) (byte_again fits)

theorem body2_bytes {f : Nat → Nat → Instr} {a b : Nat} (first : byteOk a = true) (second : byteOk b = true) :
    body2 f (bytes [a, b]) = .request (f a b) := by
  simp only [body2, bytes, List.map_cons, List.map_nil, byte_again first, byte_again second]

/-- The count of the bands, at most 48, fits its byte. -/
theorem decodeSetClass_bytes {tag cls confirm hyst : Nat} {bands : List BandField}
    (fits : (Instr.setClass tag cls confirm hyst bands).wellFormed = true) :
    decodeSetClass tag (bytes [cls, confirm, hyst, bands.length] ++ encodeBands bands) = .request (.setClass tag cls confirm hyst bands) := by
  simp only [Instr.wellFormed, Bool.and_eq_true, decide_eq_true_eq] at fits
  obtain ⟨⟨⟨⟨⟨-, class_⟩, count⟩, width⟩, few⟩, each⟩ := fits
  have length : (byteOf bands.length).toNat = bands.length := byteOf_toNat (by omega)
  simp only [bytes, List.map_cons, List.map_nil, List.cons_append, List.nil_append, decodeSetClass, length, decodeBands_encodeBands bands each,
    byte_again class_, byte_again count, byte_again width]

theorem decodeSetNoticeMask_bytes {tag : Nat} {pairs : List (Nat × Nat)} (fits : (Instr.setNoticeMask tag pairs).wellFormed = true) :
    decodeSetNoticeMask tag (byteOf pairs.length :: encodePairs pairs) = .request (.setNoticeMask tag pairs) := by
  simp only [Instr.wellFormed, Bool.and_eq_true, decide_eq_true_eq] at fits
  obtain ⟨⟨-, few⟩, each⟩ := fits
  have length : (byteOf pairs.length).toNat = pairs.length := byteOf_toNat (by omega)
  have again := decodePairs_encodePairs pairs (by simpa only [Bool.and_eq_true] using each)
  simp only [decodeSetNoticeMask, length, again]

/-! ## Requests found again from their frames -/

/-- A request is found again from its kind, tag and body. -/
theorem decodeRequest_encodeRequest {i : Instr} {f : RequestFrame} (fits : i.wellFormed = true) (encoded : encodeRequest i = some f) :
    decodeRequest f.kind f.tag f.body = .request i := by
  cases i with
  | coldStart | warmStart _ | powerLoss _ | conversionEnd _ | duressDeadline _ | stuckDeadline _ | countdownExpiry _ | holdDeadline _
  | pulseEnd _ _ _ | rechargePauseEnd | continuityTest _ _ | soakExpiry _ | ventExpiry _ | intervalDeadline _ | responseWindowDeadline _
  | overcurrentTrip _ | coolDownEnd _ | motionTimeout _ | releaseDeadline _ | heldOpenDeadline _ | pairWindowLapse _ | delayHoldEnd _
  | confirmTimeout _ | minuteBoundary | byteReceived _ _ | byteGapTimeout | linkBreak | replySent | hostPresenceTimeout | markWriteDone
  | settingsWriteDone | commitDone | deferredPresent _ | deferredRecheck _ | deferredGetCredential _ => cases encoded
  | getClock _ | fetchNotice _ | rowCommit _ | rowDiscard _ | freezeSet _ | freezeClear _ | restart _ =>
    cases encoded
    rfl
  | status _ _ | getLine _ _ | measureLine _ _ | getZone _ _ | getActuator _ _ | getDoor _ _ | getVestibule _ _ | getOccupancy _ _
  | rowOpen _ _ | confirm _ _ | deny _ _ | modeSet _ _ | vestibuleFlush _ _ | zoneIsolate _ _ | zoneDeisolate _ _ | zoneReset _ _
  | releaseZone _ _ | actuatorRearm _ _ | doorService _ _ =>
    cases encoded
    exact body1_bytes (Bool.and_eq_true_iff.1 fits).2
  | setActuator _ _ _ | doorMode _ _ _ | doorDrive _ _ _ =>
    cases encoded
    simp only [Instr.wellFormed, Bool.and_eq_true] at fits
    exact body2_bytes fits.1.2 fits.2
  | setClass => cases encoded; exact decodeSetClass_bytes fits
  | setNoticeMask => cases encoded; exact decodeSetNoticeMask_bytes fits
  | getCredential | setLoop | setZone | setDoor | setWindow | slotStage | present | occupantClear | timeSet =>
    cases encoded
    simp only [Instr.wellFormed, Bool.and_eq_true] at fits
    simp only [decodeRequest, decodeGetCredential, decodeSetLoop, decodeSetZone, decodeSetDoor, decodeSetWindow, decodeSlotStage,
      decodePresent, decodeOccupantClear, decodeTimeSet, bytes, bytes2, bytes4, List.map_cons, List.map_nil, List.cons_append,
      List.nil_append, byte_again, word_again, long_again, fits]

end Sys2Proof

namespace Sys2Proof.Machine

/-- Settles O50. -/
theorem requestDecodesFromItsEncoding : Obligations.RequestDecodesFromItsEncoding :=
  fun _ _ fits encoded => decodeRequest_encodeRequest fits encoded

end Sys2Proof.Machine


/-! The receiver, and whole frames that arrive byte by byte (R187, R188, R190). -/

namespace Sys2Proof

/-! ## Bodies of another length than their kind has (11.6) -/

theorem body0_length {i : Instr} {body : List Byte} (h : body.length ≠ 0) : body0 i body = .frameLength := by
  cases body with
  | nil => exact absurd rfl h
  | cons => rfl

theorem body1_length {f : Nat → Instr} {body : List Byte} (h : body.length ≠ 1) : body1 f body = .frameLength := by
  unfold body1
  split
  · exact absurd rfl h
  · rfl

theorem body2_length {f : Nat → Nat → Instr} {body : List Byte} (h : body.length ≠ 2) : body2 f body = .frameLength := by
  unfold body2
  split
  · exact absurd rfl h
  · rfl

theorem decodeBands_length {n : Nat} {body : List Byte} {bs : List BandField} (h : decodeBands n body = some bs) : body.length = 5 * n := by
  induction n, body using decodeBands.induct generalizing bs with
  | case1 => rfl
  | case2 n c l1 l0 h1 h0 rest ih =>
    rw [decodeBands, Option.map_eq_some_iff] at h
    obtain ⟨_, found, -⟩ := h
    simp only [List.length_cons, ih found]
    omega
  | case3 n body zero more =>
    rw [decodeBands] at h
    · cases h
    · exact zero
    · exact more

theorem decodePairs_length {n : Nat} {body : List Byte} {ps : List (Nat × Nat)} (h : decodePairs n body = some ps) : body.length = 2 * n := by
  induction n, body using decodePairs.induct generalizing ps with
  | case1 => rfl
  | case2 n k v rest ih =>
    rw [decodePairs, Option.map_eq_some_iff] at h
    obtain ⟨_, found, -⟩ := h
    simp only [List.length_cons, ih found]
    omega
  | case3 n body zero more =>
    rw [decodePairs] at h
    · cases h
    · exact zero
    · exact more

theorem decodeSetClass_length {tag : Nat} {body : List Byte} (h : body.length ≠ 4 + 5 * (body.getD 3 0#8).toNat) :
    decodeSetClass tag body = .frameLength := by
  unfold decodeSetClass
  split
  · split
    · next found =>
      have length := decodeBands_length found
      exact absurd (by simp [length]; omega) h
    · rfl
  · rfl

theorem decodeSetNoticeMask_length {tag : Nat} {body : List Byte} (h : body.length ≠ 1 + 2 * (body.getD 0 0#8).toNat) :
    decodeSetNoticeMask tag body = .frameLength := by
  unfold decodeSetNoticeMask
  split
  · split
    · next found =>
      have length := decodePairs_length found
      exact absurd (by simp [length]; omega) h
    · rfl
  · rfl

section
variable {tag : Nat} {body : List Byte}

theorem decodeSetLoop_length (h : body.length ≠ 14) : decodeSetLoop tag body = .frameLength := by
  unfold decodeSetLoop
  split
  · exact absurd rfl h
  · rfl

theorem decodeSetZone_length (h : body.length ≠ 11) : decodeSetZone tag body = .frameLength := by
  unfold decodeSetZone
  split
  · exact absurd rfl h
  · rfl

theorem decodeSetDoor_length (h : body.length ≠ 13) : decodeSetDoor tag body = .frameLength := by
  unfold decodeSetDoor
  split
  · exact absurd rfl h
  · rfl

theorem decodeSetWindow_length (h : body.length ≠ 7) : decodeSetWindow tag body = .frameLength := by
  unfold decodeSetWindow
  split
  · exact absurd rfl h
  · rfl

theorem decodeSlotStage_length (h : body.length ≠ 12) : decodeSlotStage tag body = .frameLength := by
  unfold decodeSlotStage
  split
  · exact absurd rfl h
  · rfl

theorem decodePresent_length (h : body.length ≠ 6) : decodePresent tag body = .frameLength := by
  unfold decodePresent
  split
  · exact absurd rfl h
  · rfl

theorem decodeOccupantClear_length (h : body.length ≠ 4) : decodeOccupantClear tag body = .frameLength := by
  unfold decodeOccupantClear
  split
  · exact absurd rfl h
  · rfl

theorem decodeGetCredential_length (h : body.length ≠ 2) : decodeGetCredential tag body = .frameLength := by
  unfold decodeGetCredential
  split
  · exact absurd rfl h
  · rfl

theorem decodeTimeSet_length (h : body.length ≠ 3) : decodeTimeSet tag body = .frameLength := by
  unfold decodeTimeSet
  split
  · exact absurd rfl h
  · rfl

end

end Sys2Proof

namespace Sys2Proof.Machine

variable {s t : State}

theorem decodeRequest_unknown {kind tag : Nat} {body : List Byte} (unknown : bodyLength kind body = none) :
    decodeRequest kind tag body = .unknownKind := by
  unfold decodeRequest
  split
  all_goals first | cases unknown | rfl

theorem decodeRequest_length {kind tag n : Nat} {body : List Byte} (known : bodyLength kind body = some n) (differs : body.length ≠ n) :
    decodeRequest kind tag body = .frameLength := by
  unfold bodyLength at known
  split at known
  all_goals cases known
  all_goals simp only [decodeRequest, body0_length, body1_length, body2_length, decodeSetClass_length, decodeSetLoop_length,
    decodeSetZone_length, decodeSetDoor_length, decodeSetWindow_length, decodeSetNoticeMask_length, decodeSlotStage_length,
    decodePresent_length, decodeOccupantClear_length, decodeGetCredential_length, decodeTimeSet_length, differs, ne_eq, not_false_eq_true]

/-! ## The receiver (R187, R188) -/

theorem exec_byteReceived (b : Byte) (on : s.powered = true) : exec (.byteReceived b true) s = .next (takeByte b s) := powered_on on

theorem setReceiver_same {r : Receiver} (h : s.link.receiver = r) : setReceiver r s = s := by
  subst h
  rfl

/-- The bytes of a body and its CRC, up to the last: the frame is complete. -/
theorem receiveAll_body {len : Nat} {got rest : List Byte} (on : s.powered = true) (length : got.length + rest.length = len + 2) (left : rest ≠ [])
    (receiver : s.link.receiver = .body len got) : receiveAll rest s = .next (completeFrame len (got ++ rest) s) := by
  induction rest generalizing got s with
  | nil => exact absurd rfl left
  | cons b rest ih =>
    rw [List.length_cons] at length
    have taken : takeByte b s =
        if got.length + 1 < len + 2 then setReceiver (.body len (got ++ [b])) s else completeFrame len (got ++ [b]) s := by
      simp only [takeByte, receiver]
    rw [receiveAll, exec_byteReceived b on]
    dsimp only
    rw [taken]
    by_cases last : rest = []
    · subst last
      rw [List.length_nil] at length
      rw [if_neg (by omega), receiveAll]
    · have more := List.length_pos_iff.2 last
      rw [if_pos (by omega), ih (s := setReceiver (.body len (got ++ [b])) s) on (by rw [List.length_append, List.length_singleton]; omega) last rfl,
        List.append_assoc, List.singleton_append]
      rfl

theorem crcBytes_length (r : Crc) : (crcBytes r).length = 2 := rfl

/-- A complete frame whose CRC is the computed one is taken. -/
theorem completeFrame_agrees {len : Nat} {kind tag : Byte} {body : List Byte} (length : len = body.length + 2) :
    completeFrame len (kind :: tag :: body ++ crcBytes (crcOf (byteOf len :: kind :: tag :: body))) s =
      takeRequest kind.toNat tag.toNat (performFrame kind.toNat tag.toNat body) (setReceiver .hunt s) := by
  have covered : len = (kind :: tag :: body).length := length
  have taken := List.take_left' (l₁ := kind :: tag :: body) (l₂ := crcBytes (crcOf (byteOf len :: kind :: tag :: body))) covered.symm
  have dropped := List.drop_left' (l₁ := kind :: tag :: body) (l₂ := crcBytes (crcOf (byteOf len :: kind :: tag :: body))) covered.symm
  unfold completeFrame crcAgrees
  dsimp only
  rw [taken, dropped, if_pos (decide_eq_true rfl)]

/-- A whole frame, byte by byte, comes to its request. -/
theorem receiveAll_frame {kind tag : Nat} {body : List Byte} (kindFits : kind < 256) (tagFits : tag < 256) (bodyFits : body.length ≤ 248)
    (on : s.powered = true) (hunts : s.link.receiver = .hunt) :
    receiveAll (frameBytes kind tag body) s = .next (takeRequest kind tag (performFrame kind tag body) s) := by
  have len : (byteOf (body.length + 2)).toNat = body.length + 2 := byteOf_toNat (by omega)
  have sync : takeByte 0xA5#8 s = setReceiver .length s := by simp only [takeByte, hunts, if_true]
  have length : takeByte (byteOf (body.length + 2)) (setReceiver .length s) = setReceiver (.body (body.length + 2) []) s := by
    unfold takeByte
    rw [show (setReceiver .length s).link.receiver = .length from rfl]
    dsimp only
    rw [len, if_pos (by rw [Bool.and_eq_true, decide_eq_true_eq, decide_eq_true_eq]; omega)]
    rfl
  unfold frameBytes
  simp only [List.cons_append]
  rw [receiveAll, exec_byteReceived _ on]
  dsimp only
  rw [sync, receiveAll, exec_byteReceived (s := setReceiver .length s) _ on]
  dsimp only
  rw [length, receiveAll_body (s := setReceiver (.body (body.length + 2) []) s) (len := body.length + 2) (got := []) on
    (by simp only [List.length_append, List.length_cons, List.length_nil, crcBytes_length]; omega) (by simp) rfl, List.nil_append]
  have complete := completeFrame_agrees (s := setReceiver (.body (body.length + 2) []) s) (len := body.length + 2) (kind := byteOf kind)
    (tag := byteOf tag) (body := body) rfl
  rw [byteOf_toNat kindFits, byteOf_toNat tagFits] at complete
  simp only [List.cons_append] at complete
  have hunting : setReceiver .hunt (setReceiver (.body (body.length + 2) []) s) = s := setReceiver_same hunts
  rw [complete, hunting]

/-! ## Requests as frames -/

/-- A request as one command is the request that its frame gives. -/
theorem exec_request_frame {i : Instr} {f : RequestFrame} (encoded : encodeRequest i = some f) (s : State) :
    exec i s = onRequest f.kind f.tag (performRequest i) s := by
  cases i <;> cases encoded <;> rfl

theorem encodeRequest_kind {i : Instr} {f : RequestFrame} (encoded : encodeRequest i = some f) : f.kind < 256 := by
  cases i <;> cases encoded <;> simp

theorem encodeRequest_tag {i : Instr} {f : RequestFrame} (fits : i.wellFormed = true) (encoded : encodeRequest i = some f) : f.tag < 256 := by
  cases i <;> cases encoded <;> simp only [Instr.wellFormed, Bool.and_eq_true, byteOk, decide_eq_true_eq] at fits <;> simp only [fits]

theorem encodeRequest_body {i : Instr} {f : RequestFrame} (fits : i.wellFormed = true) (encoded : encodeRequest i = some f) :
    f.body.length ≤ 248 := by
  cases i with
  | setClass _ _ _ _ bands =>
    cases encoded
    simp only [Instr.wellFormed, Bool.and_eq_true, decide_eq_true_eq] at fits
    obtain ⟨⟨-, few⟩, -⟩ := fits
    simp only [bytes, List.map_cons, List.map_nil, List.length_append, List.length_cons, List.length_nil, encodeBands_length]
    omega
  | setNoticeMask _ pairs =>
    cases encoded
    simp only [Instr.wellFormed, Bool.and_eq_true, decide_eq_true_eq] at fits
    obtain ⟨⟨-, few⟩, -⟩ := fits
    simp only [List.length_cons, encodePairs_length]
    omega
  | _ => cases encoded <;> simp [bytes, bytes2, bytes4]

/-- Settles O40: the receiver by its states, a whole frame by its request, and the two refusals before any rule. -/
theorem receiverTakesFramesByByte : Obligations.ReceiverTakesFramesByByte := by
  refine ⟨by decide +kernel, ?_, ?_, ?_⟩
  · rintro s t b r on rfl
    refine ⟨?_, ?_, ?_, ?_, ?_⟩
    · rintro hunts rfl
      refine (exec_byteReceived b on).trans (congrArg _ ?_)
      simp only [takeByte, hunts]
      by_cases sync : b = 0xA5#8
      · rw [if_pos sync, if_pos sync]
        rfl
      · rw [if_neg sync, if_neg sync]
        exact (setReceiver_same hunts).symm
    · rintro lengths rfl
      refine (exec_byteReceived b on).trans (congrArg _ ?_)
      simp only [takeByte, lengths, Bool.and_eq_true, decide_eq_true_eq]
      by_cases fits : 2 ≤ b.toNat ∧ b.toNat ≤ 250
      · rw [if_pos fits, if_pos fits]
        rfl
      · rw [if_neg fits, if_neg fits]
        rfl
    · rintro len got gathers more rfl
      refine (exec_byteReceived b on).trans (congrArg _ ?_)
      simp only [takeByte, gathers, if_pos more]
      rfl
    · rintro len got gathers last differs rfl
      refine (exec_byteReceived b on).trans (congrArg _ ?_)
      simp only [takeByte, gathers, if_neg (show ¬got.length + 1 < len + 2 by omega), completeFrame, differs]
      rfl
    · rintro rfl
      exact ⟨powered_on on, powered_on on⟩
  · intro i f s fits encoded on hunts
    rw [receiveAll_frame (encodeRequest_kind encoded) (encodeRequest_tag fits encoded) (encodeRequest_body fits encoded) on hunts,
      exec_request_frame encoded]
    have performed : performFrame f.kind f.tag f.body = performRequest i := by
      funext u
      simp only [performFrame, decodeRequest_encodeRequest fits encoded]
    rw [performed]
    exact (powered_on on).symm
  · intro kind tag body s kindFits tagFits bodyFits free hunts
    refine ⟨fun unknown => ?_, fun n known differs => ?_⟩
    · rw [receiveAll_frame kindFits tagFits bodyFits free.1 hunts, takeRequest_free kind tag _ free.2]
      simp only [performFrame, decodeRequest_unknown unknown]
      exact congrArg _ (answer_heard kind tag .unknownKind s)
    · rw [receiveAll_frame kindFits tagFits bodyFits free.1 hunts, takeRequest_free kind tag _ free.2]
      simp only [performFrame, decodeRequest_length known differs]
      exact congrArg _ (answer_heard kind tag .frameLength s)

end Sys2Proof.Machine


/-! Operands that name no object or lie out of their range, and requests that find another outstanding (R190, R191). -/

namespace Sys2Proof.Machine

variable {s t : State}

/-! ## Operands that name something -/

theorem fromOne_some {n x : Nat} {i : Fin n} (h : fromOne n x = some i) : 1 ≤ x ∧ x ≤ n ∧ number i = x := by
  unfold fromOne at h
  split at h
  · next inside =>
    cases h
    exact ⟨inside.1, inside.2, Nat.sub_add_cancel inside.1⟩
  · cases h

theorem fromZero_some {n x : Nat} {i : Fin n} (h : fromZero n x = some i) : x < n := by
  unfold fromZero at h
  split at h
  · assumption
  · cases h

theorem switchOf_some {x : Nat} {b : Bool} (h : switchOf x = some b) : x < 2 := by
  unfold switchOf at h
  split at h
  · decide
  · decide
  · cases h

theorem placeOf_some {x : Nat} {p : Option RoomId} (h : placeOf x = some p) : x < 13 := by
  unfold placeOf at h
  split at h
  · omega
  · obtain ⟨v, named, -⟩ := Option.map_eq_some_iff.1 h
    have := fromOne_some named
    omega

theorem classOf_some {x : Nat} {c : LineClass} (h : classOf x = some c) : (classIndex c).val = x := by
  unfold classOf at h
  split at h <;> cases h <;> rfl

theorem bandOf_some {x : Nat} {b : Band} (h : bandOf x = some b) : b.code = x := by
  unfold bandOf at h
  split at h
  · next inside =>
    cases h
    exact Nat.add_sub_cancel' inside.1
  · split at h <;> cases h <;> rfl

theorem roleOf_some {code room : Nat} {r : Role} (h : roleOf code room = some r) : roleCode r = (code, room) := by
  unfold roleOf at h
  split at h
  · obtain ⟨v, named, rfl⟩ := Option.map_eq_some_iff.1 h
    exact congrArg (Prod.mk 0) (fromOne_some named).2.2
  · obtain ⟨v, named, rfl⟩ := Option.map_eq_some_iff.1 h
    exact congrArg (Prod.mk 1) (fromOne_some named).2.2
  · split at h
    · next zero => cases h; exact congrArg (Prod.mk 2) zero.symm
    · cases h
  · split at h
    · next zero => cases h; exact congrArg (Prod.mk 3) zero.symm
    · cases h
  · cases h

@[simp] theorem roleOf_roleCode (r : Role) : roleOf (roleCode r).1 (roleCode r).2 = some r := by
  cases r <;> simp [roleCode, roleOf]

theorem grantModeOf_some {x : Nat} {g : GrantMode} (h : grantModeOf x = some g) : x < 3 := by
  unfold grantModeOf at h
  split at h <;> first | decide | cases h

theorem overrideOf_some {x : Nat} {o : ModeOverride} (h : overrideOf x = some o) : x < 3 := by
  unfold overrideOf at h
  split at h <;> first | decide | cases h

theorem readerOf_some {x : Nat} {r : Reader} (h : readerOf x = some r) : x < 2 := by
  unfold readerOf at h
  split at h <;> first | decide | cases h

theorem credStateOf_some {x : Nat} {st : CredState} (h : credStateOf x = some st) : x < 2 := by
  unfold credStateOf at h
  split at h <;> first | decide | cases h

theorem doorModeOf_some {x : Nat} {m : DoorMode} (h : doorModeOf x = some m) : x < 2 := by
  unfold doorModeOf at h
  split at h <;> first | decide | cases h

theorem boltOf_some {x : Nat} {b : Bolt} (h : boltOf x = some b) : x < 2 := by
  unfold boltOf at h
  split at h <;> first | decide | cases h

theorem clearTargetOf_some {x slot : Nat} {c : ClearTarget} (h : clearTargetOf x slot = some c) : x < 3 ∧ (x = 0 → slot < 2048) := by
  unfold clearTargetOf at h
  split at h
  · obtain ⟨i, named, -⟩ := Option.map_eq_some_iff.1 h
    exact ⟨by decide, fun _ => fromZero_some named⟩
  · exact ⟨by decide, fun zero => absurd zero (by decide)⟩
  · exact ⟨by decide, fun zero => absurd zero (by decide)⟩
  · cases h

/-- Nothing is named where every name would contradict the operands. -/
theorem unnamed {α : Type} {x : Option α} (h : ∀ a, x = some a → False) : x = none := by
  cases found : x with
  | none => rfl
  | some a => exact (h a found).elim

/-! ## The ranges of settings (R6, R23, R39, R139, R180) -/

theorem bandList_some {bands : List BandField} {bs : List BandRange} (h : bandList bands = some bs) :
    bands = bs.map (fun r => ⟨r.band.code, r.low, r.high⟩) := by
  induction bands generalizing bs with
  | nil => cases h; rfl
  | cons f rest ih =>
    unfold bandList at h
    split at h
    · next b bs' named more =>
      cases h
      rw [List.map_cons, ← ih more]
      exact congrArg (fun code => (⟨code, f.low, f.high⟩ : BandField) :: rest) (bandOf_some named).symm
    · cases h

theorem bandsApart_iff (bs : List BandRange) : bandsApart bs = true ↔ bs.Pairwise (fun a b => a.high < b.low ∨ b.high < a.low) := by
  induction bs with
  | nil => simp [bandsApart]
  | cons b rest ih =>
    rw [bandsApart, Bool.and_eq_true, List.pairwise_cons, ih, List.all_eq_true]
    simp [BandRange.apart]

theorem classParams_ok_iff (c : LineClass) (p : ClassParams) : p.ok c = true ↔
    (1 ≤ p.confirm ∧ p.confirm ≤ 15 ∧ p.hysteresis ≤ 31 ∧ p.bands.length ≤ 10) ∧
    (∀ r ∈ p.bands, c.hasName r.band = true ∧ r.low ≤ r.high ∧ r.high ≤ 1023) ∧
    p.bands.Pairwise (fun a b => a.high < b.low ∨ b.high < a.low) := by
  rw [← bandsApart_iff]
  change (1 ≤ p.confirm && p.confirm ≤ 15 && p.hysteresis ≤ 31 && p.bands.length ≤ 10 &&
    p.bands.all (fun b => c.hasName b.band && b.low ≤ b.high && b.high ≤ 1023) && bandsApart p.bands) = true ↔ _
  simp only [Bool.and_eq_true, decide_eq_true_eq, List.all_eq_true, and_assoc]

theorem checkClass_some {cls n h : Nat} {bands : List BandField} {x : LineClass × ClassParams} (named : checkClass cls n h bands = some x) :
    ∃ bs, bands = bs.map (fun r => ⟨r.band.code, r.low, r.high⟩) ∧ (classIndex x.1).val = cls ∧ (⟨n, h, bs⟩ : ClassParams).ok x.1 = true := by
  unfold checkClass at named
  split at named
  · next c bs class_ list =>
    dsimp only at named
    split at named
    · next ok =>
      cases named
      exact ⟨bs, bandList_some list, classOf_some class_, ok⟩
    · cases named
  · cases named

theorem checkClass_none {cls n h : Nat} {bands : List BandField} (bad : 4 ≤ cls ∨ n = 0 ∨ 16 ≤ n ∨ 32 ≤ h ∨ 11 ≤ bands.length ∨
    (∃ b ∈ bands, b.high < b.low ∨ 1024 ≤ b.high ∨
      ∀ (c : LineClass) (x : Band), (classIndex c).val = cls → x.code = b.code → c.hasName x = false) ∨
    ¬bands.Pairwise (fun a b => a.high < b.low ∨ b.high < a.low)) : checkClass cls n h bands = none := by
  refine unnamed fun x named => ?_
  obtain ⟨bs, rfl, class_, ok⟩ := checkClass_some named
  obtain ⟨⟨one, most, width, few⟩, each, apart⟩ := (classParams_ok_iff ..).1 ok
  have index := (classIndex x.1).isLt
  rw [List.length_map] at bad
  dsimp only at one most width few each apart
  rcases bad with outside | outside | outside | outside | outside | ⟨b, mem, outside⟩ | shares
  · omega
  · omega
  · omega
  · omega
  · omega
  · obtain ⟨r, listed, rfl⟩ := List.mem_map.1 mem
    obtain ⟨has, order, top⟩ := each r listed
    dsimp only at outside
    rcases outside with outside | outside | nameless
    · omega
    · omega
    · have absent := nameless x.1 r.band class_ rfl
      rw [has] at absent
      cases absent
  · exact shares (List.pairwise_map.2 apart)

theorem checkLoop_none {k e d t sw p1 p2 p3 p4 p5 p6 : Nat} (bad : k = 0 ∨ 9 ≤ k ∨ e < 50 ∨ 1000 < e ∨ d < 500 ∨ 10000 < d ∨ t < 10 ∨
    600 < t ∨ d ≤ e ∨ t * 1000 ≤ d ∨ 2 ≤ sw ∨ ∃ p ∈ [p1, p2, p3, p4, p5, p6], 13 ≤ p) : checkLoop k e d t sw p1 p2 p3 p4 p5 p6 = none := by
  refine unnamed fun x named => ?_
  unfold checkLoop at named
  split at named
  · next loop switch n1 n2 n3 n4 n5 n6 =>
    dsimp only at named
    split at named
    · next ok =>
      simp only [LoopSettings.ok, Bool.and_eq_true, decide_eq_true_eq] at ok
      have := fromOne_some loop
      have := switchOf_some switch
      simp only [List.mem_cons, List.not_mem_nil, or_false, exists_eq_or_imp, exists_eq_left] at bad
      have := placeOf_some n1
      have := placeOf_some n2
      have := placeOf_some n3
      have := placeOf_some n4
      have := placeOf_some n5
      have := placeOf_some n6
      omega
    · cases named
  · cases named

theorem checkZone_none {z base ext tMax tMan tResume sw limit soak vent : Nat} (bad : z = 0 ∨ 13 ≤ z ∨ 120 < base ∨ 30 < ext ∨ tMax < 10 ∨
    180 < tMax ∨ tMax < base ∨ 60 < tMan ∨ tMax < tMan ∨ tMax < tResume ∨ 2 ≤ sw ∨ limit < 30 ∨ 900 < limit ∨ soak = 0 ∨
    60 < soak ∨ vent = 0 ∨ 120 < vent) : checkZone z base ext tMax tMan tResume sw limit soak vent = none := by
  refine unnamed fun x named => ?_
  unfold checkZone at named
  split at named
  · next zone switch =>
    dsimp only at named
    split at named
    · next ok =>
      simp only [ZoneSettings.ok, Bool.and_eq_true, decide_eq_true_eq] at ok
      have := fromOne_some zone
      have := switchOf_some switch
      omega
    · cases named
  · cases named

theorem checkWindow_none {w days start stop sw : Nat} (bad : 16 ≤ w ∨ 128 ≤ days ∨ 1440 ≤ start ∨ stop = 0 ∨ 1441 ≤ stop ∨ start = stop ∨
    2 ≤ sw) : checkWindow w days start stop sw = none := by
  refine unnamed fun x named => ?_
  unfold checkWindow at named
  split at named
  · next window switch =>
    split at named
    · next ok =>
      simp only [Bool.and_eq_true, decide_eq_true_eq] at ok
      have := fromZero_some window
      have := switchOf_some switch
      omega
    · cases named
  · cases named

theorem checkTime_none {minute second : Nat} (bad : 10080 ≤ minute ∨ 60 ≤ second) : checkTime minute second = none := by
  unfold checkTime Config.minutesPerWeek
  exact if_neg (by rw [Bool.and_eq_true, decide_eq_true_eq, decide_eq_true_eq]; omega)

/-! ## Roles beside those of the other doors (R158) -/

theorem otherHasRole_false_iff (s : State) (d : DoorId) (r : Role) : s.otherHasRole d r = false ↔ ∀ e, e ≠ d → r ∉ s.rolesAhead e := by
  unfold State.otherHasRole
  rw [List.any_eq_false]
  simp [mem_every]

theorem otherKeepsRole_iff (s : State) (d : DoorId) (r : Role) : s.otherKeepsRole d r = true ↔ ∃ e, e ≠ d ∧ ∀ q ∈ s.rolesAhead e, q = r := by
  unfold State.otherKeepsRole
  rw [List.any_eq_true]
  simp [mem_every]

theorem any_isOuter (roles : List Role) : roles.any Role.isOuter = (every 12).any (fun w => decide (Role.vestibuleOuter w ∈ roles)) := by
  rw [Bool.eq_iff_iff, List.any_eq_true, List.any_eq_true]
  constructor
  · rintro ⟨r, mem, outer⟩
    cases r with
    | vestibuleOuter w => exact ⟨w, mem_every w, decide_eq_true mem⟩
    | strongroom | perimeter | unused => cases outer
  · rintro ⟨w, -, mem⟩
    exact ⟨_, of_decide_eq_true mem, rfl⟩

theorem roleFits_iff (s : State) (d : DoorId) (r : Role) : s.roleFits d r = true ↔ s.RoleAllowed d r := by
  have keeps : ((s.rolesAhead d).all (fun q =>
      match q with
      | .strongroom v => r = .strongroom v || !s.otherHasRole d (.vestibuleOuter v)
      | _ => true) = true) ↔ ∀ v, .strongroom v ∈ s.rolesAhead d → r ≠ .strongroom v → ∀ e, e ≠ d → .vestibuleOuter v ∉ s.rolesAhead e := by
    rw [List.all_eq_true]
    constructor
    · intro all v mem changes
      have one := all _ mem
      simp only [Bool.or_eq_true, decide_eq_true_eq, Bool.not_eq_true'] at one
      exact (otherHasRole_false_iff ..).1 (one.resolve_left changes)
    · intro kept q mem
      cases q with
      | strongroom v =>
        simp only [Bool.or_eq_true, decide_eq_true_eq, Bool.not_eq_true']
        by_cases same : r = .strongroom v
        · exact .inl same
        · exact .inr ((otherHasRole_false_iff ..).2 (kept v mem same))
      | vestibuleOuter v => rfl
      | perimeter => rfl
      | unused => rfl
  unfold State.roleFits
  refine Bool.and_eq_true_iff.trans ((and_congr_right' keeps).trans ?_)
  cases r with
  | strongroom v =>
    simp only [Bool.not_eq_true', otherHasRole_false_iff]
    constructor
    · rintro ⟨alone, kept⟩
      exact ⟨fun w same => Role.strongroom.inj same ▸ alone, nofun, nofun, kept⟩
    · rintro ⟨alone, -, -, kept⟩
      exact ⟨alone v rfl, kept⟩
  | vestibuleOuter v =>
    simp only [Bool.and_eq_true, Bool.not_eq_true', otherHasRole_false_iff, otherKeepsRole_iff, decide_eq_true_eq, any_isOuter]
    constructor
    · rintro ⟨⟨⟨alone, inner⟩, few⟩, kept⟩
      exact ⟨nofun, fun w same => Role.vestibuleOuter.inj same ▸ ⟨alone, inner⟩, fun w same => few, kept⟩
    · rintro ⟨-, outer, eight, kept⟩
      exact ⟨⟨outer v rfl, eight v rfl⟩, kept⟩
  | perimeter =>
    refine ⟨fun ⟨_, kept⟩ => ⟨nofun, nofun, nofun, kept⟩, fun allowed => ⟨rfl, allowed.kept⟩⟩
  | unused =>
    refine ⟨fun ⟨_, kept⟩ => ⟨nofun, nofun, nofun, kept⟩, fun allowed => ⟨rfl, allowed.kept⟩⟩

theorem doorSettings_ok_iff (p : DoorSettings) : p.ok = true ↔
    DoorFigures p.delayHold p.confirmTimeout p.pairWindow p.releaseTime p.heldOpen p.loneInterval p.loneWindow := by
  simp only [DoorSettings.ok, Bool.and_eq_true, decide_eq_true_eq]
  constructor
  · intro ok
    constructor <;> omega
  · rintro ⟨⟨_, _⟩, ⟨_, _⟩, ⟨_, _⟩, ⟨_, _⟩, ⟨_, _⟩, ⟨_, _⟩, _, _⟩
    omega

theorem checkDoor_none {door role room gm dh ct pw rt ho li lw : Nat} (bad : door = 0 ∨ 21 ≤ door ∨ (∀ r : Role, roleCode r ≠ (role, room)) ∨
    3 ≤ gm ∨ ¬DoorFigures dh ct pw rt ho li lw ∨
    ∃ (d : DoorId) (r : Role), number d = door ∧ roleCode r = (role, room) ∧ ¬s.RoleAllowed d r) :
    s.checkDoor door role room gm dh ct pw rt ho li lw = none := by
  refine unnamed fun x named => ?_
  unfold State.checkDoor at named
  split at named
  · next d r g door_ role_ mode =>
    dsimp only at named
    split at named
    · next fits =>
      obtain ⟨ok, allowed⟩ := Bool.and_eq_true_iff.1 fits
      have figures := (doorSettings_ok_iff _).1 ok
      have range := fromOne_some door_
      have modes := grantModeOf_some mode
      rcases bad with outside | outside | nothing | outside | outside | ⟨d', r', same, code, refused⟩
      · omega
      · omega
      · exact nothing r (roleOf_some role_)
      · omega
      · exact outside figures
      · have same' : d' = d := Fin.ext (by have := range.2.2; simp only [number] at this same; omega)
        have code' : r' = r := by
          have again := roleOf_roleCode r'
          rw [code, role_] at again
          exact (Option.some.inj again).symm
        rw [same', code'] at refused
        exact refused ((roleFits_iff ..).1 allowed)
    · cases named
  · cases named

/-! ## Masks and staged records (R116, R194) -/

theorem maskPair_none {p : Nat × Nat} (bad : 2 ≤ p.2 ∨ ∀ k : NoticeKind, k.code = p.1 → k.cls = .life) : maskPair p = none := by
  unfold maskPair
  split
  · next k v kind switch =>
    have small := switchOf_some switch
    rcases bad with outside | life
    · omega
    · have code : k.code = p.1 := of_decide_eq_true (List.find?_some (p := fun k : NoticeKind => decide (k.code = p.1)) kind)
      rw [if_pos (life k code)]
  · rfl

theorem maskPairs_none {pairs : List (Nat × Nat)} {p : Nat × Nat} (mem : p ∈ pairs) (bad : maskPair p = none) : maskPairs pairs = none := by
  induction pairs with
  | nil => cases mem
  | cons q rest ih =>
    unfold maskPairs
    rcases List.mem_cons.1 mem with rfl | later
    · rw [bad]
    · rw [ih later]
      cases maskPair q <;> rfl

theorem checkMask_none {pairs : List (Nat × Nat)} (bad : pairs = [] ∨ 57 ≤ pairs.length ∨
    ∃ p ∈ pairs, 2 ≤ p.2 ∨ ∀ k : NoticeKind, k.code = p.1 → k.cls = .life) : checkMask pairs = none := by
  unfold checkMask
  split
  · next fits =>
    rw [Bool.and_eq_true, decide_eq_true_eq, decide_eq_true_eq] at fits
    rcases bad with rfl | many | ⟨p, mem, outside⟩
    · exact absurd fits.1 (by decide)
    · omega
    · exact maskPairs_none mem (maskPair_none outside)
  · rfl

theorem checkStaging_none {slot badge st priv win flags : Nat} (bad : 2048 ≤ slot ∨ 4294967295 ≤ badge ∨ 2 ≤ st ∨ 4096 ≤ priv ∨ 65536 ≤ win ∨
    16 ≤ flags) : checkStaging slot badge st priv win flags = none := by
  refine unnamed fun x named => ?_
  unfold checkStaging at named
  split at named
  · next i c slot_ record =>
    have := fromZero_some slot_
    unfold checkRecord at record
    split at record
    · next state =>
      have := credStateOf_some state
      split at record
      · next fits =>
        have limit : Config.badBadge = 4294967295 := rfl
        simp only [Bool.and_eq_true, decide_eq_true_eq] at fits
        omega
      · cases record
    · cases record
  · cases named

/-! ## Pairs of operands -/

theorem checkPresent_none {door reader badge : Nat} (bad : door = 0 ∨ 21 ≤ door ∨ 2 ≤ reader) : checkPresent door reader badge = none := by
  refine unnamed fun x named => ?_
  unfold checkPresent at named
  split at named
  · next door_ reader_ =>
    have := fromOne_some door_
    have := readerOf_some reader_
    omega
  · cases named

theorem checkClear_none {room target slot : Nat} (bad : room = 0 ∨ 13 ≤ room ∨ 3 ≤ target ∨ (target = 0 ∧ 2048 ≤ slot)) :
    checkClear room target slot = none := by
  refine unnamed fun x named => ?_
  unfold checkClear at named
  split at named
  · next room_ target_ =>
    have := fromOne_some room_
    have := clearTargetOf_some target_
    omega
  · cases named

theorem checkDoorMode_none {door mode : Nat} (bad : door = 0 ∨ 21 ≤ door ∨ 2 ≤ mode) : checkDoorMode door mode = none := by
  refine unnamed fun x named => ?_
  unfold checkDoorMode at named
  split at named
  · next door_ mode_ =>
    have := fromOne_some door_
    have := doorModeOf_some mode_
    omega
  · cases named

theorem checkDoorDrive_none {door direction : Nat} (bad : door = 0 ∨ 21 ≤ door ∨ 2 ≤ direction) : checkDoorDrive door direction = none := by
  refine unnamed fun x named => ?_
  unfold checkDoorDrive at named
  split at named
  · next door_ direction_ =>
    have := fromOne_some door_
    have := boltOf_some direction_
    omega
  · cases named

/-! ## Refused requests (R190, R191) -/

theorem withObject_unnamed {α : Type} {x : Option α} (h : x = none) (f : α → State → State) (s : State) : withObject x f s = answer .badValue s := by
  rw [h, withObject_none]

/-- A request whose own rule refuses it with BAD_VALUE changes nothing but what it is heard with. -/
theorem exec_badValue {i : Instr} {f : RequestFrame} (encoded : encodeRequest i = some f) (free : s.free)
    (refused : performRequest i (heard f.kind f.tag s) = answer .badValue (heard f.kind f.tag s)) :
    exec i s = .next ((heard f.kind f.tag s).withReply f.kind f.tag .badValue .none) := by
  rw [exec_request_frame encoded, onRequest_free _ _ _ free, refused, answer_heard]

theorem performSetActuator_badValue {a z : Nat} (bad : a = 0 ∨ 33 ≤ a ∨ 13 ≤ z ∨
    ∃ y : ZoneId, z = number y ∧ 4 ≤ ((every 32).filter (fun b => number b ≠ a && s.heldFor y b)).length) :
    performSetActuator a z s = answer .badValue s := by
  unfold performSetActuator
  cases named : checkAssignment a z with
  | none => exact withObject_none ..
  | some x =>
    rw [withObject_some]
    unfold checkAssignment at named
    split at named
    · next a' z' actuator zone =>
      cases named
      have range := fromOne_some actuator
      have places := placeOf_some zone
      rcases bad with outside | outside | outside | ⟨y, rfl, full⟩
      · omega
      · omega
      · omega
      · have here : placeOf (number y) = some (some y) := placeOf_placeCode (some y)
        have same : z' = some y := Option.some.inj (zone.symm.trans here)
        have others : ∀ b : ActId, decide (b ≠ a') = decide (number b ≠ a) := fun b => decide_eq_decide.2
          ⟨fun other number_ => other (Fin.ext (by have := range.2.2; simp only [number] at this number_; omega)),
            fun other b_ => other (b_ ▸ range.2.2)⟩
        have held : s.assignmentFull a' z' = true := by
          rw [same]
          simp only [State.assignmentFull, State.zoneFull, Config.actuatorsPerZone, others]
          exact decide_eq_true full
        exact if_pos held
    · cases named

/-- Settles O41: a request beside an outstanding one, and each request by the check that its operands fail. -/
theorem refusedFramesChangeNothingElse : Obligations.RefusedFramesChangeNothingElse := by
  refine ⟨fun i f s r encoded on busy => ?_, fun i f s encoded free bad => ?_⟩
  · have taken : onRequest f.kind f.tag (performRequest i) s = .next (answerBusy f.kind f.tag (hostHeard s)) :=
      (powered_on on).trans (congrArg _ (takeRequest_busy _ _ _ busy))
    rw [exec_request_frame encoded, taken]
    unfold answerBusy
    have same : (hostHeard s).link.tx = s.link.tx := rfl
    rw [same]
    by_cases room : (s.link.tx.filter (fun x => x.role = .busy)).length < 3
    · rw [if_pos room]
      exact congrArg _ (if_pos room)
    · rw [if_neg room]
      exact congrArg _ (if_neg room)
  · refine exec_badValue encoded free ?_
    cases i with
    | status _ a =>
      cases encoded
      obtain ⟨n, rfl⟩ := Nat.exists_eq_add_of_le' bad
      rfl
    | measureLine _ a | getLine _ a | getCredential _ a | rowOpen _ a =>
      dsimp only [performRequest]
      exact withObject_unnamed (fromZero_none bad) _ _
    | getZone _ a | getVestibule _ a | getOccupancy _ a | zoneIsolate _ a | zoneDeisolate _ a | zoneReset _ a | releaseZone _ a
    | vestibuleFlush _ a | getActuator _ a | actuatorRearm _ a | getDoor _ a | confirm _ a | deny _ a | doorService _ a =>
      dsimp only [performRequest]
      exact withObject_unnamed (fromOne_none bad) _ _
    | modeSet _ a =>
      dsimp only [performRequest]
      exact withObject_unnamed (unnamed fun o named => absurd (overrideOf_some named) (Nat.not_lt.2 bad)) _ _
    | doorMode =>
      dsimp only [performRequest]
      exact withObject_unnamed (checkDoorMode_none bad) _ _
    | doorDrive =>
      dsimp only [performRequest]
      exact withObject_unnamed (checkDoorDrive_none bad) _ _
    | present =>
      cases encoded
      obtain ⟨ready, bad⟩ := bad
      dsimp only [performRequest, performPresent]
      exact (if_neg (by simp [ready])).trans (withObject_unnamed (checkPresent_none bad) _ _)
    | occupantClear =>
      dsimp only [performRequest]
      exact withObject_unnamed (checkClear_none bad) _ _
    | timeSet =>
      dsimp only [performRequest]
      exact withObject_unnamed (checkTime_none bad) _ _
    | setClass =>
      dsimp only [performRequest]
      exact withObject_unnamed (checkClass_none bad) _ _
    | setLoop =>
      dsimp only [performRequest]
      exact withObject_unnamed (checkLoop_none bad) _ _
    | setZone =>
      dsimp only [performRequest]
      exact withObject_unnamed (checkZone_none bad) _ _
    | setActuator =>
      cases encoded
      exact performSetActuator_badValue (s := heard _ _ s) bad
    | setDoor =>
      cases encoded
      dsimp only [performRequest]
      exact withObject_unnamed (by exact checkDoor_none (s := s) bad) _ _
    | setWindow =>
      dsimp only [performRequest]
      exact withObject_unnamed (checkWindow_none bad) _ _
    | setNoticeMask =>
      dsimp only [performRequest]
      exact withObject_unnamed (checkMask_none bad) _ _
    | slotStage =>
      dsimp only [performRequest]
      exact withObject_unnamed (checkStaging_none bad) _ _
    | _ => exact bad.elim

end Sys2Proof.Machine


/-! Settings requests that become writes (R6, R36, R61, R79, R80, R139, R158, R180, R191). -/

namespace Sys2Proof.Machine

variable {s t : State}

/-! ## Checks that pass -/

@[simp] theorem classOf_index (c : LineClass) : classOf (classIndex c).val = some c := by cases c <;> rfl

theorem bandList_codes (bands : List BandRange) : bandList (bands.map (fun r => ⟨r.band.code, r.low, r.high⟩)) = some bands := by
  induction bands with
  | nil => rfl
  | cons r rest ih => simp only [List.map_cons, bandList, bandOf_code, ih]

theorem checkClass_codes {c : LineClass} {p : ClassParams} (ok : p.ok c = true) :
    checkClass (classIndex c).val p.confirm p.hysteresis (p.bands.map (fun r => ⟨r.band.code, r.low, r.high⟩)) = some (c, p) := by
  simp only [checkClass, classOf_index, bandList_codes]
  exact if_pos ok

theorem checkLoop_codes {k : LoopId} {e d t : Nat} {f : Bool} {p1 p2 p3 p4 p5 p6 : Option RoomId} (err : 50 ≤ e ∧ e ≤ 1000)
    (duress : 500 ≤ d ∧ d ≤ 10000) (stuck : 10 ≤ t ∧ t ≤ 600) (order : e < d ∧ d < t * 1000) :
    checkLoop (number k) e d t (switchCode f) (placeCode p1) (placeCode p2) (placeCode p3) (placeCode p4) (placeCode p5) (placeCode p6) =
      some (k, ⟨e, d, t, f, #v[p1, p2, p3, p4, p5, p6]⟩) := by
  simp only [checkLoop, fromOne_number, switchOf_switchCode, placeOf_placeCode]
  exact if_pos (by simp only [LoopSettings.ok, Bool.and_eq_true, decide_eq_true_eq]; omega)

theorem checkZone_codes {z : ZoneId} {p : ZoneSettings} (ok : p.ok = true) :
    checkZone (number z) p.base p.ext p.tMax p.tMan p.tResume (switchCode p.hold) p.limit p.soak p.vent = some (z, p) := by
  simp only [checkZone, fromOne_number, switchOf_switchCode]
  exact if_pos ok

@[simp] theorem grantModeOf_code (g : GrantMode) : grantModeOf (grantModeCode g) = some g := by cases g <;> rfl

theorem checkDoor_codes {d : DoorId} {p : DoorSettings} (ok : p.ok = true) (allowed : s.RoleAllowed d p.role) :
    s.checkDoor (number d) (roleCode p.role).1 (roleCode p.role).2 (grantModeCode p.grantMode) p.delayHold p.confirmTimeout p.pairWindow
      p.releaseTime p.heldOpen p.loneInterval p.loneWindow = some (d, p) := by
  simp only [State.checkDoor, fromOne_number, roleOf_roleCode, grantModeOf_code]
  exact if_pos (Bool.and_eq_true_iff.2 ⟨ok, (roleFits_iff ..).2 allowed⟩)

theorem checkWindow_codes {w : WindowId} {days start stop : Nat} {report : Bool} (week : days < 128) (begins : start ≤ 1439)
    (ends : 1 ≤ stop ∧ stop ≤ 1440) (differ : start ≠ stop) :
    checkWindow w.val days start stop (switchCode report) = some (w, ⟨BitVec.ofNat 7 days, start, stop, report⟩) := by
  simp only [checkWindow, fromZero_val, switchOf_switchCode]
  exact if_pos (by simp only [Bool.and_eq_true, decide_eq_true_eq]; omega)

theorem checkAssignment_codes (a : ActId) (z : Option ZoneId) : checkAssignment (number a) (placeCode z) = some (a, z) := by
  simp only [checkAssignment, fromOne_number, placeOf_placeCode]

/-! ## Requests that the state of their object refuses -/

theorem allowsSettings_iff (st : ZoneState) : st.allowsSettings = true ↔ st = .quiet ∨ st = .isolated := by cases st <;> simp [ZoneState.allowsSettings]

theorem zoneBlocks_iff (s : State) (z : Option ZoneId) : s.zoneBlocks z = true ↔
    ∃ y, z = some y ∧ (s.zones.get y).state ≠ .quiet ∧ (s.zones.get y).state ≠ .isolated := by
  cases z with
  | none => simp [State.zoneBlocks]
  | some y => simp [State.zoneBlocks, ← Bool.not_eq_true, allowsSettings_iff]

theorem assignmentBlocked_iff (s : State) (a : ActId) (z : Option ZoneId) : s.assignmentBlocked a z = true ↔
    ((s.acts.get a).state ≠ .unassigned ∧ (s.acts.get a).state ≠ .armed) ∨
      ∃ y, ((s.acts.get a).zone = some y ∨ z = some y) ∧ (s.zones.get y).state ≠ .quiet ∧ (s.zones.get y).state ≠ .isolated := by
  have busy : (s.acts.get a).state = .queued ∨ (s.acts.get a).state = .firing ∨ (s.acts.get a).state = .fired ∨ (s.acts.get a).state = .failed ↔
      (s.acts.get a).state ≠ .unassigned ∧ (s.acts.get a).state ≠ .armed := by cases (s.acts.get a).state <;> simp
  unfold State.assignmentBlocked
  rw [← busy]
  simp only [Bool.or_eq_true, decide_eq_true_eq, or_assoc, zoneBlocks_iff, or_and_right, exists_or]

theorem doorShut_iff (s : State) (d : DoorId) : s.doorShut d = true ↔ s.countsShut d := by
  simp [State.doorShut, State.countsShut, and_assoc]

theorem occupiedOuter_iff (s : State) (r : Role) : s.occupiedOuter r = true ↔ ∃ v, r = .vestibuleOuter v ∧ (s.vests.get v).occupants ≠ [] := by
  cases r <;> simp [State.occupiedOuter]

theorem outerUnsafe_iff (s : State) (d : DoorId) (r : Role) : s.outerUnsafe d r = true ↔ ∃ v, r = .vestibuleOuter v ∧ s.role d ≠ r ∧
    (s.doors.get d).bolt = .withdrawn ∧ ∀ e, s.strongroomDoor v = some e → ¬s.countsShut e := by
  cases r with
  | vestibuleOuter v =>
    cases inner : s.strongroomDoor v with
    | none => simp [State.outerUnsafe, inner]
    | some i => simp [State.outerUnsafe, inner, ← doorShut_iff, and_assoc]
  | strongroom | perimeter | unused => simp [State.outerUnsafe]

theorem doorSettingsBlocked_iff (s : State) (d : DoorId) (p : DoorSettings) : s.doorSettingsBlocked d p = false ↔ s.DoorChangeable d p.role := by
  unfold State.doorSettingsBlocked
  simp only [Bool.or_eq_false_iff]
  simp only [← Bool.not_eq_true, Bool.and_eq_true, Bool.or_eq_true, decide_eq_true_eq, occupiedOuter_iff, outerUnsafe_iff]
  constructor
  · rintro ⟨⟨⟨state, grant⟩, occupied⟩, unsafe_⟩
    refine ⟨by grind, by simpa using grant, fun v changes outer => ?_, fun v changes outer withdrawn => ?_⟩
    · refine Classical.byContradiction fun someone => ?_
      refine occupied ⟨changes, outer.imp (fun here => ⟨v, here, someone⟩) (fun here => ⟨v, here, someone⟩)⟩
    · refine Classical.byContradiction fun open_ => ?_
      exact unsafe_ ⟨v, outer, changes, withdrawn, fun e inner shut => open_ ⟨e, inner, shut⟩⟩
  · rintro ⟨state, grant, occupied, shut⟩
    refine ⟨⟨⟨by grind, by simp [grant]⟩, ?_⟩, ?_⟩
    · rintro ⟨changes, ⟨v, here, someone⟩ | ⟨v, here, someone⟩⟩
      · exact someone (occupied v changes (.inl here))
      · exact someone (occupied v changes (.inr here))
    · rintro ⟨v, outer, changes, withdrawn, none⟩
      obtain ⟨e, inner, closed⟩ := shut v changes outer withdrawn
      exact none e inner closed

/-! ## The requests -/

/-- A checked request that nothing blocks waits as a settings write, and one that is blocked is refused. -/
theorem writeUnless_heard (blocked : Bool) (item : SettingsItem) (kind tag : Nat) (s : State) : writeUnless blocked item (heard kind tag s) =
    if blocked = true then (heard kind tag s).withReply kind tag .badState .none
    else { heard kind tag s with store := hostQueued (.settings item true) s } := by
  unfold writeUnless
  split
  · exact answer_heard kind tag .badState s
  · rfl

/-- Settles O43: each request by its check, which passes, and by what its object's state allows. -/
theorem settingsRequestsBecomeWrites : Obligations.SettingsRequestsBecomeWrites := by
  refine fun s tag free => ⟨?_, ?_, ?_, ?_, ?_, ?_, ?_, ?_⟩
  · intro c n h bands one most width few each apart
    have named := checkClass_codes ((classParams_ok_iff c ⟨n, h, bands⟩).2 ⟨⟨one, most, width, few⟩, each, apart⟩)
    have taken : exec (.setClass tag (classIndex c).val n h (bands.map (fun r => ⟨r.band.code, r.low, r.high⟩))) s =
        .next (performSetClass (classIndex c).val n h (bands.map (fun r => ⟨r.band.code, r.low, r.high⟩)) (heard 0x10 tag s)) := onRequest_free 0x10 tag _ free
    rw [taken, performSetClass, named, withObject_some, writeUnless_heard, if_neg Bool.false_ne_true]
  · intro k e d t f p1 p2 p3 p4 p5 p6 e1 e2 d1 d2 t1 t2 low high
    have named := checkLoop_codes (k := k) (f := f) (p1 := p1) (p2 := p2) (p3 := p3) (p4 := p4) (p5 := p5) (p6 := p6) ⟨e1, e2⟩ ⟨d1, d2⟩ ⟨t1, t2⟩ ⟨low, high⟩
    have taken : exec (.setLoop tag (number k) e d t (switchCode f) (placeCode p1) (placeCode p2) (placeCode p3) (placeCode p4) (placeCode p5)
        (placeCode p6)) s = .next (performSetLoop (number k) e d t (switchCode f) (placeCode p1) (placeCode p2) (placeCode p3) (placeCode p4)
        (placeCode p5) (placeCode p6) (heard 0x11 tag s)) := onRequest_free 0x11 tag _ free
    rw [taken, performSetLoop, named, withObject_some, writeUnless_heard]
    refine congrArg _ ?_
    by_cases idle : (s.loops.get k).state = .idle
    · rw [if_pos idle]
      exact if_neg (by rw [decide_eq_true_eq]; exact not_not_intro idle)
    · rw [if_neg idle]
      exact if_pos (by rw [decide_eq_true_eq]; exact idle)
  · intro z base ext tMax tMan tResume limit soak vent hold h1 h2 h3 h4 h5 h6 h7 h8 h9 h10 h11 h12 h13 h14
    have ok : (⟨base, ext, tMax, tMan, tResume, hold, limit, soak, vent⟩ : ZoneSettings).ok = true := by
      simp only [ZoneSettings.ok, Bool.and_eq_true, decide_eq_true_eq]
      omega
    have named := checkZone_codes (z := z) ok
    have taken : exec (.setZone tag (number z) base ext tMax tMan tResume (switchCode hold) limit soak vent) s =
        .next (performSetZone (number z) base ext tMax tMan tResume (switchCode hold) limit soak vent (heard 0x12 tag s)) :=
      onRequest_free 0x12 tag _ free
    rw [taken, performSetZone, named, withObject_some, writeUnless_heard]
    refine congrArg _ ?_
    by_cases allows : (s.zones.get z).state = .quiet ∨ (s.zones.get z).state = .isolated
    · rw [if_pos allows]
      exact if_neg (by simpa using (allowsSettings_iff _).2 allows)
    · rw [if_neg allows]
      rw [← allowsSettings_iff] at allows
      exact if_pos (by simpa using allows)
  · intro z b
    rw [State.heldFor_eq_true]
    refine or_congr_right (or_congr_right ?_)
    simp only [Store.mem_accepted, exists_or]
    exact or_comm
  · intro d r
    rw [State.mem_rolesAhead]
    refine or_congr_right ?_
    simp only [Store.mem_accepted, or_and_right, exists_or]
    rw [or_comm]
    refine or_congr_right ?_
    simp only [exists_and_right]
  · intro a z room
    have taken : exec (.setActuator tag (number a) (placeCode z)) s = .next (performSetActuator (number a) (placeCode z) (heard 0x13 tag s)) :=
      onRequest_free 0x13 tag _ free
    have fits : (heard 0x13 tag s).assignmentFull a z = false := by
      cases z with
      | none => rfl
      | some y => exact decide_eq_false (Nat.not_le.2 (room y rfl))
    rw [taken, performSetActuator, checkAssignment_codes, withObject_some]
    dsimp only
    rw [fits, if_neg Bool.false_ne_true, writeUnless_heard]
    have blocked : (heard 0x13 tag s).assignmentBlocked a z = true ↔ _ := assignmentBlocked_iff s a z
    refine ⟨fun free allows => ?_, fun refused => ?_⟩
    · refine congrArg _ (if_neg ?_)
      rw [blocked]
      rintro (busy | ⟨y, here, q, i⟩)
      · exact free.elim busy.1 busy.2
      · exact (allows y here).elim q i
    · exact congrArg _ (if_pos (blocked.2 refused))
  · intro d r g dh ct pw rt ho li lw figures allowed
    have named : (heard 0x14 tag s).checkDoor (number d) (roleCode r).1 (roleCode r).2 (grantModeCode g) dh ct pw rt ho li lw =
        some (d, ⟨r, g, dh, ct, pw, rt, ho, li, lw⟩) := by
      exact checkDoor_codes (s := s) (p := ⟨r, g, dh, ct, pw, rt, ho, li, lw⟩) ((doorSettings_ok_iff _).2 figures) allowed
    have taken : exec (.setDoor tag (number d) (roleCode r).1 (roleCode r).2 (grantModeCode g) dh ct pw rt ho li lw) s =
        .next (performSetDoor (number d) (roleCode r).1 (roleCode r).2 (grantModeCode g) dh ct pw rt ho li lw (heard 0x14 tag s)) :=
      onRequest_free 0x14 tag _ free
    have blocked : (heard 0x14 tag s).doorSettingsBlocked d ⟨r, g, dh, ct, pw, rt, ho, li, lw⟩ = false ↔ _ :=
      doorSettingsBlocked_iff s d ⟨r, g, dh, ct, pw, rt, ho, li, lw⟩
    rw [taken, performSetDoor, named, withObject_some, writeUnless_heard]
    refine ⟨fun changeable => congrArg _ (if_neg ?_), fun refused => congrArg _ (if_pos ?_)⟩
    · rw [blocked.2 changeable]
      exact Bool.false_ne_true
    · exact Bool.not_eq_false _ ▸ fun free => refused (blocked.1 free)
  · intro w days start stop report week begins one ends differ
    have named := checkWindow_codes (w := w) (report := report) week begins ⟨one, ends⟩ differ
    have taken : exec (.setWindow tag w.val days start stop (switchCode report)) s =
        .next (performSetWindow w.val days start stop (switchCode report) (heard 0x15 tag s)) := onRequest_free 0x15 tag _ free
    rw [taken, performSetWindow, named, withObject_some, writeUnless_heard, if_neg Bool.false_ne_true]

end Sys2Proof.Machine


/-! The reading requests and the snapshots they answer (R37, R58, R60, R92, R110, R114, R160, R177, R186, R202). -/

namespace Sys2Proof.Machine

variable {s t : State}

/-- A reading request whose operand names an object answers with the object's data and changes nothing else. -/
theorem onRequest_read {α : Type} {kind tag : Nat} {x : Option α} {a : α} {f : State → α → ReplyData} {data : ReplyData} (free : s.free)
    (named : x = some a) (data_ : f (heard kind tag s) a = data) :
    onRequest kind tag (readObject x f) s = .next ((heard kind tag s).withReply kind tag .ok data) := by
  rw [onRequest_free kind tag _ free, named, readObject_some a f (heard_outstanding kind tag s), data_]

theorem exec_status {tag n : Nat} {data : ReplyData} (free : s.free) (section_ : (heard 0x01 tag s).statusReply n = some data) :
    exec (.status tag n) s = .next ((heard 0x01 tag s).withReply 0x01 tag .ok data) := by
  have taken : exec (.status tag n) s = .next (performStatus n (heard 0x01 tag s)) := onRequest_free 0x01 tag _ free
  rw [taken, performStatus, section_, readObject_some data _ (heard_outstanding 0x01 tag s)]

/-! ## Fields of the snapshots -/

theorem queuePosition_eq {a : ActId} {position : Option Nat} (h : (s.acts.get a).state ≠ .queued ∧ position = none ∨
    (s.acts.get a).state = .queued ∧ ∃ pre post, s.bank.queue = pre ++ a :: post ∧ a ∉ pre ∧ position = some (pre.length + 1)) :
    s.queuePosition a = position := by
  unfold State.queuePosition
  rcases h with ⟨other, rfl⟩ | ⟨queued, pre, post, queue, new, rfl⟩
  · exact if_neg other
  · rw [if_pos queued, queue, List.idxOf_append, if_neg new, List.idxOf_cons_self, Nat.zero_add]

theorem holderOf_eq (s : State) (slot : SlotId) :
    s.holderOf slot = (every 20).filter (fun d => (s.grants.get d).any (fun g => g.holders.any (fun h => h.slot = slot))) := by
  refine List.filter_congr fun d _ => ?_
  cases s.grants.get d <;> rfl

theorem vestibuleReply_eq (s : State) (v : RoomId) : s.vestibuleReply v = if s.outerDoor v = none then none else some
    { inner := s.strongroomDoor v, outer := s.outerDoor v, direction := (s.vests.get v).direction
      occupants := (s.vests.get v).occupants } := by
  unfold State.vestibuleReply State.hasVestibule
  cases s.outerDoor v <;> rfl

theorem vestibuleBrief_eq (s : State) (v : RoomId) :
    (if s.hasVestibule v then some ((s.vests.get v).direction, (s.vests.get v).occupants.length) else none) =
      if s.outerDoor v = none then none else some ((s.vests.get v).direction, (s.vests.get v).occupants.length) := by
  unfold State.hasVestibule
  cases s.outerDoor v <;> rfl

theorem slotCommitting_false {slot : SlotId} (h : ∀ row st touched, s.stage = .committing row st touched → slotRow slot ≠ row) :
    s.slotCommitting slot = false := by
  unfold State.slotCommitting
  split
  · next row st touched stage => exact decide_eq_false (h row st touched stage)
  · rfl

/-- A table whose every entry is what a snapshot's field holds is that field. -/
theorem table_of_entries {n : Nat} {α β : Type} {t : Vector α n} {u : Vector β n} {f : α → β} (each : ∀ i, u.get i = f (t.get i)) : t.map f = u :=
  table_ext fun i => by rw [map_get, each]

theorem deviceReply_heard {tag : Nat} {count : NoticeClass → Nat}
    (counts : ∀ c, count c = (s.link.notices.filter (fun n => n.kind.cls = c)).length) : (heard 0x01 tag s).deviceReply =
      { ready := s.sup.ready, lastStart := s.lastStart, hostPresent := true
        noticesLife := count .life, noticesAlarm := count .alarm, noticesSupervisory := count .supervisory
        noticesRoutine := count .routine, lost := s.link.lost, masks := s.link.masks
        running := s.store.running.map (fun r => r.op), marksWaiting := s.store.marks.length
        hostWaiting := s.store.host.length
        stage := match s.stage with
          | .idle => .none
          | .opened row _ _ => .opened row
          | .committing row _ _ => .committing row
        clockValid := s.clock.valid, override := s.clock.override, mode := s.clock.mode, freeze := s.freeze } := by
  simp only [counts]
  rfl

theorem loneReply_eq (s : State) (x : Lone) : s.loneReply x = match x with
    | .off => .off
    | .running dl => .running (dl - s.now)
    | .prompt dl => .prompt (dl - s.now) := by
  cases x <;> rfl

theorem accessReply_heard {tag : Nat} {lone : RoomId → LoneReply} {rooms : Vector RoomBrief 12} {vests : Vector (Option (Direction × Nat)) 12}
    {doors : Vector DoorBrief 20} (lones : ∀ v, s.loneReply (s.rooms.get v).lone = lone v)
    (roomsAre : ∀ v, rooms.get v = ⟨(s.rooms.get v).listed.length, (s.rooms.get v).evidence, (s.rooms.get v).unknown,
      (s.rooms.get v).effective, lone v⟩)
    (vestsAre : ∀ v, vests.get v = if s.outerDoor v = none then none else some ((s.vests.get v).direction, (s.vests.get v).occupants.length))
    (doorsAre : ∀ d, doors.get d = ⟨(s.doors.get d).state, (s.doors.get d).mode, (s.doors.get d).trips, (s.grants.get d).map (fun g => g.stage)⟩) :
    (heard 0x01 tag s).accessReply = ⟨rooms, vests, doors⟩ := by
  have first : s.rooms.map (fun r => (⟨r.listed.length, r.evidence, r.unknown, r.effective, s.loneReply r.lone⟩ : RoomBrief)) = rooms :=
    table_of_entries fun v => by rw [roomsAre, lones]
  have second : Vector.ofFn (fun v => if s.hasVestibule v then some ((s.vests.get v).direction, (s.vests.get v).occupants.length) else none) = vests :=
    table_ext fun v => by rw [ofFn_get, vestsAre, vestibuleBrief_eq]
  have third : Vector.ofFn (fun d => (⟨(s.doors.get d).state, (s.doors.get d).mode, (s.doors.get d).trips, s.grantStage d⟩ : DoorBrief)) = doors :=
    table_ext fun d => by rw [ofFn_get, doorsAre]; rfl
  exact congr (congr (congrArg AccessReply.mk first) second) third

/-- Settles O42: each request by what its snapshot holds, field by field. -/
theorem readRequestsReportAndChangeNothing : Obligations.ReadRequestsReportAndChangeNothing := by
  refine fun s tag free => ⟨?_, ?_, ?_, ?_, ?_, ?_, ?_, ?_, ?_, ?_⟩
  · intro count counts
    exact exec_status free (congrArg (fun reply => some (ReplyData.device reply)) (deviceReply_heard counts))
  · intro loops zones loopsAre zonesAre
    have first : s.loops.map (fun x => (⟨x.state, x.station, x.pressAt⟩ : LoopReply)) = loops := table_of_entries loopsAre
    have second : s.zones.map (fun x => (⟨x.state, x.latchA, x.latchB, x.degraded⟩ : ZoneBrief)) = zones := table_of_entries zonesAre
    subst first second
    exact exec_status free rfl
  · intro acts actsAre
    have first : s.acts.map (fun x => (x.state, x.fault)) = acts := table_of_entries actsAre
    subst first
    exact exec_status free rfl
  · intro lone rooms vests doors lones roomsAre vestsAre doorsAre
    have lones' : ∀ v, s.loneReply (s.rooms.get v).lone = lone v := fun v => (loneReply_eq ..).trans (lones v).symm
    refine ⟨exec_status free (congrArg (fun reply => some (ReplyData.access reply)) (accessReply_heard lones' roomsAre vestsAre doorsAre)), fun v => ?_⟩
    refine onRequest_read free (fromOne_number v) (congrArg ReplyData.occupancy ?_)
    rw [roomsAre, ← lones']
    rfl
  · rintro z x outputs rfl outputs_
    have same : (s.zones.get z).state.outputs = outputs := by
      rw [← outputs_]
      cases (s.zones.get z).state <;> rfl
    subst same
    exact onRequest_read free (fromOne_number z) rfl
  · rintro a x position rfl position_
    have found := queuePosition_eq position_
    refine onRequest_read free (fromOne_number a) (congrArg ReplyData.actuator ?_)
    rw [← found]
    rfl
  · rintro d x motion rfl motion_
    have same : s.motionReply (s.doors.get d).motion = motion := by
      rw [← motion_]
      cases (s.doors.get d).motion <;> rfl
    subst same
    exact onRequest_read free (fromOne_number d) rfl
  · intro v
    exact onRequest_read free (fromOne_number v) (congrArg ReplyData.vestibule (vestibuleReply_eq (heard 0x07 tag s) v))
  · intro slot holding staged elsewhere holding_ staged_
    have taken : exec (.getCredential tag slot.val) s = .next (performGetCredential slot.val (heard 0x09 tag s)) := onRequest_free 0x09 tag _ free
    have writes : (heard 0x09 tag s).slotCommitting slot = false := slotCommitting_false (s := s) elsewhere
    have holding : s.holderOf slot = holding := (holderOf_eq s slot).trans holding_
    have same : s.stagedReply slot = staged := by
      rw [← staged_]
      unfold State.stagedReply
      cases s.stage <;> rfl
    rw [taken, performGetCredential, fromZero_val, withObject_some, writes, if_neg Bool.false_ne_true,
      answerData_outstanding _ (heard_outstanding 0x09 tag s)]
    subst holding same
    rfl
  · intro settings each
    have table : Vector.ofFn (fun w => s.windowSettings w) = settings := table_ext fun w => by rw [ofFn_get, each]
    subst table
    exact (onRequest_free 0x0A tag _ free).trans (congrArg Host.Outcome.next (answerData_outstanding _ (heard_outstanding 0x0A tag s)))

end Sys2Proof.Machine


/-! The notice queue: what a fetch selects, and what a notice that does not coalesce comes to (R194, R196 to R198). -/

namespace Sys2Proof.Machine

variable {s t : State}

/-! ## The oldest entry of the highest class (R198) -/

/-- A queue that is not empty has an entry that none before it matches in class and none after it exceeds. -/
theorem exists_selected {q : List Notice} (some_ : q ≠ []) : ∃ pre n post, q = pre ++ n :: post ∧
    (∀ e ∈ pre, n.kind.cls.code < e.kind.cls.code) ∧ ∀ e ∈ post, n.kind.cls.code ≤ e.kind.cls.code := by
  induction q with
  | nil => exact absurd rfl some_
  | cons x rest ih =>
    by_cases last : rest = []
    · exact ⟨[], x, rest, rfl, fun e mem => absurd mem List.not_mem_nil, fun e mem => absurd (last ▸ mem) List.not_mem_nil⟩
    · obtain ⟨pre, n, post, parts, before, after⟩ := ih last
      by_cases higher : x.kind.cls.code ≤ n.kind.cls.code
      · refine ⟨[], x, rest, rfl, fun e mem => absurd mem List.not_mem_nil, fun e mem => ?_⟩
        rw [parts, List.mem_append, List.mem_cons] at mem
        rcases mem with earlier | rfl | later
        · exact Nat.le_trans higher (Nat.le_of_lt (before e earlier))
        · exact higher
        · exact Nat.le_trans higher (after e later)
      · refine ⟨x :: pre, n, post, by rw [parts, List.cons_append], fun e mem => ?_, after⟩
        rcases List.mem_cons.1 mem with rfl | earlier
        · exact Nat.not_le.1 higher
        · exact before e earlier

theorem cls_code_injective {c d : NoticeClass} (h : c.code = d.code) : c = d := by
  cases c <;> cases d <;> first | rfl | cases h

theorem selectNotice_eq {pre post : List Notice} {n : Notice} (before : ∀ e ∈ pre, n.kind.cls.code < e.kind.cls.code)
    (after : ∀ e ∈ post, n.kind.cls.code ≤ e.kind.cls.code) : selectNotice (pre ++ n :: post) = some n := by
  have higher : ∀ c : NoticeClass, c.code < n.kind.cls.code → (pre ++ n :: post).find? (fun e => e.kind.cls = c) = none := fun c lower => by
    rw [List.find?_eq_none]
    intro e mem
    rw [decide_eq_true_eq]
    rintro rfl
    rw [List.mem_append, List.mem_cons] at mem
    rcases mem with earlier | rfl | later
    · exact absurd (before e earlier) (Nat.lt_asymm lower)
    · exact absurd lower (Nat.lt_irrefl _)
    · exact absurd (after e later) (Nat.not_le.2 lower)
  have here : (pre ++ n :: post).find? (fun e => e.kind.cls = n.kind.cls) = some n := by
    have others : pre.find? (fun e => decide (e.kind.cls = n.kind.cls)) = none := by
      rw [List.find?_eq_none]
      intro e earlier
      rw [decide_eq_true_eq]
      intro same
      exact absurd (before e earlier) (by rw [same]; exact Nat.lt_irrefl _)
    rw [List.find?_append, others, Option.none_or]
    exact List.find?_cons_of_pos (decide_eq_true rfl)
  unfold selectNotice NoticeClass.ranked
  cases class_ : n.kind.cls <;> rw [class_] at higher here
  case life => simp only [List.findSome?_cons, here]
  case alarm => simp only [List.findSome?_cons, higher .life (by decide), here]
  case supervisory => simp only [List.findSome?_cons, higher .life (by decide), higher .alarm (by decide), here]
  case routine =>
    simp only [List.findSome?_cons, higher .life (by decide), higher .alarm (by decide), higher .supervisory (by decide), here]

theorem markInTx_eq {pre : List Notice} {n : Notice} (post : List Notice) (before : ∀ e ∈ pre, n.kind.cls.code < e.kind.cls.code) :
    markInTx n.kind.cls (pre ++ n :: post) = pre ++ { n with inTx := true } :: post := by
  induction pre with
  | nil => exact if_pos rfl
  | cons x rest ih =>
    have other : x.kind.cls ≠ n.kind.cls := fun same => absurd (before x List.mem_cons_self) (by rw [same]; exact Nat.lt_irrefl _)
    rw [List.cons_append, markInTx, if_neg other, ih fun e mem => before e (List.mem_cons_of_mem x mem), List.cons_append]

/-- Settles O45. -/
theorem fetchSelectsOldestOfHighestClass : Obligations.FetchSelectsOldestOfHighestClass := by
  intro s tag free
  have taken : exec (.fetchNotice tag) s = .next (performFetchNotice (heard 0x0B tag s)) := onRequest_free 0x0B tag _ free
  refine ⟨fun empty => ?_, fun some_ => ?_⟩
  · have nothing : selectNotice (heard 0x0B tag s).link.notices = none := by
      have none : (heard 0x0B tag s).link.notices = [] := empty
      rw [none]
      rfl
    rw [taken]
    unfold performFetchNotice
    dsimp only
    rw [nothing]
    exact congrArg _ (reply_outstanding .ok _ _ (heard_outstanding 0x0B tag s))
  · obtain ⟨pre, n, post, parts, before, after⟩ := exists_selected some_
    refine ⟨pre, n, post, parts, before, after, ?_⟩
    have queue : (heard 0x0B tag s).link.notices = pre ++ n :: post := parts
    have others : (pre ++ n :: post).length - 1 = pre.length + post.length := by
      rw [List.length_append, List.length_cons]
      rfl
    rw [taken]
    unfold performFetchNotice
    dsimp only
    rw [queue, selectNotice_eq before after]
    dsimp only
    rw [markInTx_eq post before, others]
    exact congrArg _ (reply_outstanding (s := { heard 0x0B tag s with
      link := { (heard 0x0B tag s).link with notices := pre ++ { n with inTx := true } :: post } }) .ok _ _ (heard_outstanding 0x0B tag s))

/-! ## Admission and displacement (R196, R197) -/

theorem discardOldest_append {p : Notice → Bool} {pre : List Notice} {e : Notice} (post : List Notice) (older : ∀ x ∈ pre, p x = false)
    (here : p e = true) : discardOldest p (pre ++ e :: post) = some (pre ++ post) := by
  induction pre with
  | nil => exact if_pos here
  | cons x rest ih =>
    rw [List.cons_append, discardOldest, older x List.mem_cons_self, if_neg Bool.false_ne_true,
      ih fun y mem => older y (List.mem_cons_of_mem x mem)]
    rfl

theorem displaceable_iff (c : NoticeClass) (e : Notice) : e.displaceable c = true ↔ e.inTx = false ∧ e.kind.cls = c := by
  simp [Notice.displaceable]

theorem displaceable_false_iff (c : NoticeClass) (e : Notice) : e.displaceable c = false ↔ e.inTx = true ∨ e.kind.cls ≠ c := by
  rw [← Bool.not_eq_true, displaceable_iff, Classical.not_and_iff_not_or_not, Bool.not_eq_false]

section
variable {lk : Link} {n : Notice} {q : List Notice}

theorem take_masked (masked : n.kind ∈ lk.masks) : lk.take n = lk := if_pos masked

theorem take_admitted (unmasked : n.kind ∉ lk.masks) (alone : coalesce n.kind n.object n.detail lk.notices = none)
    (room : hasRoom n.kind.cls lk.notices = true) : lk.take n = { lk with notices := lk.notices ++ [n] } := by
  simp only [Link.take, if_neg unmasked, alone, room, if_true]

theorem take_displaces {r : List Notice} (unmasked : n.kind ∉ lk.masks) (alone : coalesce n.kind n.object n.detail lk.notices = none)
    (full : hasRoom n.kind.cls lk.notices = false) (gives : displace n.kind.cls lk.notices = some r) :
    lk.take n = { lk with notices := r ++ [n], lost := bump lk.lost } := by
  simp only [Link.take, if_neg unmasked, alone, full, Bool.false_eq_true, if_false, gives]

theorem take_lost (unmasked : n.kind ∉ lk.masks) (alone : coalesce n.kind n.object n.detail lk.notices = none)
    (full : hasRoom n.kind.cls lk.notices = false) (gives : displace n.kind.cls lk.notices = none) :
    lk.take n = { lk with lost := bump lk.lost } := by
  simp only [Link.take, if_neg unmasked, alone, full, Bool.false_eq_true, if_false, gives]

theorem hasRoom_false (c : NoticeClass) (nonLife : c ≠ .life) (full : 64 ≤ q.length ∨ 48 ≤ (q.filter Notice.nonLife).length) :
    hasRoom c q = false := by
  rw [← Bool.not_eq_true, hasRoom_iff]
  rintro ⟨short, life | few⟩
  · exact nonLife life
  · omega

end

/-! ## SET_NOTICE_MASK (R194) -/

theorem maskPair_code {p : NoticeKind × Bool} (maskable : p.1.cls ≠ .life) : maskPair (p.1.code, switchCode p.2) = some p := by
  simp only [maskPair, noticeKindOf_code, switchOf_switchCode, if_neg maskable]

theorem maskPairs_codes {pairs : List (NoticeKind × Bool)} (maskable : ∀ p ∈ pairs, p.1.cls ≠ .life) :
    maskPairs (pairs.map (fun p => (p.1.code, switchCode p.2))) = some pairs := by
  induction pairs with
  | nil => rfl
  | cons p rest ih =>
    simp only [List.map_cons, maskPairs, maskPair_code (maskable p List.mem_cons_self), ih fun x mem => maskable x (List.mem_cons_of_mem p mem)]

theorem checkMask_codes {pairs : List (NoticeKind × Bool)} (one : 1 ≤ pairs.length) (most : pairs.length ≤ 56)
    (maskable : ∀ p ∈ pairs, p.1.cls ≠ .life) : checkMask (pairs.map (fun p => (p.1.code, switchCode p.2))) = some pairs := by
  unfold checkMask
  rw [List.length_map, maskPairs_codes maskable]
  exact if_pos (by rw [Bool.and_eq_true, decide_eq_true_eq, decide_eq_true_eq]; exact ⟨one, most⟩)

/-- The last pair of a kind stands. -/
theorem maskAfter_named {pre post : List (NoticeKind × Bool)} {k : NoticeKind} (v : Bool) (old : List NoticeKind) (last : ∀ p ∈ post, p.1 ≠ k) :
    maskAfter (pre ++ (k, v) :: post) old k = v := by
  have later : post.reverse.find? (fun p => decide (p.1 = k)) = none := by
    rw [List.find?_eq_none]
    intro p mem
    rw [decide_eq_true_eq]
    exact last p (List.mem_reverse.1 mem)
  have found : (pre ++ (k, v) :: post).reverse.find? (fun p => decide (p.1 = k)) = some (k, v) := by
    rw [List.reverse_append, List.reverse_cons, List.append_assoc, List.find?_append, later, Option.none_or, List.singleton_append]
    exact List.find?_cons_of_pos (decide_eq_true rfl)
  unfold maskAfter
  rw [found]

theorem maskAfter_other {pairs : List (NoticeKind × Bool)} {k : NoticeKind} (old : List NoticeKind) (absent : ∀ p ∈ pairs, p.1 ≠ k) :
    maskAfter pairs old k = decide (k ∈ old) := by
  have none : pairs.reverse.find? (fun p => decide (p.1 = k)) = none := by
    rw [List.find?_eq_none]
    intro p mem
    rw [decide_eq_true_eq]
    exact absent p (List.mem_reverse.1 mem)
  unfold maskAfter
  rw [none]

/-- Settles O47: what an entry that coalesces with nothing comes to, by the class it displaces, and the masks after their last pairs. -/
theorem noticeAdmissionFollowsMaskAndClass : Obligations.NoticeAdmissionFollowsMaskAndClass := by
  refine ⟨?_, ?_⟩
  · rintro lk n q rfl apart few
    have alone : coalesce n.kind n.object n.detail lk.notices = none := coalesce_none.2 fun x mem => matches_eq_false_iff.2 (apart x mem)
    rw [← bump_eq_min few]
    have noRoutine : (∀ x ∈ lk.notices, x.inTx = true ∨ x.kind.cls ≠ .routine) →
        discardOldest (Notice.displaceable .routine) lk.notices = none :=
      fun all => discardOldest_none.2 fun x mem => (displaceable_false_iff ..).2 (all x mem)
    have oldest : ∀ (c : NoticeClass) (pre : List Notice) (e : Notice) (post : List Notice), lk.notices = pre ++ e :: post →
        (∀ x ∈ pre, x.inTx = true ∨ x.kind.cls ≠ c) → e.inTx = false → e.kind.cls = c →
        discardOldest (Notice.displaceable c) lk.notices = some (pre ++ post) := fun c pre e post parts older queued class_ => by
      rw [parts]
      exact discardOldest_append post (fun x mem => (displaceable_false_iff ..).2 (older x mem)) ((displaceable_iff ..).2 ⟨queued, class_⟩)
    refine ⟨take_masked, fun unmasked short room => take_admitted unmasked alone (hasRoom_iff.2 ⟨short, room⟩),
      fun unmasked full class_ => ?_, ?_, ?_, fun unmasked full class_ => ?_, fun unmasked full class_ none => ?_, ?_⟩
    · exact take_lost unmasked alone (hasRoom_false _ (by rw [class_]; decide) full) (by rw [class_]; rfl)
    · intro pre e post unmasked full class_ parts older queued nonLife
      refine take_displaces unmasked alone ?_ ?_
      · rw [← Bool.not_eq_true, hasRoom_iff]
        omega
      · have gone : discardOldest (fun e => !e.inTx && e.nonLife) lk.notices = some (pre ++ post) := by
          rw [parts]
          refine discardOldest_append post (fun x mem => ?_) (by simp [queued, Notice.nonLife, nonLife])
          rcases older x mem with sending | life
          · simp [sending]
          · simp [Notice.nonLife, life]
        simp only [class_, displace, gone, Option.some_or]
    · intro pre e post unmasked full class_ parts older queued routine
      refine take_displaces unmasked alone (hasRoom_false _ (by rw [class_]; decide) full) ?_
      simp only [class_, displace, oldest .routine pre e post parts older queued routine, Option.some_or]
    · have full' := hasRoom_false n.kind.cls (by rw [class_]; decide) full
      refine ⟨fun pre e post parts older queued routine => take_displaces unmasked alone full' ?_, fun none => take_lost unmasked alone full' ?_⟩
      · simp only [class_, displace, oldest .routine pre e post parts older queued routine]
      · simp only [class_, displace, noRoutine none]
    · have full' := hasRoom_false n.kind.cls (by rw [class_]; decide) full
      refine ⟨fun pre e post parts older queued supervisory => take_displaces unmasked alone full' ?_, fun neither => take_lost unmasked alone full' ?_⟩
      · simp only [class_, displace, noRoutine none, oldest .supervisory pre e post parts older queued supervisory, Option.none_or]
      · have gone : discardOldest (Notice.displaceable .supervisory) lk.notices = Option.none :=
          discardOldest_none.2 fun x mem => (displaceable_false_iff ..).2 (neither x mem)
        simp only [class_, displace, noRoutine none, gone, Option.none_or]
    · intro pre e post unmasked full class_ life parts older queued
      refine take_displaces unmasked alone ?_ ?_
      · rw [← Bool.not_eq_true, hasRoom_iff]
        omega
      · have first : discardOldest (fun e => !e.inTx && e.nonLife) lk.notices = none := by
          refine discardOldest_none.2 fun x mem => ?_
          rcases life x mem with sending | life
          · simp [sending]
          · simp [Notice.nonLife, life]
        have gone : discardOldest (fun e => !e.inTx) lk.notices = some (pre ++ post) := by
          rw [parts]
          exact discardOldest_append post (fun x mem => by simp [older x mem]) (by simp [queued])
        simp only [class_, displace, first, gone, Option.none_or]
  · intro s tag pairs free one most maskable
    have taken : exec (.setNoticeMask tag (pairs.map (fun p => (p.1.code, switchCode p.2)))) s =
        .next (performSetNoticeMask (pairs.map (fun p => (p.1.code, switchCode p.2))) (heard 0x16 tag s)) := onRequest_free 0x16 tag _ free
    have set : performSetNoticeMask (pairs.map (fun p => (p.1.code, switchCode p.2))) (heard 0x16 tag s) =
        ({ heard 0x16 tag s with link := { (heard 0x16 tag s).link with
          masks := NoticeKind.all.filter (maskAfter pairs s.link.masks) } }).withReply 0x16 tag .ok .none := by
      rw [performSetNoticeMask, checkMask_codes one most maskable, withObject_some]
      exact answer_outstanding (s := { heard 0x16 tag s with link := { (heard 0x16 tag s).link with
        masks := NoticeKind.all.filter (maskAfter pairs s.link.masks) } }) .ok (heard_outstanding 0x16 tag s)
    have after : ∀ k, k ∈ NoticeKind.all.filter (maskAfter pairs s.link.masks) ↔ maskAfter pairs s.link.masks k = true := fun k => by
      rw [List.mem_filter]
      exact and_iff_right (mem_all_kinds k)
    refine ⟨_, taken.trans (congrArg _ set), fun k v pre post parts last => ?_, fun k absent => ?_, rfl⟩
    · refine (after k).trans ?_
      rw [parts, maskAfter_named v s.link.masks last]
    · refine (after k).trans ?_
      rw [maskAfter_other s.link.masks absent, decide_eq_true_eq]

end Sys2Proof.Machine


/-! The ends of replies, RESTART, the BREAK and the absence of the host (R122, R132, R189, R190, R192, R198, R204). -/

namespace Sys2Proof.Machine

variable {s t : State}

/-! ## RESTART and the ends of replies (R190, R198, R203, R204) -/

theorem zoneCounts_iff (x : ZoneState) : x.refusesRestart = true ↔ x = .predischarge ∨ x = .held ∨ x = .heldOccupied ∨ x = .release := by
  cases x <;> decide

/-- The three conditions of a RESTART, in the words of R204. -/
theorem mayRestart_iff : s.mayRestart = true ↔
    (∀ z, (s.zones.get z).state ≠ .predischarge ∧ (s.zones.get z).state ≠ .held ∧ (s.zones.get z).state ≠ .heldOccupied ∧
      (s.zones.get z).state ≠ .release) ∧ s.commitRunning = false ∧ s.store = ⟨none, [], []⟩ := by
  have idle : s.storeIdle = true ↔ s.store = ⟨none, [], []⟩ := by
    unfold State.storeIdle
    cases s.store
    simp [and_assoc]
  have rests : ∀ z, (!(s.zones.get z).state.refusesRestart) = true ↔ (s.zones.get z).state ≠ .predischarge ∧
      (s.zones.get z).state ≠ .held ∧ (s.zones.get z).state ≠ .heldOccupied ∧ (s.zones.get z).state ≠ .release := fun z => by
    rw [Bool.not_eq_true', ← Bool.not_eq_true, zoneCounts_iff]
    simp only [not_or, ne_eq]
  unfold State.mayRestart
  rw [Bool.and_eq_true, Bool.and_eq_true, List.all_eq_true, idle, and_assoc, Bool.not_eq_true']
  exact and_congr_left fun _ => ⟨fun all z => (rests z).1 (all z (List.mem_finRange z)), fun all z _ => (rests z).2 (all z)⟩

/-- A restart of a part that agrees with `s` in what a start reads: start values over the retention domain of `s`. -/
theorem startAgain_values (s : State) :
    StartValues .restart s (startAgain s) ∧ Retained s (startAgain s) ∧ (startAgain s).clock.total = s.clock.total :=
  ⟨start_values .restart s, start_retained .restart s, by rw [startAgain, start_clock]; rfl⟩

theorem exec_replySent {r : Reply} {rest : List Reply} (on : s.powered = true) (head : s.link.tx = r :: rest) :
    exec .replySent s = .next (finishReply r rest s) := by
  refine (powered_on on).trans ?_
  rw [head]

/-- Settles O48. -/
theorem restartFollowsItsSentReply : Obligations.RestartFollowsItsSentReply := by
  refine ⟨fun s r rest on head => ?_, fun s tag free => ?_⟩
  · rw [exec_replySent on head]
    unfold finishReply
    refine ⟨fun role => by rw [role], fun role => by rw [role], fun carried role => by rw [role]; rfl, fun role may => ?_, fun role mayNot => ?_⟩
    · have values := startAgain_values { s with link := { s.link with tx := rest, outstanding := none } }
      rw [role]
      exact ⟨_, congrArg _ (if_pos may), { values.1 with }, { values.2.1 with }, values.2.2⟩
    · rw [role]
      exact congrArg _ (if_neg (Bool.not_eq_true _ ▸ mayNot))
  · have taken : exec (.restart tag) s = .next (performRestart (heard 0x51 tag s)) := onRequest_free 0x51 tag _ free
    have same : (heard 0x51 tag s).mayRestart = s.mayRestart := rfl
    rw [taken]
    unfold performRestart
    rw [same]
    refine ⟨fun rests commit idle => ?_, fun refuses => ?_⟩
    · rw [if_pos (mayRestart_iff.2 ⟨rests, commit, idle⟩)]
      exact congrArg _ (reply_outstanding .ok .none .restart (heard_outstanding 0x51 tag s))
    · have mayNot : ¬ s.mayRestart = true := by
        rw [mayRestart_iff]
        rintro ⟨rests, commit, idle⟩
        rcases refuses with ⟨z, counts⟩ | commits | runs
        · obtain ⟨a, b, c, d⟩ := rests z
          rcases counts with e | e | e | e <;> contradiction
        · rw [commit] at commits
          exact absurd commits Bool.false_ne_true
        · rw [idle] at runs
          exact absurd runs Bool.false_ne_true
      rw [if_neg mayNot]
      exact congrArg _ (answer_outstanding .badState (heard_outstanding 0x51 tag s))

/-! ## A BREAK (R20, R189, R198, R204) -/

theorem unowed_eq_withoutReply (op : StoreOp) : op.unowed = op.withoutReply := by
  cases op <;> rfl

theorem unowed_grantor (g : Grantor) : g.unowed = match g with
    | .measurement _ => .measurement false
    | other => other := by
  cases g <;> rfl

/-- The link after a BREAK, and what waits without a reply from then on. -/
theorem clearLink_eq (s : State) : clearLink s = { s with
    link := { s.link with
      receiver := .hunt, outstanding := none, tx := [], notices := s.link.notices.map (fun e => { e with inTx := false }) }
    sup := { s.sup with
      pending := s.sup.pending.map (fun m => { m with owed := false })
      converting := ⟨s.sup.converting.line, match s.sup.converting.grantor with
        | .measurement _ => .measurement false
        | other => other⟩ }
    waitPresents := s.waitPresents.map (fun w => { w with owed := false })
    waitGets := s.waitGets.map (fun w => { w with owed := false })
    grants := s.grants.map (fun g => g.map (fun x => { x with recheck := x.recheck.map (fun _ => ⟨false⟩) }))
    store := { s.store with
      running := s.store.running.map (fun r => { r with op := r.op.withoutReply })
      host := s.store.host.map StoreOp.withoutReply } } := by
  unfold clearLink Supervisor.unowed Store.unowed
  simp only [unowed_grantor, funext unowed_eq_withoutReply]
  rfl

theorem clearLink_mayRestart (s : State) : (clearLink s).mayRestart = s.mayRestart := by
  have idle : (clearLink s).storeIdle = s.storeIdle := by simp [State.storeIdle, clearLink, Store.unowed]
  unfold State.mayRestart
  rw [idle]
  rfl

theorem owesRestart_iff : s.owesRestart = true ↔ ∃ r ∈ s.link.tx, r.role = .restart := by
  simp [State.owesRestart]

theorem exec_linkBreak (on : s.powered = true) :
    exec .linkBreak s = .next (if s.owesRestart then testRestart (clearLink s) else clearLink s) := powered_on on

/-! ## The absence of the host (R122, R132, R192) -/

theorem exec_hostPresenceTimeout {dl : Nat} (on : s.powered = true) (deadline : s.link.presenceDl = some dl) (reached : dl ≤ s.now) :
    exec .hostPresenceTimeout s = .next ((every 20).foldl (fun t d => absenceActs d t)
      { s with hostPresent := false, link := { s.link with presenceDl := none } }) := by
  refine (powered_on on).trans ?_
  rw [deadline, whenDue_some hostAbsent reached]
  rfl

/-- The grant of a door stands when the host is absent, unless it awaits a confirmation. -/
def keptInAbsence (g : Option Grant) : Option Grant := g.filter (fun x => x.stage ≠ .awaitConfirm)

theorem keptInAbsence_some (g : Grant) : keptInAbsence (some g) = if g.stage = .awaitConfirm then none else some g := by
  simp [keptInAbsence, Option.filter]

theorem keptInAbsence_twice (g : Option Grant) : keptInAbsence (keptInAbsence g) = keptInAbsence g := by
  cases g with
  | none => rfl
  | some g =>
    rw [keptInAbsence_some]
    by_cases confirm : g.stage = .awaitConfirm
    · rw [if_pos confirm]
      rfl
    · rw [if_neg confirm, keptInAbsence_some, if_neg confirm]

theorem take_presenceDl (n : Notice) (lk : Link) : (lk.take n).presenceDl = lk.presenceDl := by
  unfold Link.take
  split
  · rfl
  · split
    · rfl
    · split
      · rfl
      · split <;> rfl

theorem grantDropped_presenceDl (d : DoorId) (why : Reason) (s : State) : (s.grantDropped d why).link.presenceDl = s.link.presenceDl := by
  unfold State.grantDropped
  split
  · rfl
  · unfold State.confirmDenied
    split <;> exact take_presenceDl ..

theorem absenceActs_undelayed (d : DoorId) (undelayed : ∀ e g, s.grants.get e = some g → g.stage ≠ .awaitDelay) :
    GrantsEnded s (absenceActs d s) ∧ (absenceActs d s).link.presenceDl = s.link.presenceDl ∧
    (absenceActs d s).grants = put s.grants d (keptInAbsence (s.grants.get d)) := by
  unfold absenceActs
  cases grant : s.grants.get d with
  | none => exact ⟨.refl s, rfl, ((congrArg (put s.grants d) grant.symm).trans (put_same ..)).symm⟩
  | some g =>
    dsimp only
    by_cases confirm : g.stage = .awaitConfirm
    · have still : s.grantMoving d = false := grantMoving_waiting grant (by rw [confirm]; rfl)
      rw [if_pos confirm, cancelGrant_waiting .hostAbsent still]
      refine ⟨grantDropped_ends .., grantDropped_presenceDl .., (grantDropped_grants ..).trans ?_⟩
      rw [keptInAbsence_some, if_pos confirm]
    · have still : ¬ (decide (g.stage = .awaitDelay) && g.recheck.isNone) = true := by simp [undelayed d g grant]
      rw [if_neg confirm, if_neg still]
      refine ⟨.refl s, rfl, ?_⟩
      rw [keptInAbsence_some, if_neg confirm, ← grant, put_same]

theorem foldl_absenceActs (l : List DoorId) (s : State) (undelayed : ∀ e g, s.grants.get e = some g → g.stage ≠ .awaitDelay) :
    GrantsEnded s (l.foldl (fun t d => absenceActs d t) s) ∧
    (l.foldl (fun t d => absenceActs d t) s).link.presenceDl = s.link.presenceDl ∧
    ∀ d, (l.foldl (fun t d => absenceActs d t) s).grants.get d = if d ∈ l then keptInAbsence (s.grants.get d) else s.grants.get d := by
  induction l generalizing s with
  | nil => exact ⟨.refl s, rfl, fun d => by simp⟩
  | cons e rest ih =>
    obtain ⟨ended, deadline, changed⟩ := absenceActs_undelayed e undelayed
    have still : ∀ d g, (absenceActs e s).grants.get d = some g → g.stage ≠ .awaitDelay := fun d g grant => by
      obtain ⟨_, _, same, _, each⟩ := ended
      rw [same] at grant
      rcases each d with kept | gone
      · exact undelayed d g (kept ▸ grant)
      · exact absurd (gone.symm.trans grant) nofun
    obtain ⟨later, still_, all⟩ := ih (absenceActs e s) still
    refine ⟨ended.trans later, still_.trans deadline, fun d => ?_⟩
    rw [List.foldl_cons, all d, changed]
    by_cases here : d = e
    · subst here
      simp [keptInAbsence_twice]
    · simp [put_get_other _ _ here, here]

/-- Settles O49: a BREAK discards what the link owes, or makes the test of R204; the absence of the host takes the doors one by one. -/
theorem breakAndHostAbsence : Obligations.BreakAndHostAbsence := by
  refine ⟨?_, fun s dl on deadline reached => ?_, fun s dl on deadline reached undelayed => ?_⟩
  · intro s t on is
    have cleared : clearLink s = t := (clearLink_eq s).trans is
    rw [exec_linkBreak on, ← cleared]
    refine ⟨fun plain => ?_, fun owes => ?_⟩
    · have none : ¬ s.owesRestart = true := by
        rw [owesRestart_iff]
        rintro ⟨r, mem, role⟩
        exact plain r mem role
      rw [if_neg none]
    · rw [if_pos (owesRestart_iff.2 owes)]
      unfold testRestart
      rw [clearLink_mayRestart]
      refine ⟨fun mayNot => by rw [mayNot, if_neg Bool.false_ne_true], fun may => ?_⟩
      have values := startAgain_values (clearLink s)
      rw [if_pos may]
      exact ⟨_, rfl, { values.1 with }, { values.2.1 with }, values.2.2⟩
  · rw [exec_hostPresenceTimeout on deadline reached]
    congr 2
    funext t d
    unfold absenceActs
    cases t.grants.get d <;> simp
  · obtain ⟨ended, stays, all⟩ := foldl_absenceActs (every 20) { s with hostPresent := false, link := { s.link with presenceDl := none } } undelayed
    refine ⟨_, exec_hostPresenceTimeout on deadline reached, ?_⟩
    generalize (every 20).foldl (fun t d => absenceActs d t) _ = t at ended stays all
    have kept : ∀ d, t.grants.get d = keptInAbsence (s.grants.get d) := fun d => (all d).trans (if_pos (List.mem_finRange d))
    obtain ⟨grants, link, rfl, _, _⟩ := ended
    refine ⟨rfl, stays, fun d g grant => ?_, fun d free => ?_, rfl⟩
    · rw [kept d, grant, keptInAbsence_some]
    · rw [kept d, free]
      rfl

end Sys2Proof.Machine


/-! Changes that pass the store controller by: they neither read nor write it, so that the effect of a settings record is the same
before and after the next operation starts (R191, R200; log entry 23). -/

namespace Sys2Proof.Machine

variable {s t : State}

/-- The state with another store controller. -/
def State.withStore (st : Store) (s : State) : State := { s with store := st }

/-- The change neither looks at the store controller nor touches it. -/
def Storeless (f : State → State) : Prop := ∀ st s, f (s.withStore st) = (f s).withStore st

theorem withStore_ite {p : Prop} [Decidable p] (st : Store) (a b : State) :
    (if p then a else b).withStore st = if p then a.withStore st else b.withStore st := apply_ite ..

theorem Storeless.id : Storeless (fun s => s) := fun _ _ => rfl

theorem Storeless.comp {f g : State → State} (hg : Storeless g) (hf : Storeless f) : Storeless (fun s => g (f s)) := fun st s => by
  dsimp only
  rw [hf st s, hg st (f s)]

/-- A choice on what the store does not enter. -/
theorem Storeless.ite {f g : State → State} {p : State → Prop} [∀ s, Decidable (p s)] (same : ∀ st s, p (s.withStore st) ↔ p s)
    (hf : Storeless f) (hg : Storeless g) : Storeless (fun s => if p s then f s else g s) := fun st s => by
  by_cases h : p s
  · have h' := (same st s).2 h
    simp only [if_pos h, if_pos h', hf st s]
  · have h' := mt (same st s).1 h
    simp only [if_neg h, if_neg h', hg st s]

theorem Storeless.foldl {α : Type} {f : State → α → State} (h : ∀ a, Storeless (fun s => f s a)) (l : List α) :
    Storeless (fun s => l.foldl f s) := by
  intro st s
  induction l generalizing s with
  | nil => rfl
  | cons a rest ih =>
    have step : f (s.withStore st) a = (f s a).withStore st := h a st s
    simp only [List.foldl_cons, step, ih]

theorem Storeless.forEach {n : Nat} {f : Fin n → State → State} (h : ∀ i, Storeless (f i)) : Storeless (forEach f) :=
  Storeless.foldl h (every n)

theorem raise_storeless (k : NoticeKind) (o : NoticeObject) (x : Option Detail) : Storeless (raise k o x) := fun _ _ => rfl

theorem raiseDoor_storeless (k : NoticeKind) (d : DoorId) (x : Option Detail) : Storeless (raiseDoor k d x) :=
  .ite (p := fun s => (s.sup.ready && s.role d ≠ .unused) = true) (fun _ _ => .rfl) (raise_storeless k (.door d) x) .id

theorem setDoor_storeless {f : State → Door} (d : DoorId) (h : ∀ st s, f (s.withStore st) = f s) : Storeless (fun s => s.setDoor d (f s)) :=
  fun st s => by dsimp only; rw [h st s]; rfl

theorem repliedTo_storeless (owed : Bool) (x : Status) (data : ReplyData) : Storeless (State.repliedTo owed x data) := by
  intro st s
  have same : (s.withStore st).link = s.link := rfl
  unfold State.repliedTo
  rw [same]
  split <;> rfl

/-! ## Grants that end -/

theorem confirmDenied_storeless (g : Grant) (why : Reason) : Storeless (State.confirmDenied g why) := by
  intro st s
  have same : (s.withStore st).link = s.link := rfl
  unfold State.confirmDenied
  rw [same]
  split <;> rfl

theorem grantDropped_storeless (d : DoorId) (why : Reason) : Storeless (State.grantDropped d why) := by
  intro st s
  have same : (s.withStore st).grants = s.grants := rfl
  unfold State.grantDropped
  rw [same]
  split
  · rfl
  · exact confirmDenied_storeless _ why st (raise .grantCancelled (.door d) (some (.reason why)) { s with grants := put s.grants d none })

theorem dropGrant_storeless (d : DoorId) (why : Reason) : Storeless (dropGrant d why) := by
  intro st s
  rw [dropGrant_eq, dropGrant_eq]
  exact grantDropped_storeless d why st s

theorem removalHanded_storeless (v : RoomId) (slot : SlotId) : Storeless (State.removalHanded v slot) := by
  intro st s
  have door : (s.withStore st).strongroomDoor v = s.strongroomDoor v := rfl
  have same : (s.withStore st).grants = s.grants := rfl
  unfold State.removalHanded
  rw [door, same]
  split
  · rfl
  · split
    · exact grantDropped_storeless _ .passback st s
    · rfl

theorem vestibuleEmptied_storeless (v : RoomId) (k : NoticeKind) : Storeless (State.vestibuleEmptied v k) := by
  intro st s
  have handed := Storeless.foldl (fun o : Occupant => removalHanded_storeless v o.slot) (s.vests.get v).occupants st { s with
    vests := put s.vests v { direction := .none, occupants := [] }
    locations := (s.vests.get v).occupants.foldl (fun l o => sparsePut .outside l o.slot .outside) s.locations }
  have told := Storeless.foldl (fun o : Occupant => raise_storeless k (.strongroom v) (some (.badge o.badge))) (s.vests.get v).occupants
  exact (congrArg (fun t => (s.vests.get v).occupants.foldl (fun t o => raise k (.strongroom v) (some (.badge o.badge)) t) t) handed).trans
    (told st _)

theorem emptyVestibule_storeless (v : RoomId) (k : NoticeKind) : Storeless (emptyVestibule v k) := by
  rw [show emptyVestibule v k = State.vestibuleEmptied v k from funext fun s => emptyVestibule_eq v k s]
  exact vestibuleEmptied_storeless v k

/-! ## Motions and states of a door -/

theorem startRelease_storeless (d : DoorId) : Storeless (startRelease d) := fun st s => by
  unfold startRelease beginWithdraw
  rw [withStore_ite]
  rfl

theorem autoRelease_storeless (v : RoomId) : Storeless (autoRelease v) := by
  intro st s
  have inner : (s.withStore st).strongroomDoor v = s.strongroomDoor v := rfl
  have outer : (s.withStore st).outerDoor v = s.outerDoor v := rfl
  unfold autoRelease
  rw [inner, outer]
  split
  · next i o _ _ =>
    have emptied : Storeless (fun u => if u.doorBand o = .opened then emptyVestibule v .vestibuleOut ((enterOpen o u).setGrant o none) else u) :=
      .ite (p := fun u => u.doorBand o = .opened) (fun _ _ => .rfl)
        (.comp (g := emptyVestibule v .vestibuleOut) (emptyVestibule_storeless v .vestibuleOut) fun _ _ => rfl) .id
    have released : Storeless (fun u => startRelease o ((dropGrant o .direction u).setGrant o
        (some ⟨(s.vests.get v).occupants.map (fun p => ⟨p.slot, p.badge⟩), .exit, .inside, .releasing, none, none⟩))) :=
      .comp (g := startRelease o) (startRelease_storeless o) (.comp (g := State.setGrant o _) (fun _ _ => rfl) (dropGrant_storeless o .direction))
    dsimp only
    rw [withStore_ite]
    exact ite_congr rfl (fun _ => Storeless.comp emptied released st s) (fun _ => rfl)
  · rfl

theorem handSecure_storeless (d : DoorId) (rederived : Bool) : Storeless (handSecure d rederived) := by
  intro st s
  have role : (s.withStore st).role d = s.role d := rfl
  unfold handSecure
  rw [role]
  split
  · exact autoRelease_storeless _ st s
  · split
    · exact autoRelease_storeless _ st s
    · rfl
  · rfl

theorem enterSecure_storeless (d : DoorId) (rederived : Bool) : Storeless (enterSecure d rederived) := by
  intro st s
  have told : Storeless (fun u : State => if (s.doors.get d).alarm then raiseDoor .doorSecured d none (u.setDoor d (s.doors.get d).shut)
      else u.setDoor d (s.doors.get d).shut) :=
    .ite (p := fun _ => (s.doors.get d).alarm = true) (fun _ _ => .rfl)
      (.comp (g := raiseDoor .doorSecured d none) (raiseDoor_storeless .doorSecured d none) fun _ _ => rfl) fun _ _ => rfl
  have handed : Storeless (fun u : State => if (s.doors.get d).state = .secure then u else handSecure d rederived u) :=
    .ite (p := fun _ => (s.doors.get d).state = .secure) (fun _ _ => .rfl) .id (handSecure_storeless d rederived)
  exact Storeless.comp handed told st s

theorem beginThrow_storeless (d : DoorId) : Storeless (beginThrow d) := by
  unfold beginThrow
  exact .ite (p := fun s => Bolt.reachedAt .thrown (s.doorBand d) = true) (fun _ _ => .rfl)
    (.comp (enterSecure_storeless d false) (fun _ _ => rfl)) (fun _ _ => rfl)

theorem throwInto_storeless (x : DoorState) (d : DoorId) : Storeless (throwInto x d) :=
  .comp (g := beginThrow d) (beginThrow_storeless d) fun _ _ => rfl

theorem throwKeepingTrips_storeless (d : DoorId) : Storeless (throwKeepingTrips d) := fun st s => by
  have thrown := throwInto_storeless .relocking d st s
  unfold throwKeepingTrips
  rw [thrown]
  rfl

theorem doorCancelled_storeless (d : DoorId) : Storeless (doorCancelled d) := by
  intro st s
  have doors : (s.withStore st).doors = s.doors := rfl
  unfold doorCancelled
  rw [doors]
  dsimp only
  split
  · rfl
  · exact throwKeepingTrips_storeless d st s
  · exact throwKeepingTrips_storeless d st s
  · rfl

theorem cancelGrant_storeless (d : DoorId) (why : Reason) : Storeless (cancelGrant d why) := by
  unfold cancelGrant
  exact .ite (p := fun s => s.grantMoving d = true) (fun _ _ => .rfl)
    (.comp (doorCancelled_storeless d) (dropGrant_storeless d why)) (dropGrant_storeless d why)

theorem enterOpen_storeless (d : DoorId) : Storeless (enterOpen d) := fun _ _ => rfl

theorem rederive_storeless (d : DoorId) : Storeless (rederive d) := by
  intro st s
  have doors : (s.withStore st).doors = s.doors := rfl
  have band : (s.withStore st).doorBand d = s.doorBand d := rfl
  unfold rederive
  rw [doors, band]
  dsimp only
  split
  · rfl
  · split
    · exact enterSecure_storeless d true st (s.setDoor d _)
    · exact throwInto_storeless .relocking d st (s.setDoor d _)
    · split <;> rfl
    · rfl

/-! ## The freeze, a duress and the mode -/

theorem setFreeze_storeless : Storeless setFreeze := by
  unfold setFreeze
  refine .ite (p := fun s => s.freeze = true) (fun _ _ => .rfl) .id (.comp (g := forEach _) (.forEach fun d => ?_) fun _ _ => rfl)
  intro st s
  have grants : (s.withStore st).grants = s.grants := rfl
  dsimp only
  rw [grants]
  split
  · split
    · exact cancelGrant_storeless _ _ st s
    · rfl
  · rfl

theorem modeTaken_storeless : Storeless State.modeTaken := by
  have reached : Storeless (fun t => (every 20).foldl (fun t d => if t.afterHoursReaches d then cancelGrant d .outOfHours t else t) t) :=
    .foldl (fun d => .ite (p := fun t => t.afterHoursReaches d = true) (fun _ _ => .rfl) (cancelGrant_storeless d .outOfHours) .id) _
  have lone : Storeless (fun u => { u with rooms := Vector.ofFn (fun v => { u.rooms.get v with lone := u.loneFor v }) }) := fun _ _ => rfl
  intro st s
  have cancelled : Storeless (fun t => if modeGiven s.clock = .afterHours then
      (every 20).foldl (fun t d => if t.afterHoursReaches d then cancelGrant d .outOfHours t else t) t else t) :=
    .ite (p := fun _ => modeGiven s.clock = .afterHours) (fun _ _ => .rfl) reached .id
  have clock : (s.withStore st).clock = s.clock := rfl
  unfold State.modeTaken
  rw [clock]
  by_cases same : modeGiven s.clock = s.clock.mode
  · rw [if_pos same, if_pos same]
  · rw [if_neg same, if_neg same]
    exact lone.comp cancelled st (raise .modeChange .none (some (.named (.mode (modeGiven s.clock)))) { s with
      clock := { s.clock with mode := modeGiven s.clock } })

/-- A report of an E of 1 or more does not reach the store. -/
theorem reportE_storeless {v : RoomId} (st : Store) (h : 1 ≤ (s.rooms.get v).effective) : reportE v (s.withStore st) = (reportE v s).withStore st := by
  have occupied : s.occupancy v ≠ 0 := Nat.ne_of_gt h
  have occupied' : (s.withStore st).occupancy v ≠ 0 := occupied
  have zones : (s.withStore st).zones = s.zones := rfl
  unfold reportE
  rw [zones]
  dsimp only
  split
  · rw [if_neg occupied, if_neg occupied']
  · rw [withStore_ite]
    rfl
  · rw [withStore_ite]
    rfl
  · rfl

theorem stationEvidence_storeless (place : Option RoomId) : Storeless (stationEvidence place) := by
  intro st s
  have rooms : (s.withStore st).rooms = s.rooms := rfl
  rw [stationEvidence_eq, stationEvidence_eq, rooms]
  cases place with
  | none => rfl
  | some v =>
    dsimp only
    rw [withStore_ite]
    refine ite_congr rfl (fun _ => ?_) (fun _ => rfl)
    cases (s.rooms.get v).evidence with
    | true => rfl
    | false =>
      have marked : 1 ≤ ((put s.rooms v { s.rooms.get v with evidence := true }).get v).effective := by
        rw [put_get_same]
        simp only [Room.effective, if_true]
        omega
      exact reportE_storeless (s := { s with rooms := put s.rooms v { s.rooms.get v with evidence := true } }) st marked

theorem duressTaken_as (k : LoopId) (x : StationNo) (s : State) : s.duressTaken k x =
    if (s.loopSettings k).freeze = true ∧ s.freeze = false then
      raise .entryFreeze (.loop k) (some (.station x)) (setFreeze (stationEvidence ((s.loopSettings k).place x) (duressRaised k x s)))
    else stationEvidence ((s.loopSettings k).place x) (duressRaised k x s) := by
  rw [stationEvidence_eq]
  rfl

theorem duressTaken_storeless (k : LoopId) (x : StationNo) : Storeless (State.duressTaken k x) := by
  have raised : Storeless (duressRaised k x) := fun _ _ => rfl
  intro st s
  have evidence : Storeless (fun u => stationEvidence ((s.loopSettings k).place x) (duressRaised k x u)) :=
    (stationEvidence_storeless ((s.loopSettings k).place x)).comp raised
  have frozen : Storeless (fun u => if (u.loopSettings k).freeze = true ∧ u.freeze = false then
      raise .entryFreeze (.loop k) (some (.station x)) (setFreeze (stationEvidence ((s.loopSettings k).place x) (duressRaised k x u)))
      else stationEvidence ((s.loopSettings k).place x) (duressRaised k x u)) :=
    .ite (p := fun u => (u.loopSettings k).freeze = true ∧ u.freeze = false) (fun _ _ => .rfl)
      (.comp (g := raise .entryFreeze (.loop k) (some (.station x))) (raise_storeless .entryFreeze (.loop k) (some (.station x))) (setFreeze_storeless.comp evidence)) evidence
  rw [duressTaken_as, duressTaken_as]
  exact frozen st s

end Sys2Proof.Machine


/-! The store controller: what it runs next, how marks join, and what each record does as its write ends (R12, R36, R71, R80, R81, R158,
R162, R180, R191, R200). -/

namespace Sys2Proof.Machine

variable {s t : State}

/-! ## What a Storeless change leaves of the store -/

theorem Storeless.store {f : State → State} (h : Storeless f) (s : State) : (f s).store = s.store := by
  have same : f s = (f s).withStore s.store := h s.store s
  rw [same]
  rfl

/-! ## The controller (R200) -/

theorem startNext_busy {st : Store} (now : Nat) (busy : st.running.isSome = true) : st.startNext now = st := by
  obtain ⟨r, running⟩ := Option.isSome_iff_exists.1 busy
  unfold Store.startNext
  rw [running]

theorem joinMarks_waiting {item : MarkItem} {pre : List MarkRequest} (value old : Bool) (post : List MarkRequest) (others : ∀ m ∈ pre, m.item ≠ item) :
    joinMarks item value (pre ++ ⟨item, old⟩ :: post) = pre ++ ⟨item, value⟩ :: post := by
  induction pre with
  | nil => exact if_pos rfl
  | cons m rest ih =>
    rw [List.cons_append, joinMarks, if_neg (others m List.mem_cons_self), ih fun x mem => others x (List.mem_cons_of_mem m mem), List.cons_append]

theorem joinMarks_new {item : MarkItem} {marks : List MarkRequest} (value : Bool) (others : ∀ m ∈ marks, m.item ≠ item) :
    joinMarks item value marks = marks ++ [⟨item, value⟩] := by
  induction marks with
  | nil => rfl
  | cons m rest ih =>
    rw [joinMarks, if_neg (others m List.mem_cons_self), ih fun x mem => others x (List.mem_cons_of_mem m mem), List.cons_append]

/-- The controller's own rules. -/
theorem store_runs : (∀ (now : Nat) (st : Store), st.running.isSome = true → st.startNext now = st) ∧
    (∀ (now : Nat) (st : Store) (m : MarkRequest) (rest : List MarkRequest), st.running = none → st.marks = m :: rest →
      st.startNext now = ⟨some ⟨.mark m.item m.value, now + 10⟩, rest, st.host⟩) ∧
    (∀ (now : Nat) (st : Store) (op : StoreOp) (rest : List StoreOp), st.running = none → st.marks = [] → st.host = op :: rest →
      st.startNext now = ⟨some ⟨op, now + (match op with | .commit _ => 40 | _ => 10)⟩, [], rest⟩) := by
  refine ⟨fun now st => startNext_busy now, fun now st m rest free marks => ?_, fun now st op rest free marks host => ?_⟩
  · unfold Store.startNext
    rw [free, marks]
    rfl
  · unfold Store.startNext
    rw [free, marks, host]
    cases op <;> rfl

theorem exec_markWriteDone {item : MarkItem} {value : Bool} {dl : Nat} (on : s.powered = true)
    (running : s.store.running = some ⟨.mark item value, dl⟩) (reached : dl ≤ s.now) :
    exec .markWriteDone s = .next (finishMark item value s) := by
  have due : runningDue s = some (.mark item value) := by
    unfold runningDue
    rw [running]
    exact if_pos reached
  refine (powered_on on).trans ?_
  rw [due]

theorem exec_settingsWriteDone {item : SettingsItem} {owed : Bool} {dl : Nat} (on : s.powered = true)
    (running : s.store.running = some ⟨.settings item owed, dl⟩) (reached : dl ≤ s.now) :
    exec .settingsWriteDone s = .next (finishSettings item owed s) := by
  have due : runningDue s = some (.settings item owed) := by
    unfold runningDue
    rw [running]
    exact if_pos reached
  refine (powered_on on).trans ?_
  rw [due]

/-! ## The end of a settings write (R191, R200) -/

/-- The record stands written and the next operation runs: the state that the record's effect starts from. -/
def State.written (item : SettingsItem) (s : State) : State :=
  { s with nv := s.nv.writeSettings item, store := ({ s.store with running := none }).startNext s.now }

/-- The effect of a record that the store does not enter is the same once the next operation runs. -/
theorem finishSettings_eq {item : SettingsItem} {f : State → State} (owed : Bool) (quiet : Storeless f)
    (effect : applySettings item (endRunning s) = f ({ s with nv := s.nv.writeSettings item, store := { s.store with running := none } }))
    (time : (f (s.written item)).quarters = s.quarters) :
    finishSettings item owed s = (f (s.written item)).repliedTo owed .ok .none := by
  have ended := quiet { s.store with running := none } (s.written item)
  have replied := repliedTo_storeless owed .ok .none { s.store with running := none } (f (s.written item))
  have now : ((f (s.written item)).repliedTo owed .ok .none).now = s.now := by
    have quarters : ((f (s.written item)).repliedTo owed .ok .none).quarters = s.quarters := by
      rw [← time]
      unfold State.repliedTo
      split <;> rfl
    rw [State.now, quarters]
    rfl
  have store : ((f (s.written item)).repliedTo owed .ok .none).store = ({ s.store with running := none }).startNext s.now :=
    ((repliedTo_storeless owed .ok .none).comp quiet).store (s.written item)
  have effect' : applySettings item (endRunning s) = (f (s.written item)).withStore { s.store with running := none } := effect.trans ended
  rw [finishSettings, answerOwed_eq, effect', replied]
  generalize (f (s.written item)).repliedTo owed .ok .none = u at now store
  show u.withStore (Store.startNext u.now { s.store with running := none }) = u
  rw [now, ← store]
  rfl

theorem repliedTo_nv (owed : Bool) (x : Status) (data : ReplyData) (s : State) : (s.repliedTo owed x data).nv = s.nv := by
  unfold State.repliedTo
  split <;> rfl

/-! ## SET_CLASS (R12) -/

theorem foldl_setLine {ls : List LineId} (c : LineId → Prop) [DecidablePred c] (f : LineRecord → LineRecord) (once : ls.Nodup) (s : State) :
    ls.foldl (fun t l => if c l then t.setLine l (f (t.lines.get l)) else t) s =
      { s with lines := Vector.ofFn (fun l => if l ∈ ls ∧ c l then f (s.lines.get l) else s.lines.get l) } := by
  induction ls generalizing s with
  | nil => 
    refine congrArg (fun lines => { s with lines := lines }) (table_ext fun l => ?_)
    simp
  | cons k rest ih =>
    obtain ⟨new, once⟩ := List.nodup_cons.1 once
    rw [List.foldl_cons, ih once]
    by_cases here : c k
    · rw [if_pos here]
      refine congrArg (fun lines => { s with lines := lines }) (table_ext fun l => ?_)
      rw [ofFn_get, ofFn_get]
      by_cases same : l = k
      · subst same
        rw [if_neg fun h => new h.1, if_pos ⟨List.mem_cons_self, here⟩]
        exact put_get_same ..
      · have other : (s.setLine k (f (s.lines.get k))).lines.get l = s.lines.get l := put_get_other _ _ same
        rw [other]
        simp [same]
    · rw [if_neg here]
      refine congrArg (fun lines => { s with lines := lines }) (table_ext fun l => ?_)
      rw [ofFn_get, ofFn_get]
      by_cases same : l = k
      · subst same
        simp [here]
      · simp [same]

/-! ## SET_LOOP (R36) -/

/-- The deadlines of a press under way, computed anew, and what lies in the past taken at once, the duress deadline first. -/
def State.pressSet (k : LoopId) (p : LoopSettings) (t0 : Nat) (st : StationNo) (x : Loop) (s : State) : State :=
  let u := { s with loops := put s.loops k { x with
    duressDl := if x.state = .pressed ∨ x.state = .unresolved then some (t0 + p.tDuress) else none
    stuckDl := some (t0 + p.tStuck * 1000) } }
  let w := if (x.state = .pressed ∨ x.state = .unresolved) ∧ t0 + p.tDuress < s.now then u.duressTaken k st else u
  if t0 + p.tStuck * 1000 < s.now then w.stuckTaken k st else w

theorem pressSet_storeless (k : LoopId) (p : LoopSettings) (t0 : Nat) (st : StationNo) (x : Loop) : Storeless (State.pressSet k p t0 st x) := by
  intro sto s
  have duress : Storeless (fun u => if (x.state = .pressed ∨ x.state = .unresolved) ∧ t0 + p.tDuress < s.now then u.duressTaken k st else u) :=
    .ite (p := fun _ => (x.state = .pressed ∨ x.state = .unresolved) ∧ t0 + p.tDuress < s.now) (fun _ _ => .rfl) (duressTaken_storeless k st) .id
  have stuck : Storeless (fun w : State => if t0 + p.tStuck * 1000 < s.now then w.stuckTaken k st else w) :=
    .ite (p := fun _ => t0 + p.tStuck * 1000 < s.now) (fun _ _ => .rfl) (fun _ _ => rfl) .id
  exact Storeless.comp stuck duress sto { s with loops := put s.loops k { x with
    duressDl := if x.state = .pressed ∨ x.state = .unresolved then some (t0 + p.tDuress) else none
    stuckDl := some (t0 + p.tStuck * 1000) } }

theorem duressTaken_band (k : LoopId) (st : StationNo) (s : State) : BandOnly s (s.duressTaken k st) := by
  obtain ⟨rooms, zones, reach, _⟩ := duressTaken_reach k st s
  exact ⟨(duressRaised k st s).loops, s.freeze || (s.loopSettings k).freeze, rooms, zones, s.acts, s.bank, s.store, _, rfl, reach⟩

theorem pressSet_band (k : LoopId) (p : LoopSettings) (t0 : Nat) (st : StationNo) (x : Loop) (s : State) : BandOnly s (s.pressSet k p t0 st x) := by
  have stuck (u : State) : BandOnly u (u.stuckTaken k st) := (setLoop_reach k _ u).trans (raise_reach ..).band
  have duress (y : Loop) : BandOnly s (if (x.state = .pressed ∨ x.state = .unresolved) ∧ t0 + p.tDuress < s.now then
      (s.setLoop k y).duressTaken k st else s.setLoop k y) :=
    .trans (setLoop_reach k y s) (.ite (duressTaken_band k st (s.setLoop k y)) (.refl (s.setLoop k y)))
  exact .ite ((duress _).trans (stuck _)) (duress _)

theorem past_some (now dl : Nat) : past now (some dl) = decide (dl < now) := rfl

theorem applyLoop_idle {k : LoopId} (p : LoopSettings) (rests : (s.loops.get k).state.inPress = false) :
    applyLoop k p s = { s with nv := s.nv.writeSettings (.loop k p) } := by
  unfold applyLoop
  exact if_neg (by rw [show ({ s with nv := s.nv.writeSettings (.loop k p) } : State).loops = s.loops from rfl, rests]; exact Bool.false_ne_true)

/-- What is left of a loop's record once its duress deadline has been taken. -/
theorem duressTaken_record (k : LoopId) (st : StationNo) (s : State) : (s.duressTaken k st).loops.get k =
    { s.loops.get k with state := if (s.loops.get k).state = .pressed then .duress else .unresolvedDuress, duressDl := none } := by
  obtain ⟨rooms, zones, reach, _⟩ := duressTaken_reach k st s
  rw [reach.loops]
  exact put_get_same ..

/-- What the past of a duress deadline comes to, for a record just set. -/
theorem takeDuress_past {k : LoopId} {st : StationNo} {dl : Nat} {u : State} (held : (u.loops.get k).heldStation = st)
    (deadline : (u.loops.get k).duressDl =
      if (u.loops.get k).state = .pressed ∨ (u.loops.get k).state = .unresolved then some dl else none) :
    (if past u.now (u.loops.get k).duressDl then takeDuress k u else u) =
      if ((u.loops.get k).state = .pressed ∨ (u.loops.get k).state = .unresolved) ∧ dl < u.now then u.duressTaken k st else u := by
  rw [deadline]
  by_cases early : (u.loops.get k).state = .pressed ∨ (u.loops.get k).state = .unresolved
  · rw [if_pos early, past_some, takeDuress_eq early held]
    simp only [early, true_and, decide_eq_true_eq]
  · rw [if_neg early]
    exact (if_neg Bool.false_ne_true).trans (if_neg fun h => early h.1).symm

theorem takeStuck_past {k : LoopId} {st : StationNo} {dl : Nat} {u : State} (held : (u.loops.get k).heldStation = st)
    (press : (u.loops.get k).state.inPress = true) (deadline : (u.loops.get k).stuckDl = some dl) :
    (if past u.now (u.loops.get k).stuckDl then takeStuck k u else u) = if dl < u.now then u.stuckTaken k st else u := by
  rw [deadline, past_some, takeStuck_eq press held]
  simp only [decide_eq_true_eq]

theorem applyLoop_press {k : LoopId} (p : LoopSettings) (press : (s.loops.get k).state.inPress = true) :
    applyLoop k p s = State.pressSet k p ((s.loops.get k).pressAt.getD 0) (s.loops.get k).heldStation (s.loops.get k)
      { s with nv := s.nv.writeSettings (.loop k p) } := by
  obtain ⟨u, set⟩ : ∃ u, u = State.setLoop k { s.loops.get k with
      duressDl := if (s.loops.get k).state = .pressed ∨ (s.loops.get k).state = .unresolved then
        some ((s.loops.get k).pressAt.getD 0 + p.tDuress) else none
      stuckDl := some ((s.loops.get k).pressAt.getD 0 + p.stuckMs) } { s with nv := s.nv.writeSettings (.loop k p) } := ⟨_, rfl⟩
  have record : u.loops.get k = { s.loops.get k with
      duressDl := if (s.loops.get k).state = .pressed ∨ (s.loops.get k).state = .unresolved then
        some ((s.loops.get k).pressAt.getD 0 + p.tDuress) else none
      stuckDl := some ((s.loops.get k).pressAt.getD 0 + p.stuckMs) } := by
    rw [set]
    exact put_get_same ..
  have now : u.now = s.now := by rw [set]; rfl
  have unfolded : applyLoop k p s =
      (let w := if past u.now (u.loops.get k).duressDl then takeDuress k u else u
       if past w.now (w.loops.get k).stuckDl then takeStuck k w else w) := by
    rw [set]
    unfold applyLoop
    refine (if_pos press).trans ?_
    simp only [beforeDuress_iff]
  have first := takeDuress_past (u := u) (st := (s.loops.get k).heldStation) (dl := (s.loops.get k).pressAt.getD 0 + p.tDuress) (by rw [record]; rfl)
    (by rw [record])
  rw [unfolded]
  dsimp only
  rw [first]
  have state : (u.loops.get k).state = (s.loops.get k).state := by rw [record]
  obtain ⟨w, taken⟩ : ∃ w, w = if ((u.loops.get k).state = .pressed ∨ (u.loops.get k).state = .unresolved) ∧
      (s.loops.get k).pressAt.getD 0 + p.tDuress < u.now then u.duressTaken k (s.loops.get k).heldStation else u := ⟨_, rfl⟩
  have kept : w.now = u.now ∧ (w.loops.get k).heldStation = (u.loops.get k).heldStation ∧ (w.loops.get k).stuckDl = (u.loops.get k).stuckDl ∧
      (w.loops.get k).state.inPress = true := by
    rw [taken]
    split
    · refine ⟨congrArg (· / 4) (duressTaken_band k _ u).quarters, ?_⟩
      rw [duressTaken_record]
      refine ⟨rfl, rfl, ?_⟩
      dsimp only
      split <;> rfl
    · exact ⟨rfl, rfl, rfl, by rw [state]; exact press⟩
  obtain ⟨time, held, deadline, presses⟩ := kept
  have second := takeStuck_past (u := w) (st := (s.loops.get k).heldStation) (dl := (s.loops.get k).pressAt.getD 0 + p.stuckMs)
    (by rw [held, record]; rfl) presses (by rw [deadline, record])
  rw [← taken, second, time, now]
  rw [state, now, set] at taken
  rw [taken]
  rfl

end Sys2Proof.Machine


/-! What each settings record does as its write ends (R12, R36, R71, R80, R81, R158, R162, R180, R182, R183, R191, R200). -/

namespace Sys2Proof.Machine

variable {s t : State}

theorem endRunning_eq (s : State) : endRunning s = s.withStore { s.store with running := none } := rfl

/-! ## SET_CLASS, SET_LOOP and SET_ZONE (R12, R36, R71) -/

theorem applied_class (c : LineClass) (p : ClassParams) (owed : Bool) (s : State) : finishSettings (.cls c p) owed s =
    ({ s.written (.cls c p) with lines := Vector.ofFn (fun l =>
      if lineClass l = c then { s.lines.get l with candidate := none, count := 0 } else s.lines.get l) }).repliedTo owed .ok .none := by
  refine finishSettings_eq (f := fun u => { u with lines := Vector.ofFn (fun l =>
    if lineClass l = c then { u.lines.get l with candidate := none, count := 0 } else u.lines.get l) }) owed (fun _ _ => rfl) ?_ rfl
  have dropped := foldl_setLine (fun l => lineClass l = c) (fun x => { x with candidate := none, count := 0 }) (nodup_every 64)
    { s with nv := s.nv.writeSettings (.cls c p), store := { s.store with running := none } }
  refine dropped.trans ?_
  simp only [mem_every, true_and]

theorem applied_loop_idle {k : LoopId} (p : LoopSettings) (owed : Bool) (rests : (s.loops.get k).state.inPress = false) :
    finishSettings (.loop k p) owed s = (s.written (.loop k p)).repliedTo owed .ok .none :=
  finishSettings_eq owed .id (applyLoop_idle (s := endRunning s) p rests) rfl

theorem applied_loop_press {k : LoopId} (p : LoopSettings) (owed : Bool) (press : (s.loops.get k).state.inPress = true) :
    finishSettings (.loop k p) owed s =
      (State.pressSet k p ((s.loops.get k).pressAt.getD 0) (s.loops.get k).heldStation (s.loops.get k) (s.written (.loop k p))).repliedTo
        owed .ok .none :=
  finishSettings_eq owed (pressSet_storeless k p _ _ _) (applyLoop_press (s := endRunning s) p press) (pressSet_band ..).quarters

theorem applied_zone (z : ZoneId) (p : ZoneSettings) (owed : Bool) (s : State) : finishSettings (.zone z p) owed s =
    ({ s.written (.zone z p) with zones := put s.zones z { s.zones.get z with
      countdown := (s.zones.get z).countdown.map (fun c : Countdown => ⟨c.kind, min c.remaining (p.tMax * 1000)⟩) } }).repliedTo
        owed .ok .none := by
  refine finishSettings_eq (f := fun u => { u with zones := put u.zones z { u.zones.get z with
    countdown := (u.zones.get z).countdown.map (fun c : Countdown => ⟨c.kind, min c.remaining (p.tMax * 1000)⟩) } }) owed (fun _ _ => rfl) ?_ rfl
  have settings : State.zoneSettings { s with nv := s.nv.writeSettings (.zone z p), store := { s.store with running := none } } z = p := by
    simp [State.zoneSettings, Nv.writeSettings]
  show clampCountdown z { s with nv := s.nv.writeSettings (.zone z p), store := { s.store with running := none } } = _
  unfold clampCountdown
  dsimp only
  rw [settings]
  rfl

/-! ## SET_ACTUATOR (R80, R81) -/

section
variable {a : ActId} (z : Option ZoneId)

theorem assign_pulsing (pulsing : (s.acts.get a).state = .queued ∨ (s.acts.get a).state = .firing) : assign a z s = s := by
  unfold assign
  dsimp only
  rcases pulsing with state | state <;> rw [state]

theorem assign_concluded (concluded : (s.acts.get a).state = .fired ∨ (s.acts.get a).state = .failed) :
    assign a z s = { s with acts := put s.acts a { s.acts.get a with zone := z } } := by
  unfold assign
  dsimp only
  rcases concluded with state | state <;> rw [state] <;> rfl

/-- An actuator at rest that changes its assignment. -/
theorem assign_resting (resting : (s.acts.get a).state = .unassigned ∨ (s.acts.get a).state = .armed) : assign a z s =
    if (s.acts.get a).zone = z then s
    else { s with acts := put s.acts a (if z = none then
        { s.acts.get a with state := .unassigned, zone := none, fault := false, lastTest := none, nextTest := none }
      else { s.acts.get a with state := .armed, zone := z, fault := false, attempts := 0, nextTest := some s.now }) } := by
  unfold assign
  dsimp only
  rcases resting with state | state <;> rw [state] <;> cases z <;> rfl

end

theorem assign_acts (a : ActId) (z : Option ZoneId) (s : State) : assign a z s = { s with acts := (assign a z s).acts } := by
  have resting (h : (s.acts.get a).state = .unassigned ∨ (s.acts.get a).state = .armed) :
      assign a z s = { s with acts := (assign a z s).acts } := by
    rw [assign_resting z h]
    split <;> rfl
  cases state : (s.acts.get a).state with
  | queued => rw [assign_pulsing z (.inl state)]
  | firing => rw [assign_pulsing z (.inr state)]
  | fired => rw [assign_concluded z (.inl state)]
  | failed => rw [assign_concluded z (.inr state)]
  | unassigned => exact resting (.inl state)
  | armed => exact resting (.inr state)

theorem assign_storeless (a : ActId) (z : Option ZoneId) : Storeless (assign a z) := by
  intro st s
  have resting (h : (s.acts.get a).state = .unassigned ∨ (s.acts.get a).state = .armed) :
      assign a z (s.withStore st) = (assign a z s).withStore st := by
    rw [assign_resting z h, assign_resting (s := s.withStore st) z h, withStore_ite]
    rfl
  cases state : (s.acts.get a).state with
  | queued => rw [assign_pulsing z (.inl state), assign_pulsing (s := s.withStore st) z (.inl state)]
  | firing => rw [assign_pulsing z (.inr state), assign_pulsing (s := s.withStore st) z (.inr state)]
  | fired =>
    rw [assign_concluded z (.inl state), assign_concluded (s := s.withStore st) z (.inl state)]
    rfl
  | failed =>
    rw [assign_concluded z (.inr state), assign_concluded (s := s.withStore st) z (.inr state)]
    rfl
  | unassigned => exact resting (.inl state)
  | armed => exact resting (.inr state)

theorem applied_actuator (a : ActId) (z : Option ZoneId) (owed : Bool) (s : State) : finishSettings (.actuator a z) owed s =
    (assign a z (s.written (.actuator a z))).repliedTo owed .ok .none :=
  finishSettings_eq owed (assign_storeless a z) rfl (by rw [assign_acts]; rfl)

/-! ## SET_DOOR (R158, R162) -/

theorem resetVestibule_eq (r : Role) (s : State) : resetVestibule r s = s.vestibuleCleared r := by
  unfold resetVestibule State.vestibuleCleared
  cases r with
  | vestibuleOuter v => exact foldl_setLocation ..
  | _ => rfl

theorem vestibuleCleared_reach (r : Role) (s : State) : AccessOnly s (s.vestibuleCleared r) := by
  unfold State.vestibuleCleared
  split
  · exact ⟨_, _, _, _, _, _, _, rfl⟩
  · exact .refl s

theorem vestibuleCleared_storeless (r : Role) : Storeless (State.vestibuleCleared r) := fun st s => by
  unfold State.vestibuleCleared
  split <;> rfl

/-- The door takes the role of its new record: UNUSED with its fixed values, or re-derived from its line. -/
def State.roleTaken (d : DoorId) (r : Role) (y : State) : State :=
  if r = .unused then { y with doors := put y.doors d { y.doors.get d with
    state := .secure, mode := .automatic, bolt := .thrown, motion := .idle, releaseDl := none, heldOpenDl := none } }
  else rederive d y

theorem roleTaken_storeless (d : DoorId) (r : Role) : Storeless (State.roleTaken d r) := by
  unfold State.roleTaken
  exact .ite (p := fun _ => r = .unused) (fun _ _ => .rfl) (fun _ _ => rfl) (rederive_storeless d)

theorem roleTaken_reach (d : DoorId) (r : Role) (s : State) : AccessOnly s (s.roleTaken d r) := by
  unfold State.roleTaken
  exact .ite (setDoor_reach ..) (rederive_reach ..)

theorem applied_door_same {d : DoorId} {p : DoorSettings} (owed : Bool) (same : s.role d = p.role) :
    finishSettings (.door d p) owed s = (s.written (.door d p)).repliedTo owed .ok .none :=
  finishSettings_eq owed .id (if_pos same) rfl

theorem applied_door_changed {d : DoorId} {p : DoorSettings} (owed : Bool) (changed : s.role d ≠ p.role) :
    finishSettings (.door d p) owed s =
      (({ (cancelGrant d .doorUnavailable s).vestibuleCleared (s.role d) with
        nv := (s.written (.door d p)).nv, store := (s.written (.door d p)).store }).vestibuleCleared p.role |>.roleTaken d p.role).repliedTo
          owed .ok .none := by
  have cleared : AccessOnly s ((cancelGrant d .doorUnavailable s).vestibuleCleared (s.role d)) :=
    (cancelGrant_reach ..).trans (vestibuleCleared_reach ..)
  obtain ⟨u, here⟩ : ∃ u, (cancelGrant d .doorUnavailable s).vestibuleCleared (s.role d) = u := ⟨_, rfl⟩
  rw [here] at cleared
  refine Eq.trans (finishSettings_eq (f := fun w =>
    (({ u with nv := w.nv, store := w.store } : State).vestibuleCleared p.role).roleTaken d p.role) owed ?_ ?_ ?_) (by rw [here])
  · intro st w
    exact (roleTaken_storeless d p.role).comp (vestibuleCleared_storeless p.role) st { u with nv := w.nv, store := w.store }
  · have ended : (cancelGrant d .doorUnavailable (endRunning s)).vestibuleCleared (s.role d) = u.withStore { s.store with running := none } := by
      rw [← here]
      exact (vestibuleCleared_storeless (s.role d)).comp (cancelGrant_storeless d .doorUnavailable) _ s
    have role : (endRunning s).role d = s.role d := rfl
    show applyDoor d p (endRunning s) = _
    unfold applyDoor
    rw [role]
    refine (if_neg changed).trans ?_
    simp only [resetVestibule_eq]
    rw [ended]
    unfold State.roleTaken
    dsimp only [State.withStore]
    rw [cleared.nv]
    rfl
  · have taken := (vestibuleCleared_reach p.role { u with nv := (s.written (.door d p)).nv, store := (s.written (.door d p)).store }).trans
      (roleTaken_reach d p.role _)
    exact taken.band.quarters.trans cleared.band.quarters

/-! ## SET_WINDOW (R180, R182, R183) -/

/-- A window has been evaluated by a record, and told where that reports edges. -/
def State.windowTaken (w : WindowId) (p : WindowSettings) (u : State) : State :=
  (if u.clock.windows.get w ≠ (u.clock.valid && p.activeAt u.clock.minute) ∧ p.report = true then
    raise .windowEdge (.window w) (some (.named (if (u.clock.valid && p.activeAt u.clock.minute) = true then .windowActive else .windowInactive)))
  else id) { u with clock := { u.clock with windows := put u.clock.windows w (u.clock.valid && p.activeAt u.clock.minute) } }

theorem evalWindow_eq {w : WindowId} {p : WindowSettings} (settings : s.windowSettings w = p) : evalWindow w s = s.windowTaken w p := by
  unfold evalWindow State.windowTaken State.windowNow
  have after : State.windowSettings { s with clock := { s.clock with
      windows := put s.clock.windows w (s.clock.valid && (s.windowSettings w).activeAt s.clock.minute) } } w = p := settings
  dsimp only
  rw [after, settings]
  by_cases edge : s.clock.windows.get w ≠ (s.clock.valid && p.activeAt s.clock.minute) ∧ p.report = true
  · rw [if_pos edge]
    exact if_pos (by rw [Bool.and_eq_true, decide_eq_true_eq]; exact edge)
  · rw [if_neg edge]
    exact if_neg (by rw [Bool.and_eq_true, decide_eq_true_eq]; exact edge)

theorem windowTaken_storeless (w : WindowId) (p : WindowSettings) : Storeless (State.windowTaken w p) := fun st s => by
  have clock : (s.withStore st).clock = s.clock := rfl
  unfold State.windowTaken
  rw [clock]
  split <;> rfl

theorem windowTaken_as (w : WindowId) (p : WindowSettings) (s : State) : ∃ n lost, s.windowTaken w p = { s with
    clock := { s.clock with windows := put s.clock.windows w (s.clock.valid && p.activeAt s.clock.minute) }
    link := { s.link with notices := n, lost := lost } } := by
  unfold State.windowTaken
  split
  · exact raise_as ..
  · exact ⟨_, _, rfl⟩

theorem applied_window (w : WindowId) (p : WindowSettings) (owed : Bool) (s : State) : finishSettings (.window w p) owed s =
    (if w = 0 then ((s.written (.window w p)).windowTaken w p).modeTaken else (s.written (.window w p)).windowTaken w p).repliedTo
      owed .ok .none := by
  refine finishSettings_eq (f := fun u => if w = 0 then (u.windowTaken w p).modeTaken else u.windowTaken w p) owed ?_ ?_ ?_
  · exact .ite (p := fun _ => w = 0) (fun _ _ => .rfl) (modeTaken_storeless.comp (windowTaken_storeless w p)) (windowTaken_storeless w p)
  · have settings : State.windowSettings { s with nv := s.nv.writeSettings (.window w p), store := { s.store with running := none } } w = p := by
      simp [State.windowSettings, Nv.writeSettings]
    show applyWindow w p (endRunning s) = _
    unfold applyWindow
    dsimp only [endRunning]
    rw [evalWindow_eq settings, deriveMode_eq]
  · obtain ⟨n, lost, taken⟩ := windowTaken_as w p (s.written (.window w p))
    split
    · rw [modeTaken_eq, taken]
      rfl
    · rw [taken]
      rfl

end Sys2Proof.Machine


/-! The store controller's obligation assembled: marks, and each settings record with its reply (R191, R200). -/

namespace Sys2Proof.Machine

variable {s t : State}

/-- Each record stands written as its effect begins, and no effect touches the nonvolatile memory. -/
theorem finishSettings_nv (item : SettingsItem) (owed : Bool) (s : State) : (finishSettings item owed s).nv = s.nv.writeSettings item := by
  cases item with
  | cls c p =>
    rw [applied_class, repliedTo_nv]
    rfl
  | loop k p =>
    cases press : (s.loops.get k).state.inPress with
    | false =>
      rw [applied_loop_idle p owed press, repliedTo_nv]
      rfl
    | true =>
      rw [applied_loop_press p owed press, repliedTo_nv, (pressSet_band ..).nv]
      rfl
  | zone z p =>
    rw [applied_zone, repliedTo_nv]
    rfl
  | actuator a z =>
    rw [applied_actuator, repliedTo_nv, assign_acts]
    rfl
  | door d p =>
    by_cases same : s.role d = p.role
    · rw [applied_door_same owed same, repliedTo_nv]
      rfl
    · rw [applied_door_changed owed same, repliedTo_nv, (roleTaken_reach ..).nv, (vestibuleCleared_reach ..).nv]
      rfl
  | window w p =>
    obtain ⟨n, lost, taken⟩ := windowTaken_as w p (s.written (.window w p))
    rw [applied_window, repliedTo_nv]
    split
    · rw [modeTaken_eq, taken]
      rfl
    · rw [taken]
      rfl

theorem repliedTo_clock (owed : Bool) (x : Status) (data : ReplyData) (s : State) : (s.repliedTo owed x data).clock = s.clock := by
  unfold State.repliedTo
  split <;> rfl

theorem repliedTo_lines (owed : Bool) (x : Status) (data : ReplyData) (s : State) : (s.repliedTo owed x data).lines = s.lines := by
  unfold State.repliedTo
  split <;> rfl

theorem repliedTo_places (owed : Bool) (x : Status) (data : ReplyData) (s : State) :
    (s.repliedTo owed x data).vests = s.vests ∧ (s.repliedTo owed x data).locations = s.locations := by
  unfold State.repliedTo
  split <;> exact ⟨rfl, rfl⟩

theorem settled_loop {k : LoopId} {x : Loop} (record : s.loops.get k = x) (p : LoopSettings) (owed : Bool)
    (rests : x.state = .idle ∨ x.state = .stuck ∨ x.state = .fault) :
    finishSettings (.loop k p) owed s = (s.written (.loop k p)).repliedTo owed .ok .none :=
  applied_loop_idle p owed (by rw [record]; rcases rests with e | e | e <;> rw [e] <;> rfl)

theorem settled_press {k : LoopId} {x : Loop} {t0 : Nat} (record : s.loops.get k = x) (p : LoopSettings) (owed : Bool)
    (press : x.state = .pressed ∨ x.state = .unresolved ∨ x.state = .duress ∨ x.state = .unresolvedDuress) (since : x.pressAt = some t0) :
    finishSettings (.loop k p) owed s = (State.pressSet k p t0 x.heldStation x (s.written (.loop k p))).repliedTo owed .ok .none := by
  have presses : (s.loops.get k).state.inPress = true := by rw [record]; rcases press with e | e | e | e <;> rw [e] <;> rfl
  rw [applied_loop_press p owed presses, record, since]
  rfl

/-- A press none of whose deadlines has passed. -/
theorem pressSet_ahead {k : LoopId} {p : LoopSettings} {t0 : Nat} {x : Loop} (st : StationNo)
    (duress : x.state = .pressed ∨ x.state = .unresolved → s.now ≤ t0 + p.tDuress) (stuck : s.now ≤ t0 + p.tStuck * 1000) :
    s.pressSet k p t0 st x = { s with loops := put s.loops k { x with
      duressDl := if x.state = .pressed ∨ x.state = .unresolved then some (t0 + p.tDuress) else none
      stuckDl := some (t0 + p.tStuck * 1000) } } := by
  unfold State.pressSet
  dsimp only
  rw [if_neg (Nat.not_lt.2 stuck), if_neg fun h => Nat.not_lt.2 (duress h.1) h.2]

theorem settled_door_free {d : DoorId} {p : DoorSettings} (owed : Bool) (changed : s.role d ≠ p.role) (free : s.grants.get d = none)
    (outer : ∀ v, s.role d ≠ .vestibuleOuter v) : finishSettings (.door d p) owed s =
      (((s.written (.door d p)).vestibuleCleared p.role).roleTaken d p.role).repliedTo owed .ok .none := by
  have kept : s.vestibuleCleared (s.role d) = s := by
    unfold State.vestibuleCleared
    split
    · next v role => exact absurd role (outer v)
    · rfl
  rw [applied_door_changed owed changed, cancelGrant_free .doorUnavailable free, kept]
  rfl

theorem vestibuleCleared_other {r : Role} (other : ∀ v, r ≠ .vestibuleOuter v) (s : State) : s.vestibuleCleared r = s := by
  unfold State.vestibuleCleared
  split
  · next v => exact absurd rfl (other v)
  · rfl

theorem vestibuleCleared_as (r : Role) (s : State) : s.vestibuleCleared r = { s with
    vests := (s.vestibuleCleared r).vests, locations := (s.vestibuleCleared r).locations } := by
  unfold State.vestibuleCleared
  split <;> rfl

theorem roleTaken_unbolted {d : DoorId} {r : Role} (used : r ≠ .unused) (latch : (s.doors.get d).latch = false)
    (auto : (s.doors.get d).mode = .automatic) (band : s.doorBand d = .unbolted) :
    s.roleTaken d r = s.setDoor d ((s.doors.get d).throwing .relocking s.now) :=
  (if_neg used).trans (rederive_unbolted latch auto band)

/-- Settles O44: the controller's rules, a mark that stands written, and each settings record's effect with its reply. -/
theorem storeCompletesWrites : Obligations.StoreCompletesWrites := by
  obtain ⟨busy, mark, host⟩ := store_runs
  refine ⟨⟨busy, mark, host, fun item value pre post old => joinMarks_waiting value old post, fun item value marks => joinMarks_new value⟩,
    fun s item value dl on running reached => ?_, fun s item owed dl on running reached => ?_⟩
  · refine ⟨_, exec_markWriteDone on running reached, ?_, ?_, ?_, rfl⟩ <;> rintro x rfl <;> rfl
  · refine ⟨_, exec_settingsWriteDone on running reached, finishSettings_nv item owed s, ?_⟩
    rintro done rfl
    refine ⟨?_, ?_, ?_, ?_, ?_, ?_, ?_, ?_, ?_, ?_, ?_⟩
    · rintro c p rfl
      rw [applied_class, repliedTo_lines]
      exact ⟨rfl, fun l => ofFn_get ..⟩
    · rintro k p x rfl record rests
      exact settled_loop record p owed rests
    · rintro k p x t0 st rfl record since station press u w rfl rfl
      rw [settled_press record p owed press since, heldStation_eq station]
      rfl
    · rintro k p x t0 rfl record since
      refine ⟨settled_loop record p owed, fun early duress stuck => ?_, fun late stuck => ?_⟩
      · have press : x.state = .pressed ∨ x.state = .unresolved ∨ x.state = .duress ∨ x.state = .unresolvedDuress :=
          early.imp_right .inl
        rw [settled_press record p owed press since, pressSet_ahead (s := s.written (.loop k p)) _ (fun _ => duress) stuck, if_pos early]
        rfl
      · have press : x.state = .pressed ∨ x.state = .unresolved ∨ x.state = .duress ∨ x.state = .unresolvedDuress := .inr (.inr late)
        have notEarly : ¬ (x.state = .pressed ∨ x.state = .unresolved) := by rcases late with e | e <;> rw [e] <;> decide
        rw [settled_press record p owed press since, pressSet_ahead (s := s.written (.loop k p)) _ (fun h => absurd h notEarly) stuck, if_neg notEarly]
        rfl
    · rintro z p rfl
      exact applied_zone z p owed s
    · rintro a z x rfl rfl
      rw [applied_actuator]
      have acts : (s.written (.actuator a z)).acts = s.acts := rfl
      refine ⟨?_, fun concluded => ?_, fun resting changes => ?_⟩
      · rintro (state | state | ⟨resting, same⟩)
        · rw [assign_pulsing z (by rw [acts]; exact .inl state)]
          rfl
        · rw [assign_pulsing z (by rw [acts]; exact .inr state)]
          rfl
        · rw [assign_resting z (by rw [acts]; exact resting), if_pos (by rw [acts]; exact same)]
          rfl
      · rw [assign_concluded z (by rw [acts]; exact concluded)]
        rfl
      · rw [assign_resting z (by rw [acts]; exact resting), if_neg (by rw [acts]; exact changes)]
        rfl
    · rintro d p x rfl rfl
      refine ⟨applied_door_same owed, fun changed free outer => ⟨fun unused => ?_, fun used latch auto band => ?_⟩⟩
      · rw [settled_door_free owed changed free outer, vestibuleCleared_other (by rw [unused]; nofun)]
        unfold State.roleTaken
        rw [if_pos unused]
        rfl
      · have cleared := vestibuleCleared_as p.role (s.written (.door d p))
        rw [settled_door_free owed changed free outer, cleared,
          roleTaken_unbolted used (by exact latch) (by exact auto) (by exact band), (repliedTo_places ..).1, (repliedTo_places ..).2]
        refine ⟨rfl, fun v role => ?_, fun other => ?_⟩
        · show ((s.written (.door d p)).vestibuleCleared p.role).vests = _
          rw [role]
          rfl
        · show ((s.written (.door d p)).vestibuleCleared p.role).vests = _ ∧ ((s.written (.door d p)).vestibuleCleared p.role).locations = _
          rw [vestibuleCleared_other other]
          exact ⟨rfl, rfl⟩
    · rintro d p rfl changed u rfl y rfl
      rw [applied_door_changed owed changed]
      refine ⟨fun unused => ?_, fun used => ?_⟩
      · unfold State.roleTaken
        rw [if_pos unused]
        rfl
      · unfold State.roleTaken
        rw [if_neg used]
        rfl
    · rintro p rfl after rfl
      rw [applied_window, if_pos rfl]
      rfl
    · rintro w p rfl other after rfl
      rw [applied_window, if_neg other]
      rfl
    · rintro p rfl
      rw [applied_window, if_pos rfl, repliedTo_clock, modeTaken_clock]
      obtain ⟨n, lost, taken⟩ := windowTaken_as 0 p (s.written (.window 0 p))
      rw [taken]
      exact ⟨rfl, rfl⟩

end Sys2Proof.Machine
